-- ==== Sys2Proof/Word.lean ====
section
/-! DEFINITION. The words of the ZH340: bytes of a frame, codes of the wheel sensor, the position count, and the
tick in which the model counts time. -/

namespace Sys2Proof

/-- One byte of a frame on the hold segment. -/
abbrev Byte := BitVec 8

/-- One conversion of a wheel-sensor channel: a signed code in −2,048..+2,047 (R1). -/
abbrev Code := BitVec 12

/-- The position counter: a signed 32-bit count that wraps modulo 2³² (R14). -/
abbrev Count := BitVec 32

/-- The model counts time in ticks of 100 µs, the shortest sample period of R1. `ms n` is n milliseconds. -/
abbrev ms (n : Nat) : Nat := 10 * n

/-- `sec n` is n seconds in ticks of 100 µs. -/
abbrev sec (n : Nat) : Nat := 10000 * n

end Sys2Proof
end

