-- ==== Sys2Proof/Syntax.lean ====
section
/-! DEFINITION. The commands of the ZH340: one constructor for each row of spec/opcode_table.json, with the operands
that the spec's rules give the step: the conversions of a sample, the bytes of a frame, the pins read. The rows carry
no bits, so a command is named and not encoded. -/

namespace Sys2Proof

/-- One accelerometer reading, in thousandths of standard gravity on the axes of the housing (R43). -/
structure Accel where
  x : Int
  y : Int
  z : Int
  deriving DecidableEq, Repr, Inhabited

/-- The three vehicle stations whose records the VIR keeps (R72). -/
inductive Station
  | cab
  | drive
  | drum
  deriving DecidableEq, Repr, Inhabited

/-- The commands. A row that names a sample at which something comes about (NOISE_OVERRUN, SETTLED_REPORT, …) carries
the operands of that sample. A row that is the arrival of a frame carries the frame's data bytes as received, whatever
their number, since a wrong data length is answered (R169). -/
inductive Instr
  | powerOn (num0 num1 num2 spring pol key : Bool)
  | initEnd
  | clockFailure
  | wheelSample (sine cosine : Code)
  | noiseOverrun (sine cosine : Code)
  | amplitudeLoss (sine cosine : Code)
  | cleanWindowRecovery (sine cosine : Code)
  | locked (sine cosine : Code)
  | lockNotAchieved (sine cosine : Code)
  | stationaryAsserted (sine cosine : Code)
  | breachVelocityTimeExpiry (sine cosine : Code)
  | accelerometerReading (reading : Option Accel)
  | accelerometerWindowFault (reading : Option Accel)
  | gradeDisagreement (reading : Option Accel)
  | loadReading (millivolts : Nat)
  | loadInputFault (millivolts : Nat)
  | declaration (sender : Nat) (data : List Byte)
  | peerStale (node : Nat)
  | peerExpired (node : Nat)
  | alert (sender : Nat) (data : List Byte)
  | lastAlertRemoval (node : Nat)
  | cabStatus (data : List Byte)
  | driveDemand (data : List Byte)
  | drumStatus (data : List Byte)
  | recordStale (station : Station)
  | captureQualifyingExpiry
  | captureSettleExpiry
  | releaseRampStep
  | releaseTimeExpiry
  | insufficiencyTimeExpiry
  | driverAbsentTimeExpiry
  | secureTimeExpiry
  | handoverSettleExpiry
  | handoverRampStep
  | wakeHoldExpiry
  | pressureReading (kPa : Int)
  | chamberSensorOutOfRange (kPa : Int)
  | settledReport (kPa : Int)
  | applyTimeout (kPa : Int)
  | ventTimeout (kPa : Int)
  | readbackSample (hold apply vent : Bool)
  | readbackMismatch (hold apply vent : Bool)
  | driveTimeExpiry
  | springReading (kPa : Int)
  | springSensorOutOfRange (kPa : Int)
  | confirmTimeout
  | confirmLost (kPa : Int)
  | declarationTimerExpiry
  | frameOffer
  | arbitrationLost
  | transmitError
  | transmitSuccess
  | receiveError
  | recessiveRun
  | qualifyingDominantPhase
  | rouseWindowExpiry
  | keyLineEdge
  | readStatus (target : Nat) (data : List Byte)
  | readBank (target : Nat) (data : List Byte)
  | clearBank (target : Nat) (data : List Byte)
  | clearAll (target : Nat) (data : List Byte)
  | readPeer (target : Nat) (data : List Byte)
  | restart (target : Nat) (data : List Byte)
  | configureGroup (data : List Byte)
  | configureClose (data : List Byte)
  | windowExpiry
  | reliefTimeExpiry
  | brownOut
  | reinitialisationComplete
  | restartTimeout
  | safeDwellExpiry
  | keyLineFallingEdge
  | successfulReception
  | undefinedServiceCommand (target : Nat) (data : List Byte)
  | undefinedConfigureGroup (data : List Byte)
  deriving DecidableEq, Repr, Inhabited

end Sys2Proof
end

