-- ==== Sys2Proof/Decode.lean ====
section
/-! DEFINITION. The command that a word spells by the bits of spec/opcode_table.json. No row of that table gives
bits, so no word spells a command. -/

namespace Sys2Proof

/-- No row of spec/opcode_table.json carries bits: no word spells a command of this block. -/
def decodeTableWord (_nbits _w : Nat) : Option Instr := none

end Sys2Proof
end

