-- ==== Sys2Proof/Config.lean ====
section
/-! DEFINITION. What the spec leaves open: the free values of the model. Each is opaque, so that no proof can see what
it is. -/

namespace Sys2Proof

/-- The release result of stage 10 (R91, R92): the remaining hold R, the release share S_rel and the release pressure
P_rel. -/
structure ReleaseResult where
  remaining : Nat
  share : Nat
  pressure : Nat
  deriving DecidableEq, Repr, Inhabited

/-- What one lane of the hold computation makes in stages 4 to 8 and 10, in the order in which R94 compares it. -/
structure HalResult where
  fReq : Nat
  traction : Nat
  brake : Nat
  cOwn : Nat
  sumC : Nat
  share : Nat
  insufficient : Bool
  pCalc : Nat
  fGrav : Nat
  release : Option ReleaseResult
  deriving DecidableEq, Repr, Inhabited

/-- A fault within the HAL (R94): at the recomputation made after `after` others of the same command, one lane gives
`result`. -/
structure LaneFault where
  after : Nat
  result : HalResult
  deriving DecidableEq, Repr, Inhabited

/-- The choices that the spec leaves open within one command. `order` numbers the orders of handings that the spec does
not order (R65, R79); the Booleans say which of two things is taken first: a secure trigger or a release, the completion
of a release or its abort, a report or the entry to SAFE it goes with, the expected-count report or the report mask at
the end of CONFIG, the report of blind creep or its handing to the HPC; `laneFault` says whether a lane goes wrong. A
command reads the choices held in the state and draws the next ones (log entries 2, 10, 23, 31, 34 and 40). -/
structure Free where
  order : Nat
  triggerFirst : Bool
  completionFirst : Bool
  reportFirst : Bool
  checkFirst : Bool
  blindReportFirst : Bool
  laneFault : Option LaneFault
  deriving DecidableEq, Repr, Inhabited

/-- The stream of the choices that the spec leaves open, one entry drawn at the end of each command (log entry
2). -/
opaque Config.free : Nat → Free

/-- Whether the sine entry k of the table of R9 is the value rounded up in magnitude. The spec gives the scale of the
entries and no rounding. Not asked of the four exact entries (log entry 16). -/
opaque Config.sineRoundsUp : Nat → Bool

/-- As `Config.sineRoundsUp`, for the cosine entry k (log entry 16). -/
opaque Config.cosineRoundsUp : Nat → Bool

/-- Which of two whole counts equally near in direction R18 takes, asked of the higher one (log entry 17). -/
opaque Config.angleTieTakesHigher : Nat → Bool

/-- Whether the sample of a wrap that both completes a learning cycle and opens the next is summed in the next one
(R7 does not say; log entry 18). -/
opaque Config.wrapSampleOpensCycle : Bool

/-- Whether the confirm time of R155 runs in a node whose reference oscillator has not become stable (the rule gives
its timebase as the reference clock and the mode is entered all the same; log entry 47). -/
opaque Config.confirmTimeRunsWithoutReference : Bool

/-- Whether the drive time of R150 runs in such a node, for a drive not begun in INIT (the rule gives its timebase as the
reference clock; log entry 47). -/
opaque Config.driveTimeRunsWithoutReference : Bool

/-- Whether READ PEER answers BAD ARGUMENT when bits 6 and 7 of its argument are not 0 (R182 names bits 0 to 5; log entry 29). -/
opaque Config.readPeerRefusesHighBits : Bool

end Sys2Proof
end

