-- ==== Sys2Proof/Machine/State.lean ====
section
/-! DEFINITION. The state of the ZH340, block by block as the spec's chapters list it, and the state after reset. -/

namespace Sys2Proof.Machine

/-! ## Names -/

/-- The node modes (chapter 10). -/
inductive Mode
  | init | config | run | watch | restart | safe
  deriving DecidableEq, Repr, Inhabited

/-- The hold phases of the HPC (chapter 6). -/
inductive Phase
  | released | capturing | holding | releasing | securing | secured
  deriving DecidableEq, Repr, Inhabited

/-- The phase a Declaration carries: a hold phase, or SAFE in its place. -/
inductive DeclaredPhase
  | phase (p : Phase)
  | safe
  deriving DecidableEq, Repr, Inhabited

/-- Axle roles, configuration group 1. -/
inductive AxleRole
  | steer | drive | pusher | tag
  deriving DecidableEq, Repr, Inhabited

/-- Severities of a fault record. "None" of a declared severity is `Option.none`. -/
inductive Severity
  | advisory | degraded | severe
  deriving DecidableEq, Repr, Inhabited

/-- Causes of an Alert (R172). -/
inductive AlertCause
  | breach | insufficient | safeEntered | parkedCreep
  deriving DecidableEq, Repr, Inhabited

/-- Gear directions of the drive record (R72). -/
inductive Gear
  | neutral | forward | reverse
  deriving DecidableEq, Repr, Inhabited

/-- Freshness of a peer entry (R66). -/
inductive Freshness
  | fresh | stale | expired
  deriving DecidableEq, Repr, Inhabited

/-- The six fault banks (chapter 11). -/
inductive Bank
  | sense | mass | link | valve | spring | node
  deriving DecidableEq, Repr, Inhabited

/-- Fault classes (chapter 11, table of code parts). -/
inductive FaultClass
  | signal | range | timing | consistency | identity
  deriving DecidableEq, Repr, Inhabited

/-- Fault elements (chapter 11, table of elements). -/
inductive Element
  | sineChannel | cosineChannel | creep | accelerometer | gradeDisagreement | loadInput | chamberSensor
  | holdValve | applyValve | ventValve | springChamber | springSensor | parkApplyValve | holdComputation
  | referenceClock | supply | cabStation | powertrainStation | drumStation | serviceTool
  | peer (n : Nat)
  | group (g : Nat)
  deriving DecidableEq, Repr, Inhabited

/-- The activity part of a fault code: the HPC's phase in RUN, the mode in any other mode (R199). -/
inductive Activity
  | inPhase (p : Phase)
  | inMode (m : Mode)
  deriving DecidableEq, Repr, Inhabited

/-! ## WMT (chapter 1) -/

/-- The signal state of the WMT. -/
inductive Signal
  | starting | tracking | outage
  deriving DecidableEq, Repr, Inhabited

/-- What the WMT keeps for one channel: the last accepted sample and rejection run (R2, R3); the previous raw code, the
stuck run, the other channel's lowest and highest accepted code over it, and whether the channel is stuck (R4). -/
structure Channel where
  last : Int
  rejections : Nat
  raw : Int
  stuckRun : Nat
  otherLow : Int
  otherHigh : Int
  stuck : Bool
  deriving DecidableEq, Repr, Inhabited

/-- A learning cycle in progress (R7). -/
structure LearnCycle where
  forward : Bool
  sineSum : Int
  cosineSum : Int
  count : Nat
  sineLow : Int
  sineHigh : Int
  cosineLow : Int
  cosineHigh : Int
  deriving DecidableEq, Repr, Inhabited

/-- The Wheel Motion Tracker. `slow` is the 1 ms sample period, otherwise it is 100 µs (R1); `fresh` says that no sample
has been taken since sampling started (R2); φ and v are in units of 1/65,536 count (R9, R11); times are in ticks.
Speed-valid follows position-valid (R15) and the speed is formed from v, so neither is stored a second time. -/
structure Wmt where
  sampling : Bool
  slow : Bool
  fresh : Bool
  sine : Channel
  cosine : Channel
  sineOffset : Int
  cosineOffset : Int
  gain : Int
  learning : Option LearnCycle
  amplitudeRun : Nat
  signal : Signal
  cleanCount : Nat
  phi : Nat
  v : Int
  highGain : Bool
  locked : Bool
  lockTime : Nat
  position : Count
  positionValid : Bool
  stationary : Bool
  stationaryTime : Nat
  lockWatch : Nat
  lockReported : Bool
  deriving DecidableEq, Repr, Inhabited

/-! ## CSU (chapter 2) -/

/-- The hold anchor: absent, pending (to be taken at the first valid position), or a position count. -/
inductive Anchor
  | absent
  | pending
  | held (count : Count)
  deriving DecidableEq, Repr, Inhabited

/-- The Creep Supervisor. Creeps are in millimetres, downhill positive. `effective` is none while blind. -/
structure Csu where
  anchor : Anchor
  offset : Int
  own : Int
  ownValid : Bool
  lastValidOwn : Int
  effective : Option Int
  lastEffective : Int
  noticeBase : Int
  nextPoint : Int
  notice : Bool
  breach : Bool
  creepGap : Bool
  blind : Bool
  breachTime : Nat
  ownLevel : Nat
  nodeLevel : Nat
  deriving DecidableEq, Repr, Inhabited

/-! ## GLU (chapter 3) -/

/-- Status of the vehicle grade (R50). -/
inductive GradeStatus
  | formed | held | default
  deriving DecidableEq, Repr, Inhabited

/-- The Grade and Load Unit. `reading` says whether it takes readings (R57 to R59). The disagreement time is in
milliseconds. -/
structure Glu where
  reading : Bool
  accelHistory : List Accel
  windowRun : Nat
  ownGrade : Int
  gradeValid : Bool
  gradeFormed : Bool
  disagreement : Nat
  vehicleGrade : Int
  gradeStatus : GradeStatus
  loadHistory : List Nat
  loadRun : Nat
  ownLoad : Nat
  loadKnown : Bool
  lifted : Bool
  mass : Nat
  deriving DecidableEq, Repr, Inhabited

/-! ## PVT and VIR (chapter 4) -/

/-- The fields a Declaration declares, but for the Park-Apply bit, which no node reads (R64, chapter 9). The load is in
10 kg units, the capacity in 10 N units. -/
structure Declared where
  role : AxleRole
  springFitted : Bool
  phase : DeclaredPhase
  level : Nat
  releasePermitted : Bool
  load : Nat
  capacity : Nat
  grade : Int
  gradeValid : Bool
  creep : Int
  creepValid : Bool
  notice : Bool
  severity : Option Severity
  deriving DecidableEq, Repr, Inhabited

/-- The last-alert part of an entry (R69, R70). The age is in ticks. -/
structure LastAlert where
  cause : AlertCause
  level : Nat
  creep : Int
  age : Nat
  deriving DecidableEq, Repr, Inhabited

/-- One entry of the Peer View Table. The age is in ticks; the freshness changes at the events R66 names. -/
structure PeerEntry where
  node : Nat
  decl : Declared
  creepSteady : Bool
  age : Nat
  freshness : Freshness
  lastAlert : Option LastAlert
  deriving DecidableEq, Repr, Inhabited

/-- The Peer View Table: its entries in ascending order of node number, the time since the last own-number frame while
that is below 300 ms (R62), and whether the expected-count report has been made (R71). -/
structure Pvt where
  entries : List PeerEntry
  clashTime : Option Nat
  expectedReported : Bool
  deriving DecidableEq, Repr, Inhabited

/-- The fields of a Cab status frame. -/
structure CabFields where
  ignition : Bool
  seat : Bool
  door : Bool
  rearControl : Bool
  switchAuto : Bool
  deriving DecidableEq, Repr, Inhabited

/-- The fields of a Drive demand frame. The force is in 10 N units. -/
structure DriveFields where
  gear : Gear
  force : Nat
  deriving DecidableEq, Repr, Inhabited

/-- The fields of a Drum status frame. -/
structure DrumFields where
  speed : Int
  discharge : Bool
  deriving DecidableEq, Repr, Inhabited

/-- The age of a station record in ticks, and whether it is fresh (R72). -/
structure RecordAge where
  age : Nat
  fresh : Bool
  deriving DecidableEq, Repr, Inhabited

/-- The Vehicle Input Records. A record is none while it is absent (R72). -/
structure Vir where
  cab : Option (CabFields × RecordAge)
  drive : Option (DriveFields × RecordAge)
  drum : Option (DrumFields × RecordAge)
  deriving DecidableEq, Repr, Inhabited

/-! ## HAL (chapter 5) -/

/-- Whether the lanes agree (R94 to R96). -/
inductive LaneStatus
  | agreed | mismatched
  deriving DecidableEq, Repr, Inhabited

/-- The Hold Allocator: the effective margin, the last delivered result and the lane status. Its inputs are the owners'
own fields, and the declared capacity is formed from them by R84. -/
structure Hal where
  margin : Nat
  result : HalResult
  lanes : LaneStatus
  deriving DecidableEq, Repr, Inhabited

/-! ## HPC (chapter 6) -/

/-- The HAL's delivery as the HPC keeps it (R94). The release pressure is none while the release is unavailable. -/
structure Delivery where
  pCalc : Nat
  insufficient : Bool
  fGrav : Nat
  release : Option Nat
  deriving DecidableEq, Repr, Inhabited

/-- The release record, present in RELEASING. The origin is none when the travel is unknown (R110); times in ticks. -/
structure ReleaseRecord where
  preHold : Nat
  origin : Option Count
  travel : Int
  time : Nat
  rampTime : Nat
  goal : Nat
  deriving DecidableEq, Repr, Inhabited

/-- Stages of the handover (R116, R119). -/
inductive Stage
  | confirm | settle | wait | ramp
  deriving DecidableEq, Repr, Inhabited

/-- The handover record, present in SECURING, with whether the stay in WAIT has reported (R119). -/
structure HandoverRecord where
  preHold : Nat
  stage : Stage
  stageTime : Nat
  noSpringReported : Bool
  deriving DecidableEq, Repr, Inhabited

/-- The resume record of a hold (R125). "No hold" is `Option.none`. -/
structure Resume where
  phase : Phase
  level : Nat
  pressure : Nat
  creep : Int
  deriving DecidableEq, Repr, Inhabited

/-- The Hold Phase Controller. Times are in ticks. `retained` is the retained target while service retained is set. -/
structure Hpc where
  phase : Phase
  pCap : Option Nat
  pHold : Nat
  last : Delivery
  qualifyingTime : Nat
  settleTime : Nat
  holdTime : Nat
  insufficiencyTime : Nat
  driverAbsentTime : Nat
  release : Option ReleaseRecord
  releaseArmed : Bool
  handover : Option HandoverRecord
  handoverFailed : Bool
  retained : Option Nat
  request : Bool
  withdrawalPending : Bool
  resume : Option Resume
  deriving DecidableEq, Repr, Inhabited

/-! ## CPR (chapter 7) -/

/-- State of a pressure sensor. -/
inductive SensorState
  | noReading | valid | outOfRange
  deriving DecidableEq, Repr, Inhabited

/-- Direction of a pressure operation. -/
inductive Direction
  | apply | vent
  deriving DecidableEq, Repr, Inhabited

/-- The four combinations in which the CPR drives its valves; no other is commanded (R128). -/
inductive Valves
  | passThrough | holdOnly | applying | venting
  deriving DecidableEq, Repr, Inhabited

/-- A pressure operation with its operation time in milliseconds (R135, R136). -/
structure Operation where
  direction : Direction
  time : Nat
  deriving DecidableEq, Repr, Inhabited

/-- The readback watch of one valve: the last current sense, the mismatch time in milliseconds and the reported mark
(R143, R144). -/
structure Readback where
  current : Bool
  mismatch : Nat
  reported : Bool
  deriving DecidableEq, Repr, Inhabited

/-- The Chamber Pressure Regulator. `reading` says whether it takes pressure readings (R146 to R148); times are in
milliseconds, one to a reading (R132). -/
structure Cpr where
  reading : Bool
  regulating : Bool
  target : Nat
  measured : Nat
  sensor : SensorState
  rangeRun : Nat
  operation : Option Operation
  settleTime : Nat
  settleOwed : Bool
  abandoned : Bool
  applyReported : Bool
  ventReported : Bool
  valves : Valves
  holdBack : Readback
  applyBack : Readback
  ventBack : Readback
  deriving DecidableEq, Repr, Inhabited

/-! ## PAD (chapter 8) -/

/-- The coil drive in progress (R150). -/
inductive Drive
  | idle | apply | withdraw
  deriving DecidableEq, Repr, Inhabited

/-- The request last handed by the HPC (R149). -/
inductive HpcRequest
  | assert | withdraw | lapsed
  deriving DecidableEq, Repr, Inhabited

/-- The confirm watch (R155). -/
inductive Watch
  | idle | waiting | confirmed | timedOut
  deriving DecidableEq, Repr, Inhabited

/-- The Park-Apply Driver. Drive and confirm time are in ticks; the confirm-lost time is in milliseconds. -/
structure Pad where
  reading : Bool
  asserted : Bool
  drive : Drive
  driveTime : Nat
  hpcRequest : HpcRequest
  mdcRequest : Bool
  pressure : Nat
  sensor : SensorState
  rangeRun : Nat
  watch : Watch
  confirmTime : Nat
  lostTime : Nat
  lostReported : Bool
  deriving DecidableEq, Repr, Inhabited

/-! ## SGI (chapter 9) -/

/-- Kinds of frame the node sends, in the order of their identifiers (R167). -/
inductive TxKind
  | rouse | alert | declaration | reply
  deriving DecidableEq, Repr, Inhabited

/-- A frame of the transmit list. -/
structure TxFrame where
  kind : TxKind
  id : Nat
  data : List Byte
  deriving DecidableEq, Repr, Inhabited

/-- The transmission in progress: the frame as offered, and whether its list entry has been replaced since (R174). -/
structure Transmission where
  frame : TxFrame
  replaced : Bool
  deriving DecidableEq, Repr, Inhabited

/-- Bus states (R177). -/
inductive Bus
  | active | passive | off | stopped
  deriving DecidableEq, Repr, Inhabited

/-- The Segment Interface. The Declaration timer and the rouse window are in ticks. `restartOwed` holds the argument of
a service RESTART still to be answered (R183). -/
structure Sgi where
  list : List TxFrame
  inProgress : Option Transmission
  txErrors : Nat
  rxErrors : Nat
  bus : Bus
  recovery : Nat
  declarationTimer : Nat
  rouseCount : Nat
  rouseWindow : Nat
  restartOwed : Option Byte
  deriving DecidableEq, Repr, Inhabited

/-! ## MDC (chapter 10) -/

/-- The straps latched in INIT (R184): the node number 1..8, SPRING and POL. -/
structure Straps where
  number : Nat
  spring : Bool
  pol : Bool
  deriving DecidableEq, Repr, Inhabited

/-- Whether a report mask reports one severity, bank by bank (configuration group 5). -/
structure BankMask where
  sense : Bool
  mass : Bool
  link : Bool
  valve : Bool
  spring : Bool
  node : Bool
  deriving DecidableEq, Repr, Inhabited

/-- The values of the five configuration groups (chapter 10, configuration table). -/
structure Settings where
  role : AxleRole
  nExp : Nat
  circumference : Nat
  gain : Nat
  pMax : Nat
  pPush : Nat
  pStep : Nat
  friction : Nat
  margin : Nat
  drumMargin : Nat
  tSec : Nat
  noticeThreshold : Nat
  escalateInterval : Nat
  breachThreshold : Nat
  breachVelocity : Nat
  lUnk : Nat
  restartLimit : Nat
  advisoryMask : BankMask
  degradedMask : BankMask
  deriving DecidableEq, Repr, Inhabited

/-- The written flags of the five groups. -/
structure Written where
  axle : Bool
  brake : Bool
  hold : Bool
  creep : Bool
  node : Bool
  deriving DecidableEq, Repr, Inhabited

/-- The Mode Controller. Times are in ticks. `frozen` says that the configuration window has ended (R188);
`windowExpired` says that its expiry has just ended it, so that a close at the same time still does what it would have done
first: nothing more (R188, log entry 63); `watchRequest` is the pending WATCH request with whether its refusal has been reported (R193); `wakeHold` is the time
since the last return from WATCH and `woken` says that there has been one since power-on (R193, log entry 73); `dwellDone` says that the SAFE dwell time has expired (R197). `initTime` is the time since
power-on, `refStable` what is known of the reference oscillator, `brownOut` whether a brown-out stands, and `key` the
level of the key line. -/
structure Mdc where
  mode : Mode
  straps : Option Straps
  settings : Settings
  written : Written
  frozen : Bool
  windowTime : Nat
  windowExpired : Bool
  restartCounter : Nat
  reliefTime : Nat
  reinitTime : Nat
  restartTimer : Nat
  watchRequest : Option Bool
  wakeHold : Nat
  woken : Bool
  dwellTime : Nat
  dwellDone : Bool
  safeStationary : Bool
  pendingSafe : Bool
  initTime : Nat
  refStable : Bool
  brownOut : Bool
  key : Bool
  deriving DecidableEq, Repr, Inhabited

/-! ## FRB (chapter 11) -/

/-- A fault record (R198). Its code is formed from class, element and activity (R203). -/
structure FaultRecord where
  overflow : Bool
  severity : Severity
  reported : Bool
  holdCompromised : Bool
  releasePermitted : Bool
  element : Option Element
  cls : FaultClass
  activity : Activity
  deriving DecidableEq, Repr, Inhabited

/-- The six banks, each empty or holding one record. -/
structure Banks where
  sense : Option FaultRecord
  mass : Option FaultRecord
  link : Option FaultRecord
  valve : Option FaultRecord
  spring : Option FaultRecord
  node : Option FaultRecord
  deriving DecidableEq, Repr, Inhabited

/-- The Fault Record Banks with the fault-response-active flag. -/
structure Frb where
  banks : Banks
  responseActive : Bool
  deriving DecidableEq, Repr, Inhabited

/-- A report as it arrives at the FRB (R199). -/
structure Report where
  bank : Bank
  severity : Severity
  cls : FaultClass
  element : Option Element
  holdCompromised : Bool
  releasePermitted : Bool
  deriving DecidableEq, Repr, Inhabited

/-! ## What one sample gives rise to -/

/-- What a wheel sample gives rise to besides the WMT's new state, for the handings of the sample. -/
structure SampleEvents where
  reports : List Report
  noise : Bool
  amplitude : Bool
  recovered : Bool
  gap : Bool
  becameLocked : Bool
  lockNotAchieved : Bool
  becameStationary : Bool
  lostStationary : Bool
  deriving DecidableEq, Repr, Inhabited

/-- What a chamber pressure reading gives rise to. -/
structure PressureEvents where
  reports : List Report
  rangeOnset : Bool
  settled : Bool
  applyTimeout : Bool
  ventTimeout : Bool
  deriving DecidableEq, Repr, Inhabited

/-- What a spring chamber reading gives rise to. -/
structure SpringEvents where
  rangeOnset : Bool
  confirmed : Bool
  timedOut : Bool
  lost : Bool
  deriving DecidableEq, Repr, Inhabited

/-! ## The state -/

/-- The whole node. `pending` is the queue of waiting commands, first in, first out. `free` holds the choices that the
spec leaves open for the next command and `draw` counts the choices drawn: both are the model's own. -/
structure State where
  wmt : Wmt
  csu : Csu
  glu : Glu
  pvt : Pvt
  vir : Vir
  hal : Hal
  hpc : Hpc
  cpr : Cpr
  pad : Pad
  sgi : Sgi
  mdc : Mdc
  frb : Frb
  pending : List Instr
  free : Free
  draw : Nat
  deriving DecidableEq, Repr, Inhabited

/-- No command of this block stops the machine: the spec gives every row an effect, and answers every malformed or
untimely one. The type has no constructor, so nobody raises a fault. -/
inductive Fault
  deriving DecidableEq, Repr

/-- Reasons for having no meaning. -/
inductive Refusal
  /-- Raised by an arm of exec whose command has no meaning in the model. No arm raises it: every row has its meaning.
  Safe (log entry 6). -/
  | notModelled (mnemonic : String)
  deriving DecidableEq, Repr

/-! ## Reset: the initial state of each block -/

/-- A channel before the first sample (R21: last accepted samples at 0, all runs 0; log entry 48). -/
def Channel.initial : Channel :=
  { last := 0, rejections := 0, raw := 0, stuckRun := 0, otherLow := 0, otherHigh := 0, stuck := false }

/-- R21. -/
def Wmt.initial : Wmt :=
  { sampling := false, slow := false, fresh := true, sine := .initial, cosine := .initial
    sineOffset := 0, cosineOffset := 0, gain := 4096, learning := none, amplitudeRun := 0
    signal := .starting, cleanCount := 0, phi := 0, v := 0, highGain := true, locked := false, lockTime := 0
    position := 0, positionValid := false, stationary := false, stationaryTime := 0
    lockWatch := 0, lockReported := false }

/-- R23, with the first escalation point given: the notice threshold plus one escalate interval. -/
def Csu.initial (firstPoint : Int) : Csu :=
  { anchor := .absent, offset := 0, own := 0, ownValid := false, lastValidOwn := 0, effective := none
    lastEffective := 0, noticeBase := 0, nextPoint := firstPoint, notice := false, breach := false
    creepGap := false, blind := false, breachTime := 0, ownLevel := 0, nodeLevel := 0 }

/-- R57. -/
def Glu.initial : Glu :=
  { reading := false, accelHistory := [], windowRun := 0, ownGrade := 0, gradeValid := false, gradeFormed := false
    disagreement := 0, vehicleGrade := 250, gradeStatus := .default, loadHistory := [], loadRun := 0
    ownLoad := 9000, loadKnown := false, lifted := true, mass := 36000 }

/-- R60: the table is empty. -/
def Pvt.initial : Pvt := { entries := [], clashTime := none, expectedReported := false }

/-- R72: the three records are absent. -/
def Vir.initial : Vir := { cab := none, drive := none, drum := none }

/-- The initial values of R77. -/
def Hal.initialResult : HalResult :=
  { fReq := 0, traction := 0, brake := 0, cOwn := 0, sumC := 0, share := 0, insufficient := false, pCalc := 0
    fGrav := 0, release := none }

/-- R77. -/
def Hal.initial : Hal := { margin := 140, result := Hal.initialResult, lanes := .agreed }

/-- R99. -/
def Hpc.initial : Hpc :=
  { phase := .released, pCap := none, pHold := 0
    last := { pCalc := 0, insufficient := false, fGrav := 0, release := none }
    qualifyingTime := 0, settleTime := 0, holdTime := 0, insufficiencyTime := 0, driverAbsentTime := 0
    release := none, releaseArmed := true, handover := none, handoverFailed := false, retained := none
    request := false, withdrawalPending := false, resume := none }

/-- A readback with no mismatch, the solenoid taken as without current (log entry 48). -/
def Readback.initial : Readback := { current := false, mismatch := 0, reported := false }

/-- R146. -/
def Cpr.initial : Cpr :=
  { reading := false, regulating := false, target := 0, measured := 0, sensor := .noReading, rangeRun := 0
    operation := none, settleTime := 0, settleOwed := false, abandoned := false, applyReported := false
    ventReported := false, valves := .passThrough, holdBack := .initial, applyBack := .initial
    ventBack := .initial }

/-- R162, before the power-on withdraw drive of a spring-fitted node starts. -/
def Pad.initial : Pad :=
  { reading := false, asserted := false, drive := .idle, driveTime := 0, hpcRequest := .withdraw
    mdcRequest := false, pressure := 0, sensor := .noReading, rangeRun := 0, watch := .idle, confirmTime := 0
    lostTime := 0, lostReported := false }

/-- R173, R176, R177, R183: the list empty, counts 0, STOPPED, no reply owed. -/
def Sgi.initial : Sgi :=
  { list := [], inProgress := none, txErrors := 0, rxErrors := 0, bus := .stopped, recovery := 0
    declarationTimer := 0, rouseCount := 0, rouseWindow := 0, restartOwed := none }

/-- A mask that reports a severity in every bank. -/
def BankMask.all : BankMask :=
  { sense := true, mass := true, link := true, valve := true, spring := true, node := true }

/-- The defaults of the configuration table (chapter 10). -/
def Settings.default : Settings :=
  { role := .drive, nExp := 4, circumference := 3200, gain := 120, pMax := 800, pPush := 40, pStep := 60
    friction := 40, margin := 125, drumMargin := 15, tSec := 180, noticeThreshold := 15, escalateInterval := 40
    breachThreshold := 120, breachVelocity := 50, lUnk := 9000, restartLimit := 4
    advisoryMask := .all, degradedMask := .all }

/-- No group written. -/
def Written.none : Written := { axle := false, brake := false, hold := false, creep := false, node := false }

/-- R184: straps not yet read. The key line's level before its first reading is the model's choice (log entry 3). -/
def Mdc.initial : Mdc :=
  { mode := .init, straps := none, settings := .default, written := .none, frozen := false, windowTime := 0, windowExpired := false
    restartCounter := 0, reliefTime := 0, reinitTime := 0, restartTimer := 0, watchRequest := none
    wakeHold := 0, woken := false, dwellTime := 0, dwellDone := false, safeStationary := false, pendingSafe := false
    initTime := 0, refStable := false, brownOut := false, key := false }

/-- R198: every bank empty, fault-response-active clear. -/
def Frb.initial : Frb :=
  { banks := { sense := none, mass := none, link := none, valve := none, spring := none, node := none }
    responseActive := false }

/-- The choices held at reset (log entry 2): no statement rests on them. -/
def freeAtReset : Free :=
  { order := 0, triggerFirst := false, completionFirst := false, reportFirst := false, checkFirst := false
    blindReportFirst := false, laneFault := none }

/-- The node at power-on, before its straps are read (R184), with no command waiting. -/
def State.reset : State :=
  { wmt := .initial, csu := .initial 55, glu := .initial, pvt := .initial, vir := .initial, hal := .initial
    hpc := .initial, cpr := .initial, pad := .initial, sgi := .initial, mdc := .initial, frb := .initial
    pending := [], free := freeAtReset, draw := 0 }

end Sys2Proof.Machine
end

