-- ==== Sys2Proof/Machine/Ops.lean ====
section
/-! DEFINITION. The named operations that the blocks share: the integer arithmetic of the spec's Conventions, the
byte order of chapter 9, and the order of handings that the spec leaves open. -/

namespace Sys2Proof.Machine

/-- "Ceiling" of a quotient of naturals (Conventions, Arithmetic). -/
def ceilDiv (a b : Nat) : Nat := (a + b - 1) / b

/-- A clamp to a range (Conventions, Arithmetic). -/
def clamp (lo hi x : Int) : Int := max lo (min hi x)

/-- The bits of the integer square root, from bit k − 1 down, added to the root found so far. -/
def isqrtFrom (n : Nat) : Nat → Nat → Nat
  | 0, r => r
  | k + 1, r => if (r + 2 ^ k) * (r + 2 ^ k) ≤ n then isqrtFrom n k (r + 2 ^ k) else isqrtFrom n k r

/-- The integer square root, truncated toward zero (R9, R45), of a number below 2⁶⁴. -/
def isqrt (n : Nat) : Nat := isqrtFrom n 32 0

/-- Creep saturated to −127..+127 mm, as a Declaration or an Alert carries it (R170, R172). -/
def saturate127 (x : Int) : Int := clamp (-127) 127 x

/-- x inserted at place k of a list. -/
def insertAt {α : Type} : Nat → α → List α → List α
  | 0, x, l => x :: l
  | _ + 1, x, [] => [x]
  | k + 1, x, y :: l => y :: insertAt k x l

/-- The list in the order of number `code`: every order of the list is reached by some number. Used where the spec
gives several handings no order (R65, R79; log entry 10). -/
def permute {α : Type} : Nat → List α → List α
  | _, [] => []
  | code, x :: l => insertAt (code % (l.length + 1)) x (permute (code / (l.length + 1)) l)

/-- The steps of a list, each taken on what the one before it leaves. -/
def inOrder : List (State → State) → State → State
  | [], s => s
  | f :: l, s => inOrder l (f s)

/-- What of the order's number is left after an order of n handings has been taken from it. -/
def restOfOrder (n code : Nat) : Nat := code / n.factorial

/-- Handings that the spec does not order, in the order that the free value of this command gives. -/
def handAll (l : List (State → State)) (s : State) : State :=
  inOrder (permute s.free.order l) { s with free := { s.free with order := restOfOrder l.length s.free.order } }

/-! ## Bytes (chapter 9: least significant byte first, signed fields two's complement) -/

/-- Bit k of a byte. -/
def bit (b : Byte) (k : Nat) : Bool := b.toNat / 2 ^ k % 2 == 1

/-- The field of `width` bits of a byte from bit `low` up. -/
def field (b : Byte) (low width : Nat) : Nat := b.toNat / 2 ^ low % 2 ^ width

/-- A Boolean as the bit of weight 2 ^ k. -/
def weight (b : Bool) (k : Nat) : Nat := if b then 2 ^ k else 0

/-- The byte of a natural. -/
def byte (n : Nat) : Byte := BitVec.ofNat 8 n

/-- The two's complement byte of an integer. -/
def byteOfInt (x : Int) : Byte := BitVec.ofInt 8 x

/-- A field of two bytes, least significant byte first. -/
def word16 (lo hi : Byte) : Nat := lo.toNat + 256 * hi.toNat

/-- A two's complement number of `bits` bits. -/
def signed (bits n : Nat) : Int := if n < 2 ^ (bits - 1) then (n : Int) else (n : Int) - 2 ^ bits

/-- A signed creep byte; −128 is taken as −127 (chapter 9, Declaration and Alert). -/
def creepOfByte (b : Byte) : Int := max (-127) (signed 8 b.toNat)

end Sys2Proof.Machine
end

