-- ==== Sys2Proof/Machine/Operands.lean ====
section
/-! DEFINITION. The operand forms: the frames the node takes and sends, field by field as chapter 9 lays them out, and
the numbers of fault elements, classes and activities (chapter 11). -/

namespace Sys2Proof.Machine

/-! ## Identifiers (R167) -/

/-- The identifier under which a node of number n sends a frame of a kind. -/
def frameId (n : Nat) : TxKind → Nat
  | .rouse => 0x000
  | .alert => 0x040 + n
  | .declaration => 0x080 + n
  | .reply => 0x680 + n

/-! ## Codes used in several frames -/

/-- Phase codes 0 to 6; 7 is undefined. -/
def phaseCode : DeclaredPhase → Nat
  | .phase .released => 0
  | .phase .capturing => 1
  | .phase .holding => 2
  | .phase .releasing => 3
  | .phase .securing => 4
  | .phase .secured => 5
  | .safe => 6

/-- The phase of a code; none for the undefined code 7. -/
def phaseOfCode : Nat → Option DeclaredPhase
  | 0 => some (.phase .released)
  | 1 => some (.phase .capturing)
  | 2 => some (.phase .holding)
  | 3 => some (.phase .releasing)
  | 4 => some (.phase .securing)
  | 5 => some (.phase .secured)
  | 6 => some .safe
  | _ => none

/-- Axle role codes. -/
def roleCode : AxleRole → Nat
  | .steer => 0
  | .drive => 1
  | .pusher => 2
  | .tag => 3

/-- The axle role of a code; a code above the highest is taken as tag (R187). -/
def roleOfCode : Nat → AxleRole
  | 0 => .steer
  | 1 => .drive
  | 2 => .pusher
  | _ => .tag

/-- Severity codes, 0 for none. -/
def severityCode : Option Severity → Nat
  | none => 0
  | some .advisory => 1
  | some .degraded => 2
  | some .severe => 3

/-- The severity of a two-bit code. -/
def severityOfCode : Nat → Option Severity
  | 0 => none
  | 1 => some .advisory
  | 2 => some .degraded
  | _ => some .severe

/-- Alert cause codes. -/
def causeCode : AlertCause → Nat
  | .breach => 1
  | .insufficient => 2
  | .safeEntered => 3
  | .parkedCreep => 4

/-- The cause of a code; 0 and 5..255 are undefined. -/
def causeOfCode : Nat → Option AlertCause
  | 1 => some .breach
  | 2 => some .insufficient
  | 3 => some .safeEntered
  | 4 => some .parkedCreep
  | _ => none

/-- Mode codes. -/
def modeCode : Mode → Nat
  | .init => 0
  | .config => 1
  | .run => 2
  | .watch => 3
  | .restart => 4
  | .safe => 5

/-- Bank numbers. -/
def bankOfCode : Nat → Option Bank
  | 0 => some .sense
  | 1 => some .mass
  | 2 => some .link
  | 3 => some .valve
  | 4 => some .spring
  | 5 => some .node
  | _ => none

/-- Freshness codes of a READ PEER reply (R182). -/
def freshnessCode : Freshness → Nat
  | .fresh => 0
  | .stale => 1
  | .expired => 2

/-! ## Declaration -/

/-- Bytes 0 to 4 of the Declaration layout. -/
def declarationHead (d : Declared) (parkApply : Bool) : List Byte :=
  [byte (phaseCode d.phase + 8 * d.level + weight d.springFitted 6 + weight d.releasePermitted 7),
   byte (roleCode d.role + weight d.gradeValid 2 + weight d.creepValid 3 + weight d.notice 4
     + 32 * severityCode d.severity + weight parkApply 7),
   byte d.capacity, byte (d.capacity / 256), byte d.load]

/-- The twelve bits of a signed grade. -/
def gradeBits (g : Int) : Nat := (g % 4096).toNat

/-- Bytes 5 to 7 of the Declaration layout. -/
def declarationTail (d : Declared) : List Byte :=
  [byte (d.load / 256 % 16 + 16 * (gradeBits d.grade % 16)), byte (gradeBits d.grade / 16), byteOfInt d.creep]

/-- The eight data bytes of a Declaration. -/
def encodeDeclaration (d : Declared) (parkApply : Bool) : List Byte :=
  declarationHead d parkApply ++ declarationTail d

/-- The fields of a Declaration of right length with a phase the layout defines; none for the undefined phase. A level
above 4 is taken as 4 and a load above 2,500 units as 2,500 (R61). The four severity codes are all defined. -/
def decodeDeclaration : List Byte → Option Declared
  | [b0, b1, b2, b3, b4, b5, b6, b7] =>
    match phaseOfCode (field b0 0 3) with
    | none => none
    | some p =>
      some
        { role := roleOfCode (field b1 0 2)
          springFitted := bit b0 6
          phase := p
          level := min 4 (field b0 3 3)
          releasePermitted := bit b0 7
          load := min 2500 (b4.toNat + 256 * field b5 0 4)
          capacity := word16 b2 b3
          grade := signed 12 (field b5 4 4 + 16 * b6.toNat)
          gradeValid := bit b1 2
          creep := creepOfByte b7
          creepValid := bit b1 3
          notice := bit b1 4
          severity := severityOfCode (field b1 5 2) }
  | _ => none

/-! ## Alert -/

/-- The three data bytes of an Alert. -/
def encodeAlert (cause : AlertCause) (level : Nat) (creep : Int) : List Byte :=
  [byte (causeCode cause), byte level, byteOfInt (saturate127 creep)]

/-- Cause, level (above 4 taken as 4) and creep of an Alert of right length; none for an undefined cause. -/
def decodeAlert : List Byte → Option LastAlert
  | [b0, b1, b2] =>
    match causeOfCode b0.toNat with
    | none => none
    | some c => some { cause := c, level := min 4 b1.toNat, creep := creepOfByte b2, age := 0 }
  | _ => none

/-! ## Station frames -/

/-- Cab status; none for an undefined hold-switch code. -/
def decodeCab : List Byte → Option CabFields
  | [b0, b1] =>
    if b1.toNat ≤ 1 then
      some { ignition := bit b0 0, seat := bit b0 1, door := bit b0 2, rearControl := bit b0 3
             switchAuto := b1 == 1#8 }
    else none
  | _ => none

/-- Gear direction codes; 3..255 are undefined. -/
def gearOfCode : Nat → Option Gear
  | 0 => some .neutral
  | 1 => some .forward
  | 2 => some .reverse
  | _ => none

/-- Drive demand; none for an undefined gear direction. A force above 20,000 units is taken as 20,000 (R72). -/
def decodeDrive : List Byte → Option DriveFields
  | [b0, _, b2, b3] =>
    match gearOfCode b0.toNat with
    | none => none
    | some g => some { gear := g, force := min 20000 (word16 b2 b3) }
  | _ => none

/-- Drum status. -/
def decodeDrum : List Byte → Option DrumFields
  | [b0, b1, b2] => some { speed := signed 16 (word16 b0 b1), discharge := bit b2 0 }
  | _ => none

/-! ## Configure -/

/-- A mask byte: bits 0 to 5, one per bank by bank number. -/
def maskOfByte (b : Byte) : BankMask :=
  { sense := bit b 0, mass := bit b 1, link := bit b 2, valve := bit b 3, spring := bit b 4, node := bit b 5 }

/-- A field beyond its range is taken at the nearest limit (R187). -/
def within (lo hi n : Nat) : Nat := max lo (min hi n)

/-- The settings with the fields of one of the groups 1 to 5 taken from the frame's bytes 2 to 7 (R187). -/
def takeGroup (g : Nat) (b2 b3 b4 b5 b6 b7 : Byte) (c : Settings) : Settings :=
  match g with
  | 1 => { c with role := roleOfCode b2.toNat, nExp := within 2 8 b3.toNat
                  circumference := within 2400 4000 (word16 b4 b5) }
  | 2 => { c with gain := within 20 400 (word16 b2 b3), pMax := within 400 900 (word16 b4 b5)
                  pPush := within 0 100 b6.toNat, pStep := within 20 150 b7.toNat }
  | 3 => { c with friction := within 20 90 b2.toNat, margin := within 110 200 b3.toNat
                  drumMargin := within 0 50 b4.toNat, tSec := within 30 900 (word16 b5 b6) }
  | 4 => { c with noticeThreshold := within 5 40 b2.toNat, escalateInterval := within 10 60 b3.toNat
                  breachThreshold := within 40 125 b4.toNat, breachVelocity := within 20 200 b5.toNat }
  | 5 => { c with lUnk := within 2000 15000 (word16 b2 b3), restartLimit := within 1 15 b4.toNat
                  advisoryMask := maskOfByte b5, degradedMask := maskOfByte b6 }
  | _ => c

/-- Whether a group's written flag is set. -/
def Written.of (w : Written) : Nat → Bool
  | 1 => w.axle
  | 2 => w.brake
  | 3 => w.hold
  | 4 => w.creep
  | 5 => w.node
  | _ => false

/-- The written flags with a group's flag set. -/
def Written.mark (w : Written) : Nat → Written
  | 1 => { w with axle := true }
  | 2 => { w with brake := true }
  | 3 => { w with hold := true }
  | 4 => { w with creep := true }
  | 5 => { w with node := true }
  | _ => w

/-! ## Fault elements and codes (chapter 11) -/

/-- Element numbers. -/
def Element.number : Element → Nat
  | .sineChannel => 1
  | .cosineChannel => 2
  | .creep => 3
  | .accelerometer => 4
  | .gradeDisagreement => 5
  | .loadInput => 6
  | .chamberSensor => 7
  | .holdValve => 8
  | .applyValve => 9
  | .ventValve => 10
  | .springChamber => 11
  | .springSensor => 12
  | .parkApplyValve => 13
  | .holdComputation => 14
  | .referenceClock => 15
  | .supply => 16
  | .cabStation => 17
  | .powertrainStation => 18
  | .drumStation => 19
  | .serviceTool => 20
  | .peer n => 20 + n
  | .group g => 30 + g

/-- Element kinds: the element number, with every peer as 21 and every configuration group as 31. -/
def Element.kind : Element → Nat
  | .peer _ => 21
  | .group _ => 31
  | e => e.number

/-- Class numbers. -/
def classNumber : FaultClass → Nat
  | .signal => 0
  | .range => 1
  | .timing => 2
  | .consistency => 3
  | .identity => 4

/-- Activity numbers: 0..5 the phases, 6 INIT, 7 CONFIG, 8 WATCH, 9 RESTART, 10 SAFE. RUN has none, since a record made
in RUN carries the phase (R199); it is numbered with CONFIG's neighbours only to make the function total. -/
def activityNumber : Activity → Nat
  | .inPhase p => phaseCode (.phase p)
  | .inMode .init => 6
  | .inMode .config => 7
  | .inMode .watch => 8
  | .inMode .restart => 9
  | .inMode .safe => 10
  | .inMode .run => 7

/-- The code of a record: class × 4,096 + element kind × 16 + activity (R203). -/
def FaultRecord.code (r : FaultRecord) : Nat :=
  classNumber r.cls * 4096 + (r.element.elim 0 Element.kind) * 16 + activityNumber r.activity

/-! ## Service reply payloads (chapter 9) -/

/-- Reply codes. -/
inductive ReplyCode
  | ok | busy | badArgument
  deriving DecidableEq, Repr

/-- The number of a reply code. -/
def replyNumber : ReplyCode → Nat
  | .ok => 0
  | .busy => 1
  | .badArgument => 2

/-- A payload of 0. -/
def zeroPayload : List Byte := [0, 0, 0, 0, 0]

/-- The record reply of READ BANK: an empty bank is sent with valid clear and every other field 0. -/
def bankPayload : Option FaultRecord → List Byte
  | none => zeroPayload
  | some r =>
    [byte (1 + weight r.overflow 1 + weight r.reported 2 + weight r.holdCompromised 3
       + weight r.releasePermitted 4 + weight r.element.isSome 5 + 64 * severityCode (some r.severity)),
     byte (r.element.elim 0 Element.number), byte r.code, byte (r.code / 256), 0]

/-- The payload of READ PEER for one part of an entry (R182). The age is in milliseconds and that of the last
alert in units of 100 ms; that what is left over is dropped is the model's choice (log entry 62). -/
def peerPayload (e : PeerEntry) : Nat → List Byte
  | 0 =>
    let age := min 65535 (e.age / 10)
    [byte (1 + 2 * freshnessCode e.freshness + weight e.creepSteady 3 + weight e.lastAlert.isSome 4
       + 32 * e.lastAlert.elim 0 (fun a => causeCode a.cause)),
     byte age, byte (age / 256),
     byte (e.lastAlert.elim 0 (fun a => a.level + 8 * (a.age / 1000))),
     byteOfInt (e.lastAlert.elim 0 (fun a => a.creep))]
  | 1 => declarationHead e.decl false
  | _ => declarationTail e.decl ++ [0, 0]

end Sys2Proof.Machine
end

