-- ==== Sys2Proof/Machine/Flags.lean ====
section
/-! DEFINITION. The conditions that the blocks read from one another's state: the modes in which a block acts, the
readings of the vehicle grade, the station records' meanings, stationarity, and the declared conditions. -/

namespace Sys2Proof.Machine

/-! ## Straps and mode -/

/-- The node's own number, from the straps; before they are read, the number of five open pins (log entry 3). -/
def State.number (s : State) : Nat := s.mdc.straps.elim 8 Straps.number

/-- The SPRING strap; before it is read, no drive is made (log entry 3). -/
def State.spring (s : State) : Bool := s.mdc.straps.elim false Straps.spring

/-- The POL strap. -/
def State.pol (s : State) : Bool := s.mdc.straps.elim false Straps.pol

/-- The phases CAPTURING, HOLDING, RELEASING, SECURING and SECURED together are the hold phases (Conventions). -/
def Phase.isHold : Phase → Bool
  | .released => false
  | _ => true

/-- A declared phase that is a hold phase; SAFE is none. -/
def DeclaredPhase.isHold : DeclaredPhase → Bool
  | .phase p => p.isHold
  | .safe => false

/-- The node is in RUN in a hold phase. -/
def State.inHold (s : State) : Bool := s.mdc.mode == .run && s.hpc.phase.isHold

/-- The node is in RUN in the given phase. -/
def State.inPhase (p : Phase) (s : State) : Bool := s.mdc.mode == .run && s.hpc.phase == p

/-- The receive path is open: CONFIG, RUN or SAFE, and the bus state ERROR ACTIVE or ERROR PASSIVE (R168). -/
def State.receives (s : State) : Bool :=
  (s.mdc.mode == .config || s.mdc.mode == .run || s.mdc.mode == .safe) && (s.sgi.bus == .active || s.sgi.bus == .passive)

/-- The SGI runs its CAN controller: CONFIG, RUN and SAFE (R177). -/
def State.controllerRuns (s : State) : Bool :=
  s.mdc.mode == .config || s.mdc.mode == .run || s.mdc.mode == .safe

/-! ## Vehicle grade (R51) -/

/-- Flat means a FORMED or HELD value of magnitude below 20; a DEFAULT grade is never flat. -/
def Glu.flat (g : Glu) : Bool := g.gradeStatus != .default && g.vehicleGrade.natAbs < 20

/-- The magnitude of the grade in the force stages, 250 when the status is DEFAULT (R81). -/
def Glu.gradeMagnitude (g : Glu) : Nat := if g.gradeStatus == .default then 250 else g.vehicleGrade.natAbs

/-- The grade has a single downhill direction: it is neither flat nor DEFAULT. -/
def Glu.oneDownhill (g : Glu) : Bool := g.gradeStatus != .default && !g.flat

/-- The downhill reading of a forward displacement or speed (R25). -/
def Glu.downhill (g : Glu) (x : Int) : Int :=
  if g.oneDownhill then (if 0 < g.vehicleGrade then -x else x) else (x.natAbs : Int)

/-- A gear direction is uphill when it points opposite to a single downhill direction (R51). -/
def Glu.uphill (g : Glu) : Gear → Bool
  | .neutral => false
  | .forward => g.oneDownhill && 0 < g.vehicleGrade
  | .reverse => g.oneDownhill && g.vehicleGrade < 0

/-! ## Station records (R73 to R75) -/

/-- Driver absent (R73): a stale or absent cab record reads as absent. -/
def State.driverAbsent (s : State) : Bool :=
  match s.vir.cab with
  | none => true
  | some (c, a) => !a.fresh || !c.seat || c.door || c.rearControl

/-- Ignition on (R73): as last received, or the key line while no cab frame has been received. -/
def State.ignition (s : State) : Bool :=
  match s.vir.cab with
  | none => s.mdc.key
  | some (c, _) => c.ignition

/-- Hold switch on auto (R73): a stale or absent record reads auto. -/
def State.switchAuto (s : State) : Bool :=
  match s.vir.cab with
  | none => true
  | some (c, a) => !a.fresh || c.switchAuto

/-- Rear control active (R73): as last received, no while absent. -/
def State.rearControl (s : State) : Bool :=
  match s.vir.cab with
  | none => false
  | some (c, _) => c.rearControl

/-- Drive demand (R74): the gear and the force in newtons, when the record is fresh, the gear is forward or reverse and
the force is above 0. -/
def State.demand (s : State) : Option (Gear × Nat) :=
  match s.vir.drive with
  | none => none
  | some (d, a) => if a.fresh && d.gear != .neutral && 0 < d.force then some (d.gear, 10 * d.force) else none

/-- There is drive demand with the gear uphill. -/
def State.demandUphill (s : State) : Bool := s.demand.elim false (fun d => s.glu.uphill d.1)

/-- There is drive demand with the gear not uphill. -/
def State.demandDownhill (s : State) : Bool := s.demand.elim false (fun d => !s.glu.uphill d.1)

/-- Driver present, ignition on and drive demand together (R120, R123). -/
def State.driveAway (s : State) : Bool := s.demand.isSome && !s.driverAbsent && s.ignition

/-- The drum is read as turning or discharging, or cannot be read (R75, R80). -/
def State.drumCounts (s : State) : Bool :=
  match s.vir.drum with
  | none => true
  | some (d, a) => !a.fresh || 2 ≤ d.speed.natAbs || d.discharge

/-! ## Peers -/

/-- The entry's freshness is fresh. -/
def PeerEntry.isFresh (e : PeerEntry) : Bool := e.freshness == .fresh

/-- A fresh entry in a hold phase. -/
def PeerEntry.freshHold (e : PeerEntry) : Bool := e.isFresh && e.decl.phase.isHold

/-- At least two distinct fresh peer entries each show a hold phase or creep steady (R100, R196). -/
def State.peersStationary (s : State) : Bool :=
  2 ≤ (s.pvt.entries.filter (fun e => e.isFresh && (e.decl.phase.isHold || e.creepSteady))).length

/-- The vehicle is stationary (R100, and R196 for the MDC): by the own indication while speed-valid is set, by two fresh
peers while it is clear. -/
def State.vehicleStationary (s : State) : Bool :=
  if s.wmt.positionValid then s.wmt.stationary else s.peersStationary

/-- Some peer entry holds a last alert, whatever its freshness (R70). -/
def State.anyLastAlert (s : State) : Bool := s.pvt.entries.any (fun e => e.lastAlert.isSome)

/-- Some fresh peer entry shows a hold phase. -/
def State.anyFreshHold (s : State) : Bool := s.pvt.entries.any PeerEntry.freshHold

/-! ## Declared conditions of the FRB (R202) -/

/-- The records held, bank by bank. -/
def Banks.records (b : Banks) : List FaultRecord :=
  [b.sense, b.mass, b.link, b.valve, b.spring, b.node].filterMap id

/-- The order of severities. -/
def severityRank : Severity → Nat
  | .advisory => 1
  | .degraded => 2
  | .severe => 3

/-- The worse of two declared severities. -/
def worse (a b : Option Severity) : Option Severity :=
  if (b.elim 0 severityRank) ≤ (a.elim 0 severityRank) then a else b

/-- Declared severity: the worst among the valid records, none when there is none. -/
def Banks.severity (b : Banks) : Option Severity :=
  b.records.foldl (fun acc r => worse acc (some r.severity)) none

/-- Release-permitted: no while any valid record has release-permitted no. -/
def Banks.releasePermitted (b : Banks) : Bool := b.records.all (fun r => r.releasePermitted)

/-- Hold-compromised: set while any valid record has it set. -/
def Banks.holdCompromised (b : Banks) : Bool := b.records.any (fun r => r.holdCompromised)

/-- Some bank holds a valid record of severity severe (R197). -/
def Banks.anySevere (b : Banks) : Bool := b.records.any (fun r => r.severity == .severe)

/-- The declared capacity, in 10 N units (R84): 0 while hold-compromised or in SAFE, else the C_own last delivered. -/
def State.declaredCapacity (s : State) : Nat :=
  if s.frb.banks.holdCompromised || s.mdc.mode == .safe then 0 else s.hal.result.cOwn / 10

/-! ## Chamber pressure band (chapter 7) -/

/-- Below the band: more than 15 kPa under the target. -/
def belowBand (target p : Nat) : Bool := p + 15 < target

/-- Above the band: more than 15 kPa over the target. -/
def aboveBand (target p : Nat) : Bool := target + 15 < p

/-- Inside the band: within 15 kPa of the target, both ends included. -/
def insideBand (target p : Nat) : Bool := !belowBand target p && !aboveBand target p

/-- A pressure reading from −20 to +1,050 kPa inclusive is in range (R132, R152). -/
def pressureInRange (p : Int) : Bool := -20 ≤ p && p ≤ 1050

/-- A reading taken clamped to 0..1,000 kPa. -/
def pressureClamped (p : Int) : Nat := (clamp 0 1000 p).toNat

end Sys2Proof.Machine
end

