-- ==== Sys2Proof/Machine/Sgi.lean ====
section
/-! DEFINITION. The Segment Interface's transmit list: what may be placed, where a frame stands in the list, and how the
node's own frames are formed (R170 to R175, R181 to R183). -/

namespace Sys2Proof.Machine

/-! ## The list -/

/-- A frame put at its place in ascending order of identifier, after the frames of its own identifier (R173). -/
def insertFrame (f : TxFrame) : List TxFrame → List TxFrame
  | [] => [f]
  | g :: l => if f.id < g.id then f :: g :: l else g :: insertFrame f l

/-- The frame in place of the pending one of its kind (R173). -/
def replaceKind (f : TxFrame) : List TxFrame → List TxFrame
  | [] => []
  | g :: l => if g.kind = f.kind then f :: l else g :: replaceKind f l

/-- A frame of this kind is pending. -/
def Sgi.has (g : Sgi) (k : TxKind) : Bool := g.list.any (fun f => f.kind == k)

/-- The number of service replies pending (R181). -/
def Sgi.replies (g : Sgi) : Nat := (g.list.filter (fun f => f.kind == .reply)).length

/-- A frame placed: service replies in the order of their requests, any other in place of a pending one of its kind.
A replacement while the entry is on the segment leaves the new entry to be sent next (R174). -/
def Sgi.place (g : Sgi) (f : TxFrame) : Sgi :=
  if f.kind != .reply && g.has f.kind then
    { g with
      list := replaceKind f g.list
      inProgress :=
        match g.inProgress with
        | none => none
        | some t => some (if t.frame.kind = f.kind then { t with replaced := true } else t) }
  else { g with list := insertFrame f g.list }

/-- The entry of a successful transmission removed, unless it was replaced during the attempt (R174). -/
def Sgi.sent (g : Sgi) (t : Transmission) : Sgi :=
  { g with inProgress := none
           list := if t.replaced then g.list else g.list.eraseP (fun f => f.kind == t.frame.kind) }

/-- The list emptied, with any transmission in progress abandoned (R175). -/
def Sgi.emptied (g : Sgi) : Sgi := { g with list := [], inProgress := none }

/-- The controller stopped at an entry to RESTART or WATCH (R175, R177): list emptied, STOPPED, recovery count 0, the
rouse detector at rest and the Declaration timer stopped (R171, R179). -/
def Sgi.stop (g : Sgi) : Sgi :=
  { g.emptied with bus := .stopped, recovery := 0, rouseCount := 0, rouseWindow := 0, declarationTimer := 0 }

/-- Both error counts at 0 (R176). -/
def Sgi.clearCounts (g : Sgi) : Sgi := { g with txErrors := 0, rxErrors := 0 }

/-! ## What may be placed (R175) -/

/-- Whether a frame of a kind may be placed. -/
def State.mayPlace (s : State) (k : TxKind) : Bool :=
  s.sgi.bus != .off &&
    match s.mdc.mode with
    | .config => k == .reply
    | .run => true
    | .safe => true
    | _ => false

/-- A frame placed, or discarded without report where its placement is refused (R175). -/
def State.place (s : State) (k : TxKind) (data : List Byte) : State :=
  if s.mayPlace k then { s with sgi := s.sgi.place { kind := k, id := frameId s.number k, data := data } } else s

/-! ## Declarations -/

/-- The phase declared: the HPC's phase in RUN, SAFE in SAFE. -/
def State.declaredPhase (s : State) : DeclaredPhase := if s.mdc.mode = .safe then .safe else .phase s.hpc.phase

/-- The fields of the node's own Declaration as its owners hold them (R170). -/
def State.declared (s : State) : Declared :=
  { role := s.mdc.settings.role
    springFitted := s.spring
    phase := s.declaredPhase
    level := s.csu.nodeLevel
    releasePermitted := s.frb.banks.releasePermitted
    load := s.glu.ownLoad / 10
    capacity := s.declaredCapacity
    grade := clamp (-400) 400 s.glu.ownGrade
    gradeValid := s.glu.gradeValid
    creep := if s.csu.ownValid then saturate127 s.csu.own else 0
    creepValid := s.csu.ownValid
    notice := s.csu.notice
    severity := s.frb.banks.severity }

/-- A Declaration formed and placed; its placement starts the timer again from 0 (R170, R171). -/
def State.placeDeclaration (s : State) : State :=
  if s.mayPlace .declaration then
    let t := s.place .declaration (encodeDeclaration s.declared s.pad.asserted)
    { t with sgi := { t.sgi with declarationTimer := 0 } }
  else s

/-! ## Alerts -/

/-- Whether a pending Alert is of cause breach or insufficient. -/
def Sgi.keepsAlert (g : Sgi) : Bool :=
  g.list.any (fun f => f.kind == .alert
    && (f.data.head? == some (byte (causeCode .breach)) || f.data.head? == some (byte (causeCode .insufficient))))

/-- Causes that give way to a pending Alert of cause breach or insufficient (R173). -/
def AlertCause.givesWay : AlertCause → Bool
  | .breach => false
  | .insufficient => false
  | .safeEntered => true
  | .parkedCreep => true

/-- An Alert formed and placed (R172, R173). -/
def State.placeAlert (s : State) (cause : AlertCause) (level : Nat) (creep : Int) : State :=
  if cause.givesWay && s.sgi.keepsAlert then s else s.place .alert (encodeAlert cause level creep)

/-- The creep an Alert of cause insufficient carries: effective, or last effective when blind (R172). -/
def Csu.alertCreep (c : Csu) : Int := c.effective.getD c.lastEffective

/-! ## Rouse and service replies -/

/-- A Rouse, whose eight data bytes are all 0 (R180). -/
def State.placeRouse (s : State) : State := s.place .rouse (List.replicate 8 0#8)

/-- The phase code of READ STATUS: 0 outside RUN and SAFE, 6 in SAFE. -/
def State.statusPhase (s : State) : Nat :=
  match s.mdc.mode with
  | .run => phaseCode (.phase s.hpc.phase)
  | .safe => 6
  | _ => 0

/-- The payload of READ STATUS (chapter 9). -/
def State.statusPayload (s : State) : List Byte :=
  [byte (modeCode s.mdc.mode + 8 * s.statusPhase + weight s.frb.responseActive 6
     + weight (s.sgi.bus == .passive) 7),
   byte (s.csu.nodeLevel + 8 * s.mdc.restartCounter), byte s.sgi.txErrors, byte s.sgi.rxErrors, 0]

/-- A service reply, which echoes the command code and the argument of its request (R181). -/
def State.placeReply (s : State) (r : ReplyCode) (command argument : Byte) (payload : List Byte) : State :=
  s.place .reply (byte (replyNumber r) :: command :: argument :: payload)

/-- The owed reply to a service RESTART, placed at the entry to RUN or SAFE that follows (R183). -/
def State.placeOwedReply (s : State) : State :=
  match s.sgi.restartOwed with
  | none => s
  | some argument =>
    let t := s.placeReply .ok 6 argument s.statusPayload
    { t with sgi := { t.sgi with restartOwed := none } }

end Sys2Proof.Machine
end

