-- ==== Sys2Proof/Machine/Frb.lean ====
section
/-! DEFINITION. The Fault Record Banks (chapter 11): completion of a report, the overwrite rule, and the reports that the
blocks make. -/

namespace Sys2Proof.Machine

/-! ## Banks -/

/-- The record a bank holds. -/
def Banks.get (b : Banks) : Bank → Option FaultRecord
  | .sense => b.sense
  | .mass => b.mass
  | .link => b.link
  | .valve => b.valve
  | .spring => b.spring
  | .node => b.node

/-- A bank's content replaced. -/
def Banks.put (b : Banks) (k : Bank) (r : Option FaultRecord) : Banks :=
  match k with
  | .sense => { b with sense := r }
  | .mass => { b with mass := r }
  | .link => { b with link := r }
  | .valve => { b with valve := r }
  | .spring => { b with spring := r }
  | .node => { b with node := r }

/-- Every bank empty. -/
def Banks.empty : Banks := { sense := none, mass := none, link := none, valve := none, spring := none, node := none }

/-- A mask's choice for a bank. -/
def BankMask.of (m : BankMask) : Bank → Bool
  | .sense => m.sense
  | .mass => m.mass
  | .link => m.link
  | .valve => m.valve
  | .spring => m.spring
  | .node => m.node

/-! ## A report's arrival -/

/-- The activity: the HPC's phase in RUN, the mode in any other mode (R199). -/
def State.activity (s : State) : Activity :=
  if s.mdc.mode = .run then .inPhase s.hpc.phase else .inMode s.mdc.mode

/-- The reported mark (R199): the default mask, every severity reported, holds until the end of CONFIG. -/
def State.reportedMark (s : State) (r : Report) : Bool :=
  match r.severity with
  | .severe => true
  | .degraded => !s.mdc.frozen || s.mdc.settings.degradedMask.of r.bank
  | .advisory => !s.mdc.frozen || s.mdc.settings.advisoryMask.of r.bank

/-- The record a report makes at its arrival (R199). -/
def State.complete (s : State) (r : Report) : FaultRecord :=
  { overflow := false, severity := r.severity, reported := s.reportedMark r
    holdCompromised := r.holdCompromised, releasePermitted := r.releasePermitted
    element := r.element, cls := r.cls, activity := s.activity }

/-- A non-severe record in place of a held non-severe one (R200). -/
def givesPlace (held new : FaultRecord) : Bool :=
  !held.reported && severityRank held.severity ≤ severityRank new.severity

/-- The overwrite rule (R200). -/
def overwrite (held : Option FaultRecord) (new : FaultRecord) : FaultRecord :=
  match held with
  | none => { new with overflow := false }
  | some h =>
    if h.severity = .severe then { h with overflow := true }
    else if new.severity = .severe || givesPlace h new then { new with overflow := true }
    else { h with overflow := true }

/-- The banks after a report. -/
def Banks.store (b : Banks) (k : Bank) (new : FaultRecord) : Banks := b.put k (some (overwrite (b.get k) new))

/-- The banks changed, and a Declaration placed at a change of the declared severity or of release-permitted (R171,
R202). -/
def State.changeBanks (s : State) (b : Banks) : State :=
  let t := { s with frb := { s.frb with banks := b } }
  if b.severity != s.frb.banks.severity || b.releasePermitted != s.frb.banks.releasePermitted then t.placeDeclaration
  else t

/-- A report completed and stored (R199, R200), with the Declaration of R202. -/
def State.writeRecord (s : State) (r : Report) : State := s.changeBanks (s.frb.banks.store r.bank (s.complete r))

/-- Fault-response-active set (R201). -/
def State.setResponse (s : State) : State := { s with frb := { s.frb with responseActive := true } }

/-- A report stored, with fault-response-active set when it is severe (R199 to R201). -/
def State.storeReport (s : State) (r : Report) : State :=
  if r.severity = .severe then (s.writeRecord r).setResponse else s.writeRecord r

/-- A report hands the MDC a SAFE cause: severe, with fault-response-active already set (R201). -/
def State.secondSevere (s : State) (r : Report) : Bool := r.severity == .severe && s.frb.responseActive

/-! ## The reports of the blocks -/

/-- A report with hold-compromised clear and release-permitted yes. -/
def plainReport (bank : Bank) (severity : Severity) (cls : FaultClass) (element : Option Element) : Report :=
  { bank := bank, severity := severity, cls := cls, element := element, holdCompromised := false
    releasePermitted := true }

/-- LINK advisory "malformed" (R61, R169, R187). -/
def malformedReport (e : Element) : Report := plainReport .link .advisory .consistency (some e)
/-- NODE severe identity fault (R62). -/
def identityReport : Report :=
  { bank := .node, severity := .severe, cls := .identity, element := none, holdCompromised := false
    releasePermitted := false }
/-- NODE advisory "expected count exceeded" (R63, R71; log entry 28). -/
def expectedReport (n : Nat) : Report := plainReport .node .advisory .consistency (some (.peer n))
/-- LINK advisory of a peer's expiry (R67). -/
def expiryReport (n : Nat) : Report := plainReport .link .advisory .timing (some (.peer n))
/-- SENSE advisory "creep gap" (R27). -/
def creepGapReport : Report := plainReport .sense .advisory .consistency (some .creep)
/-- SENSE severe report of blind creep (R29). -/
def blindReport : Report := plainReport .sense .severe .signal (some .creep)
/-- MASS degraded report of the accelerometer (R47). -/
def accelerometerReport : Report := plainReport .mass .degraded .range (some .accelerometer)
/-- MASS advisory grade disagreement (R48). -/
def disagreementReport : Report := plainReport .mass .advisory .consistency (some .gradeDisagreement)
/-- MASS degraded report of the load input (R54). -/
def loadReport : Report := plainReport .mass .degraded .range (some .loadInput)
/-- NODE degraded report of a lane mismatch (R95). -/
def laneReport : Report := plainReport .node .degraded .consistency (some .holdComputation)
/-- SPRING degraded "spring insufficient" (R118). -/
def springInsufficientReport : Report := plainReport .spring .degraded .consistency (some .springChamber)
/-- SPRING advisory "no spring on segment" (R119). -/
def noSpringReport : Report := plainReport .spring .advisory .consistency none
/-- VALVE severe report of the chamber pressure sensor (R133). -/
def chamberSensorReport : Report :=
  { plainReport .valve .severe .range (some .chamberSensor) with holdCompromised := true }
/-- VALVE severe report of an apply timeout (R140). -/
def applyTimeoutReport : Report :=
  { plainReport .valve .severe .timing (some .applyValve) with holdCompromised := true }
/-- VALVE degraded report of a vent timeout (R141). -/
def ventTimeoutReport : Report :=
  { plainReport .valve .degraded .timing (some .ventValve) with releasePermitted := false }
/-- VALVE severe readback mismatch of one valve (R144). -/
def readbackReport (e : Element) : Report :=
  { plainReport .valve .severe .consistency (some e) with holdCompromised := true, releasePermitted := false }
/-- SPRING degraded report of the spring chamber pressure sensor (R153). -/
def springSensorReport : Report := plainReport .spring .degraded .range (some .springSensor)
/-- SPRING severe "confirm timeout" (R158). -/
def confirmTimeoutReport : Report := plainReport .spring .severe .timing (some .parkApplyValve)
/-- SPRING degraded "confirm lost" (R160). -/
def confirmLostReport : Report := plainReport .spring .degraded .consistency (some .parkApplyValve)
/-- LINK advisory "error passive" (R177). -/
def errorPassiveReport : Report := plainReport .link .advisory .signal none
/-- LINK degraded "bus off" (R178). -/
def busOffReport : Report := plainReport .link .degraded .signal none
/-- LINK advisory "service overrun" (R181). -/
def overrunReport : Report := plainReport .link .advisory .timing (some .serviceTool)
/-- LINK advisory "late configure" (R187). -/
def lateConfigureReport : Report := plainReport .link .advisory .timing (some .serviceTool)
/-- NODE advisory "configure rewrite" (R187). -/
def rewriteReport (g : Nat) : Report := plainReport .node .advisory .consistency (some (.group g))
/-- NODE severe "clock" (R184). -/
def clockReport : Report := plainReport .node .severe .timing (some .referenceClock)
/-- NODE degraded "brown-out" (R190). -/
def brownOutReport : Report := plainReport .node .degraded .range (some .supply)
/-- NODE severe "restart limit" (R190). -/
def restartLimitReport : Report := plainReport .node .severe .consistency none
/-- NODE severe "restart timeout" (R192). -/
def restartTimeoutReport : Report := plainReport .node .severe .timing none
/-- NODE advisory "watch refused" (R193). -/
def watchRefusedReport : Report := plainReport .node .advisory .consistency none

end Sys2Proof.Machine
end

