-- ==== Sys2Proof/Machine/Cpr.lean ====
section
/-! DEFINITION. The Chamber Pressure Regulator (chapter 7), on its own state: valve modes, targets, pressure readings and
readbacks. -/

namespace Sys2Proof.Machine

/-! ## Valves (R128) -/

/-- The hold latch. -/
def Valves.hold : Valves → Bool
  | .passThrough => false
  | _ => true

/-- The apply latch. -/
def Valves.apply : Valves → Bool
  | .applying => true
  | _ => false

/-- The vent latch. -/
def Valves.vent : Valves → Bool
  | .venting => true
  | _ => false

/-- The combination that drives the chamber in a direction. -/
def Direction.valves : Direction → Valves
  | .apply => .applying
  | .vent => .venting

/-! ## Entries (R130, R131) -/

/-- Entry into REGULATING (R130). -/
def Cpr.enterRegulating (c : Cpr) : Cpr :=
  { c with regulating := true, valves := .holdOnly, operation := none, settleTime := 0, settleOwed := true
           abandoned := false, applyReported := false, ventReported := false }

/-- Entry into PASS-THROUGH (R131). -/
def Cpr.enterPassThrough (c : Cpr) : Cpr :=
  { c with regulating := false, valves := .passThrough, operation := none, target := 0, settleTime := 0
           settleOwed := false, abandoned := false, applyReported := false, ventReported := false }

/-! ## Band test, reversal and change of target (R135, R137, R138) -/

/-- An operation begun in a direction, with its valve driven and a settled report owed (R135, R138). -/
def Cpr.begin (c : Cpr) (d : Direction) : Cpr :=
  { c with operation := some { direction := d, time := 0 }, valves := d.valves, settleOwed := true }

/-- The band test (R135). -/
def Cpr.bandTest (c : Cpr) : Cpr :=
  if c.regulating && c.sensor == .valid && c.operation.isNone && !c.abandoned then
    if belowBand c.target c.measured then c.begin .apply
    else if aboveBand c.target c.measured then c.begin .vent
    else c
  else c

/-- The side of the band that an operation's direction works on. -/
def Direction.ownSide (d : Direction) (target measured : Nat) : Bool :=
  match d with
  | .apply => belowBand target measured
  | .vent => aboveBand target measured

/-- The opposite direction. -/
def Direction.opposite : Direction → Direction
  | .apply => .vent
  | .vent => .apply

/-- A new target placed against the measured pressure with an operation present: retarget, pause or reversal (R137). -/
def Cpr.placeTarget (c : Cpr) (o : Operation) : Cpr :=
  if o.direction.ownSide c.target c.measured then { c with valves := o.direction.valves }
  else if insideBand c.target c.measured then { c with valves := .holdOnly }
  else c.begin o.direction.opposite

/-- A target handed by the HPC (R137): clamped to 0..P_max; a change when its value differs or when it is handed anew by
R121. In PASS-THROUGH the value is recorded and nothing further is done. -/
def Cpr.take (c : Cpr) (pMax v : Nat) (anew : Bool) : Cpr :=
  if !c.regulating then { c with target := min pMax v }
  else if min pMax v = c.target && !anew then c
  else
    let d := { c with target := min pMax v, settleTime := 0, settleOwed := true, abandoned := false }
    match d.operation with
    | some o => d.placeTarget o
    | none => d.bandTest

/-! ## Pressure readings (R132 to R134, R136, R139 to R142) -/

/-- What the operation step of a reading finds. -/
inductive StepResult
  | goesOn | applyTimeout | ventTimeout
  deriving DecidableEq, Repr

/-- An operation timed out: it ends without a settled report, hold-only, abandoned set (R140, R141). -/
def Cpr.timedOut (c : Cpr) : Cpr := { c with operation := none, valves := .holdOnly, abandoned := true }

/-- The operation step (R136) with its timeouts. -/
def Cpr.operationStep (c : Cpr) : Cpr × StepResult :=
  match c.operation with
  | none => (c, .goesOn)
  | some o =>
    if o.direction.ownSide c.target c.measured then
      if 800 ≤ o.time + 1 then
        (c.timedOut, match o.direction with | .apply => .applyTimeout | .vent => .ventTimeout)
      else
        ({ c with operation := some { o with time := o.time + 1 }, valves := o.direction.valves }, .goesOn)
    else if insideBand c.target c.measured then ({ c with valves := .holdOnly }, .goesOn)
    else (c.begin o.direction.opposite, .goesOn)

/-- The settle step (R139): whether a settled report is given. -/
def Cpr.settleStep (c : Cpr) : Cpr × Bool :=
  if insideBand c.target c.measured then
    if 50 ≤ c.settleTime + 1 && c.settleOwed then
      ({ c with settleTime := 50, settleOwed := false, operation := none, valves := .holdOnly }, true)
    else ({ c with settleTime := min 50 (c.settleTime + 1) }, false)
  else ({ c with settleTime := 0 }, false)

/-- The timeout-reported flags: a timeout of a direction reports when its flag is clear, and the flag is then set (R140
to R142). -/
def Cpr.reportTimeout (c : Cpr) (r : StepResult) : Cpr × List Report :=
  match r with
  | .goesOn => (c, [])
  | .applyTimeout => ({ c with applyReported := true }, if c.applyReported then [] else [applyTimeoutReport])
  | .ventTimeout => ({ c with ventReported := true }, if c.ventReported then [] else [ventTimeoutReport])

/-- An in-range reading in REGULATING: band test, operation step and settle step, in this order (R132; log entries
41 and 42). -/
def Cpr.regulate (c : Cpr) : Cpr × PressureEvents :=
  let op := c.bandTest.operationStep
  let st := op.1.settleStep
  let rp := st.1.reportTimeout op.2
  (rp.1, { reports := rp.2, rangeOnset := false, settled := st.2, applyTimeout := op.2 == .applyTimeout
           ventTimeout := op.2 == .ventTimeout })

/-- No event of a reading. -/
def PressureEvents.none : PressureEvents :=
  { reports := [], rangeOnset := false, settled := false, applyTimeout := false, ventTimeout := false }

/-- An in-range reading taken (R132, R134). A recovery from OUT OF RANGE in REGULATING leaves a settled report owed. -/
def Cpr.accept (c : Cpr) (p : Nat) : Cpr :=
  { c with measured := p, rangeRun := 0, sensor := .valid
           settleOwed := c.settleOwed || (c.regulating && c.sensor == .outOfRange) }

/-- The onset of OUT OF RANGE (R133). -/
def Cpr.rangeLost (c : Cpr) : Cpr :=
  if c.regulating then
    { c with sensor := .outOfRange, rangeRun := 5, operation := none, valves := .holdOnly, settleTime := 0 }
  else { c with sensor := .outOfRange, rangeRun := 5, settleTime := 0 }

/-- One reading of the chamber pressure sensor (R132). -/
def Cpr.read (c : Cpr) (kPa : Int) : Cpr × PressureEvents :=
  if pressureInRange kPa then
    let d := c.accept (pressureClamped kPa)
    if d.regulating then d.regulate else (d, PressureEvents.none)
  else if 5 ≤ c.rangeRun + 1 then
    if c.sensor = .outOfRange then (c, PressureEvents.none)
    else (c.rangeLost, { PressureEvents.none with reports := [chamberSensorReport], rangeOnset := true })
  else ({ c with rangeRun := c.rangeRun + 1 }, PressureEvents.none)

/-! ## Readback (R143, R144) -/

/-- One sample of one valve's current sense against its latch: the watch, and whether the mismatch is reported. -/
def Readback.sample (r : Readback) (latch current : Bool) : Readback × Bool :=
  if current = latch then ({ current := current, mismatch := 0, reported := false }, false)
  else
    let m := min 20 (r.mismatch + 1)
    ({ current := current, mismatch := m, reported := r.reported || m == 20 }, m == 20 && !r.reported)

/-- One sample of the three readbacks, with the reports in the order hold, apply, vent (R144). -/
def Cpr.readback (c : Cpr) (hold apply vent : Bool) : Cpr × List Report :=
  let h := c.holdBack.sample c.valves.hold hold
  let a := c.applyBack.sample c.valves.apply apply
  let v := c.ventBack.sample c.valves.vent vent
  ({ c with holdBack := h.1, applyBack := a.1, ventBack := v.1 },
   (if h.2 then [readbackReport .holdValve] else []) ++ (if a.2 then [readbackReport .applyValve] else [])
     ++ (if v.2 then [readbackReport .ventValve] else []))

/-! ## Modes (R146 to R148) -/

/-- A readback at the entry to WATCH: mismatch time 0, mark cleared (R148). -/
def Readback.rest (r : Readback) : Readback := { r with mismatch := 0, reported := false }

/-- Entry to WATCH (R131, R147, R148). -/
def Cpr.enterWatch (c : Cpr) : Cpr :=
  { c.enterPassThrough with
    reading := false, sensor := .noReading, rangeRun := 0
    holdBack := c.holdBack.rest, applyBack := c.applyBack.rest, ventBack := c.ventBack.rest }

end Sys2Proof.Machine
end

