-- ==== Sys2Proof/Machine/Pad.lean ====
section
/-! DEFINITION. The Park-Apply Driver (chapter 8), on its own state: the line, its drives, the spring chamber and the
confirm watch. -/

namespace Sys2Proof.Machine

/-- The line as the requests give it (R149). -/
def Pad.asked (p : Pad) : Bool := p.hpcRequest == .assert || p.mdcRequest

/-- A change to ASSERTED on a spring-fitted node: apply drive and a new confirm watch, taken as timed out at once while
the sensor is OUT OF RANGE (R150, R153, R155). -/
def Pad.assertLine (p : Pad) : Pad :=
  { p with asserted := true, drive := .apply, driveTime := 0
           watch := if p.sensor == .outOfRange then .timedOut else .waiting
           confirmTime := 0, lostTime := 0, lostReported := false }

/-- A change to WITHDRAWN on a spring-fitted node: withdraw drive, the confirm watch IDLE (R150, R156). The confirm time
of an IDLE watch is the model's choice: 0 here (log entry 58). -/
def Pad.withdrawLine (p : Pad) : Pad :=
  { p with asserted := false, drive := .withdraw, driveTime := 0, watch := .idle, confirmTime := 0, lostTime := 0 }

/-- The line judged from the requests in force: on a node without the SPRING strap the state alone changes (R149, R151). -/
def Pad.judge (p : Pad) (spring : Bool) : Pad :=
  if p.asked = p.asserted then p
  else if !spring then { p with asserted := p.asked }
  else if p.asked then p.assertLine
  else p.withdrawLine

/-- An assertion by this judgement times out at once, since the sensor is OUT OF RANGE (R153). -/
def Pad.timesOut (p : Pad) (spring : Bool) : Bool :=
  spring && p.asked && !p.asserted && p.sensor == .outOfRange

/-- The confirm-lost test of an in-range reading: the PAD, and whether the loss is reported (R160). -/
def Pad.lostTest (p : Pad) : Pad × Bool :=
  if p.watch == .confirmed && p.asserted then
    if 100 ≤ p.pressure then
      let t := min 500 (p.lostTime + 10)
      ({ p with lostTime := t, lostReported := p.lostReported || t == 500 }, t == 500 && !p.lostReported)
    else ({ p with lostTime := 0 }, false)
  else (p, false)

/-- The confirm test of an in-range reading (R157). -/
def Pad.confirmTest (p : Pad) : Pad × Bool :=
  if p.watch == .waiting && p.pressure < 50 then ({ p with watch := .confirmed }, true) else (p, false)

/-- No event of a reading. -/
def SpringEvents.none : SpringEvents := { rangeOnset := false, confirmed := false, timedOut := false, lost := false }

/-- One reading of the spring chamber pressure sensor (R152, R153, R157, R160). -/
def Pad.read (p : Pad) (kPa : Int) : Pad × SpringEvents :=
  if pressureInRange kPa then
    let q := { p with pressure := pressureClamped kPa, rangeRun := 0, sensor := .valid }
    let c := q.confirmTest
    let l := c.1.lostTest
    (l.1, { SpringEvents.none with confirmed := c.2, lost := l.2 })
  else if 5 ≤ p.rangeRun + 1 then
    if p.sensor = .outOfRange then (p, SpringEvents.none)
    else
      ({ p with sensor := .outOfRange, rangeRun := 5, lostTime := 0
                watch := if p.watch == .waiting then .timedOut else p.watch },
       { SpringEvents.none with rangeOnset := true, timedOut := p.watch == .waiting })
  else ({ p with rangeRun := p.rangeRun + 1 }, SpringEvents.none)

/-- Entry to WATCH (R166). A watch that becomes IDLE here keeps its confirm time (log entry 58). -/
def Pad.enterWatch (p : Pad) : Pad :=
  { p with reading := false, sensor := .noReading, rangeRun := 0, lostTime := 0
           watch := if p.watch == .waiting then .idle else p.watch }

end Sys2Proof.Machine
end

