-- ==== Sys2Proof/Machine/Glu.lean ====
section
/-! DEFINITION. The Grade and Load Unit (chapter 3), on its own state: readings, own grade, vehicle grade, axle load and
vehicle mass. -/

namespace Sys2Proof.Machine

/-! ## Own grade (R43 to R48) -/

/-- The squared magnitude of a reading. -/
def squaredMagnitude (a : Accel) : Int := a.x * a.x + a.y * a.y + a.z * a.z

/-- The acceleration window (R43); a reading not delivered counts as outside. -/
def accelInside : Option Accel → Bool
  | none => false
  | some a => 640000 ≤ squaredMagnitude a && squaredMagnitude a ≤ 1440000

/-- The newest n of a list, oldest first. -/
def newest {α : Type} (n : Nat) (l : List α) : List α := l.drop (l.length - n)

/-- Own grade from a full history (R45); none when the root is 0. -/
def gradeOf (h : List Accel) : Option Int :=
  let sx := (h.map Accel.x).sum
  let sz := (h.map Accel.z).sum
  let root := isqrt (sx * sx + sz * sz).toNat
  if root = 0 then none else some (clamp (-400) 400 (Int.tdiv (1000 * sx) (root : Int)))

/-- The history after a reading (R44). -/
def Glu.history (g : Glu) (r : Option Accel) (stationary : Bool) : List Accel :=
  match r with
  | some a => if accelInside r && stationary then newest 16 (g.accelHistory ++ [a]) else []
  | none => []

/-- The window run after a reading (R47). -/
def Glu.nextWindowRun (g : Glu) (r : Option Accel) : Nat := if accelInside r then 0 else min 10 (g.windowRun + 1)

/-- Window test, history and own grade of one reading (R43 to R46). -/
def Glu.take (g : Glu) (r : Option Accel) (stationary : Bool) : Glu :=
  let h := g.history r stationary
  let t := { g with windowRun := g.nextWindowRun r, accelHistory := h }
  if h.length = 16 then
    match gradeOf h with
    | some v => { t with ownGrade := v, gradeValid := true, gradeFormed := true }
    | none => { t with gradeValid := false }
  else { t with gradeValid := false }

/-- A new own grade or a change of grade-valid (R45, R49). -/
def Glu.gradeTaken (before after : Glu) : Bool := after.gradeValid || before.gradeValid

/-- The reading makes the accelerometer report (R47). -/
def Glu.windowFault (before after : Glu) : Bool := after.windowRun == 10 && before.windowRun != 10

/-- Whether own grade and vehicle grade disagree at a reading (R48). -/
def Glu.disagrees (g : Glu) : Bool :=
  g.gradeValid && g.gradeStatus == .formed && 50 < (g.ownGrade - g.vehicleGrade).natAbs

/-- The disagreement time after a reading (R48). -/
def Glu.nextDisagreement (g : Glu) : Nat := if g.disagrees then min 1000 (g.disagreement + 10) else 0

/-- The reading makes the disagreement report (R48). -/
def Glu.disagreementFault (g : Glu) : Bool := g.nextDisagreement == 1000 && g.disagreement != 1000

/-- The emptying of the history when the stationary indication is cleared (R44, R46). -/
def Glu.lostStationary (g : Glu) : Glu := { g with accelHistory := [], gradeValid := false }

/-! ## Vehicle grade (R49, R50) -/

/-- A value inserted at its place in ascending order. -/
def insertAscending (x : Int) : List Int → List Int
  | [] => [x]
  | y :: l => if x ≤ y then x :: y :: l else y :: insertAscending x l

/-- A list in ascending order. -/
def ascending : List Int → List Int
  | [] => []
  | x :: l => insertAscending x (ascending l)

/-- Of two middle values, the one of larger magnitude; with equal magnitudes, the positive one (R50). -/
def steeper (a b : Int) : Int :=
  if a.natAbs < b.natAbs then b else if b.natAbs < a.natAbs then a else max a b

/-- The value chosen from candidates in ascending order (R50). -/
def median (l : List Int) : Int :=
  if l.length % 2 = 1 then l.getD (l.length / 2) 0
  else steeper (l.getD (l.length / 2 - 1) 0) (l.getD (l.length / 2) 0)

/-- The candidates (R49). -/
def Glu.candidates (g : Glu) (entries : List PeerEntry) : List Int :=
  (if g.gradeValid then [clamp (-400) 400 g.ownGrade] else [])
    ++ (entries.filter (fun e => e.isFresh && e.decl.gradeValid)).map (fun e => clamp (-400) 400 e.decl.grade)

/-- The vehicle grade chosen anew (R50). -/
def Glu.chooseGrade (g : Glu) (entries : List PeerEntry) : Glu :=
  let l := ascending (g.candidates entries)
  if l.isEmpty then
    if g.gradeStatus = .default then { g with vehicleGrade := 250 } else { g with gradeStatus := .held }
  else { g with vehicleGrade := median l, gradeStatus := .formed }

/-! ## Axle load and mass (R52 to R56) -/

/-- A reading from 250 to 4,750 mV inclusive is in range (R52). -/
def loadInRange (mV : Nat) : Bool := 250 ≤ mV && mV ≤ 4750

/-- Millivolts in kilograms, rounded down and clamped (R52). -/
def loadOf (mV : Nat) : Nat := min 25000 ((mV - 500) * 25000 / 4000)

/-- The mean of the newest loads, rounded down: 50 while stationary, 10 while not (R53). -/
def meanLoad (h : List Nat) (stationary : Bool) : Nat :=
  let l := newest (if stationary then 50 else 10) h
  l.sum / l.length

/-- The lifted flag of a load (R55). -/
def liftedAt (load : Nat) : Bool := load < 500

/-- An in-range load reading (R52 to R55). -/
def Glu.takeLoad (g : Glu) (mV : Nat) (stationary : Bool) : Glu :=
  let h := newest 50 (g.loadHistory ++ [loadOf mV])
  let load := meanLoad h stationary
  { g with loadHistory := h, loadRun := 0, ownLoad := load, loadKnown := true
           lifted := if load != g.ownLoad || !g.loadKnown then liftedAt load else g.lifted }

/-- An out-of-range load reading (R54): the GLU, and whether the fault starts. -/
def Glu.missLoad (g : Glu) : Glu × Bool :=
  if 5 ≤ g.loadRun + 1 then ({ g with loadRun := 5, loadHistory := [] }, g.loadRun != 5)
  else ({ g with loadRun := g.loadRun + 1 }, false)

/-- The vehicle mass (R56). -/
def massOf (g : Glu) (c : Settings) (entries : List PeerEntry) : Nat :=
  (if g.loadKnown then g.ownLoad else c.lUnk) + (entries.map (fun e => 10 * e.decl.load)).sum
    + c.lUnk * (c.nExp - 1 - entries.length)

/-! ## Modes (R57 to R59) -/

/-- The changes at an entry to WATCH or RESTART (R58, R59). -/
def Glu.rest (g : Glu) : Glu :=
  { g with accelHistory := [], loadHistory := [], gradeValid := false, windowRun := 0, loadRun := 0
           disagreement := 0, gradeStatus := if g.gradeStatus = .formed then .held else g.gradeStatus }

end Sys2Proof.Machine
end

