-- ==== Sys2Proof/Machine/View.lean ====
section
/-! DEFINITION. The Peer View Table and the Vehicle Input Records (chapter 4), on their own state. -/

namespace Sys2Proof.Machine

/-! ## Entries (R63, R64) -/

/-- The entry a first Declaration creates (R63). -/
def PeerEntry.created (n : Nat) (d : Declared) : PeerEntry :=
  { node := n, decl := d, creepSteady := false, age := 0, freshness := .fresh, lastAlert := none }

/-- An entry after a further Declaration (R64). The first Declaration after an expiry leaves creep steady clear, as R64
says, though the reason R64 adds reads otherwise. The first update after the creation is compared with the Declaration that
created the entry, and may set it, by R64's definition (log entry 60). -/
def PeerEntry.updated (e : PeerEntry) (d : Declared) : PeerEntry :=
  { e with decl := d, age := 0, freshness := .fresh
           creepSteady := e.freshness != .expired && e.decl.creepValid && d.creepValid && e.decl.creep == d.creep }

/-- The entry for a node number. -/
def entryFor (n : Nat) (l : List PeerEntry) : Option PeerEntry := l.find? (fun e => e.node == n)

/-- An entry inserted at its place in ascending order of node number (R63). -/
def insertEntry (e : PeerEntry) : List PeerEntry → List PeerEntry
  | [] => [e]
  | f :: l => if e.node < f.node then e :: f :: l else f :: insertEntry e l

/-- The entry for a node number changed in place. -/
def changeEntry (n : Nat) (change : PeerEntry → PeerEntry) (l : List PeerEntry) : List PeerEntry :=
  l.map (fun e => if e.node = n then change e else e)

/-- The table after an accepted Declaration (R63, R64). -/
def Pvt.take (p : Pvt) (n : Nat) (d : Declared) : Pvt :=
  match entryFor n p.entries with
  | none => { p with entries := insertEntry (PeerEntry.created n d) p.entries }
  | some _ => { p with entries := changeEntry n (fun e => e.updated d) p.entries }

/-- The declared capacity that the capacity sum holds for a node number: that of its last Declaration while fresh or stale,
else none (R85). -/
def Pvt.summed (p : Pvt) (n : Nat) : Nat :=
  (entryFor n p.entries).elim 0 (fun e => if e.freshness == .expired then 0 else e.decl.capacity)

/-- The declared capacity of an entry taken over (R65). -/
def Pvt.takeCapacity (p : Pvt) (n c : Nat) : Pvt :=
  { p with entries := changeEntry n (fun e => { e with decl := { e.decl with capacity := c } }) p.entries }

/-- An accepted Alert's trace in its sender's entry, if there is one (R69). -/
def Pvt.takeAlert (p : Pvt) (n : Nat) (a : LastAlert) : Pvt :=
  { p with entries := changeEntry n (fun e => { e with lastAlert := some a }) p.entries }

/-- The last-alert part removed (R70). -/
def Pvt.dropAlert (p : Pvt) (n : Nat) : Pvt :=
  { p with entries := changeEntry n (fun e => { e with lastAlert := none }) p.entries }

/-- The freshness of an entry changed (R66). -/
def Pvt.setFreshness (p : Pvt) (n : Nat) (f : Freshness) : Pvt :=
  { p with entries := changeEntry n (fun e => { e with freshness := f }) p.entries }

/-- The table emptied (R71). -/
def Pvt.emptied (p : Pvt) : Pvt := { p with entries := [] }

/-! ## Ages in ticks (R62, R66, R70, R72) -/

/-- A last alert one tick older, up to 2 s. -/
def LastAlert.older (a : LastAlert) : LastAlert := { a with age := min (sec 2) (a.age + 1) }

/-- An entry one tick older. -/
def PeerEntry.older (e : PeerEntry) : PeerEntry :=
  { e with age := e.age + 1, lastAlert := e.lastAlert.map LastAlert.older }

/-- The table one tick older; the clash span ends at 300 ms without an own-number frame. -/
def Pvt.older (p : Pvt) : Pvt :=
  { p with entries := p.entries.map PeerEntry.older
           clashTime := match p.clashTime with
             | none => none
             | some t => if ms 300 ≤ t + 1 then none else some (t + 1) }

/-- A record one tick older. -/
def RecordAge.older (a : RecordAge) : RecordAge := { a with age := min (ms 200) (a.age + 1) }

/-- The three records one tick older. -/
def Vir.older (v : Vir) : Vir :=
  { cab := v.cab.map (fun r => (r.1, r.2.older))
    drive := v.drive.map (fun r => (r.1, r.2.older))
    drum := v.drum.map (fun r => (r.1, r.2.older)) }

/-- The age of a record just written (R72). -/
def RecordAge.new : RecordAge := { age := 0, fresh := true }

/-- The age of a station's record, if it has one. -/
def Vir.age (v : Vir) : Station → Option RecordAge
  | .cab => v.cab.map Prod.snd
  | .drive => v.drive.map Prod.snd
  | .drum => v.drum.map Prod.snd

/-- A station's record passed to stale (R72). -/
def Vir.setStale (v : Vir) : Station → Vir
  | .cab => { v with cab := v.cab.map (fun r => (r.1, { r.2 with fresh := false })) }
  | .drive => { v with drive := v.drive.map (fun r => (r.1, { r.2 with fresh := false })) }
  | .drum => { v with drum := v.drum.map (fun r => (r.1, { r.2 with fresh := false })) }

end Sys2Proof.Machine
end

