-- ==== Sys2Proof/Machine/Hal.lean ====
section
/-! DEFINITION. The Hold Allocator's arithmetic (chapter 5): the effective margin and stages 4 to 8 and 10, one function
for both lanes. -/

namespace Sys2Proof.Machine

/-! ## Stages -/

/-- Effective margin (R80): M, with Md added while the drum turns, discharges or cannot be read. -/
def effectiveMargin (c : Settings) (drumCounts : Bool) : Nat := if drumCounts then c.margin + c.drumMargin else c.margin

/-- Stage 4 (R81). -/
def requiredForce (mass grade margin : Nat) : Nat := min 2000000 (ceilDiv (mass * grade * 981 * margin) 10000000)

/-- Stage 5, the traction limit (R82). -/
def tractionLimit (load friction : Nat) : Nat := load * 981 * friction / 10000

/-- Stage 5, the brake limit (R82). -/
def brakeLimit (c : Settings) : Nat := c.gain * (c.pMax - c.pPush)

/-- Stage 5, the own capacity (R82, R83). -/
def ownCapacity (forcedZero : Bool) (traction brake : Nat) : Nat := if forcedZero then 0 else min traction brake

/-- Stage 6: the capacity an entry adds; an expired entry adds none (R85). -/
def PeerEntry.capacity (e : PeerEntry) : Nat := if e.freshness = .expired then 0 else 10 * e.decl.capacity

/-- Stage 6 (R85). -/
def capacitySum (own : Nat) (entries : List PeerEntry) : Nat := own + (entries.map PeerEntry.capacity).sum

/-- Stage 7, the own share (R86). -/
def ownShare (fReq cOwn sumC : Nat) : Nat := if sumC = 0 then 0 else min cOwn (ceilDiv (fReq * cOwn) sumC)

/-- Stage 7, the insufficiency flag (R86). -/
def insufficiency (fReq sumC : Nat) : Bool := sumC = 0 || sumC < fReq

/-- The pressure of a share: P_push and the ceiling of S / K, 0 for no share (R88, R92). -/
def sharePressure (c : Settings) (share : Nat) : Nat := if share = 0 then 0 else c.pPush + ceilDiv share c.gain

/-- Stage 8 (R88). -/
def computedPressure (c : Settings) (pCap base level : Nat) : Nat := min c.pMax (max pCap (base + level * c.pStep))

/-- Stage 10, the weight component (R91). -/
def weightComponent (mass grade : Nat) : Nat := ceilDiv (mass * grade * 981) 100000

/-- Stage 10, the release share (R92). -/
def releaseShare (remaining margin cOwn sumC : Nat) : Nat :=
  if sumC = 0 then 0 else min cOwn (ceilDiv (remaining * margin * cOwn) (100 * sumC))

/-- Stage 10, the remaining hold (R91): none without drive demand. -/
def remainingHold (g : Glu) (demand : Option (Gear × Nat)) (fGrav : Nat) : Option Nat :=
  match demand with
  | none => none
  | some (gear, force) => some (if g.uphill gear then fGrav - force else 0)

/-- Stage 10, the release result (R91, R92). -/
def releaseResult (c : Settings) (g : Glu) (demand : Option (Gear × Nat)) (fGrav margin cOwn sumC : Nat) :
    Option ReleaseResult :=
  match remainingHold g demand fGrav with
  | none => none
  | some r =>
    let share := releaseShare r margin cOwn sumC
    some { remaining := r, share := share, pressure := sharePressure c share }

/-! ## One lane -/

/-- Conditions that force the own capacity to 0 (R83). -/
def State.capacityForced (s : State) : Bool :=
  s.glu.lifted || s.frb.banks.holdCompromised || s.mdc.mode == .safe

/-- What a lane makes of the inputs as they stand (R94). -/
def State.laneResult (s : State) : HalResult :=
  let c := s.mdc.settings
  let fReq := requiredForce s.glu.mass s.glu.gradeMagnitude s.hal.margin
  let traction := tractionLimit s.glu.ownLoad c.friction
  let brake := brakeLimit c
  let cOwn := ownCapacity s.capacityForced traction brake
  let sumC := capacitySum cOwn s.pvt.entries
  let share := ownShare fReq cOwn sumC
  let fGrav := weightComponent s.glu.mass s.glu.gradeMagnitude
  { fReq := fReq, traction := traction, brake := brake, cOwn := cOwn, sumC := sumC, share := share
    insufficient := insufficiency fReq sumC
    pCalc := computedPressure c (s.hpc.pCap.getD 0) (sharePressure c share) s.csu.nodeLevel
    fGrav := fGrav
    release := releaseResult c s.glu s.demand fGrav s.hal.margin cOwn sumC }

/-- The delivery of a result to the HPC (R94). -/
def deliveryOf (r : HalResult) : Delivery :=
  { pCalc := r.pCalc, insufficient := r.insufficient, fGrav := r.fGrav
    release := r.release.map ReleaseResult.pressure }

/-- The effective margin formed anew from the drum record as it stands (R80). -/
def State.formMargin (s : State) : State :=
  { s with hal := { s.hal with margin := effectiveMargin s.mdc.settings s.drumCounts } }

end Sys2Proof.Machine
end

