-- ==== Sys2Proof/Machine/Csu.lean ====
section
/-! DEFINITION. The Creep Supervisor (chapter 2), on its own state: creep readings, effective creep, re-arming and the
points of the crossings. -/

namespace Sys2Proof.Machine

/-- A displacement of the position counter in millimetres: the difference read modulo 2³² as signed, converted with
truncation toward zero (R25). -/
def millimetres (origin position : Count) (circumference : Nat) : Int :=
  Int.tdiv ((position - origin).toInt * (circumference : Int)) 196608

/-- The first escalation point (R23, R24, R188). -/
def Settings.firstPoint (c : Settings) : Int := ((c.noticeThreshold + c.escalateInterval : Nat) : Int)

/-! ## Episode and resume (R24, R41, R42) -/

/-- The CSU at the start of an episode (R24). -/
def Csu.beginEpisode (u : Csu) (c : Settings) (w : Wmt) (level : Nat) : Csu :=
  { u with anchor := if w.positionValid then .held w.position else .pending
           offset := 0, own := 0, ownValid := w.positionValid, lastValidOwn := 0, lastEffective := 0
           noticeBase := 0, nextPoint := c.firstPoint, notice := false, breach := false, creepGap := false
           blind := false, breachTime := 0, ownLevel := 0, nodeLevel := level }

/-- The CSU at the end of an episode (R41). The creep-gap flag is cleared here, as R41 says, and not kept to the next entry
into CAPTURING, as R27 says (log entry 69). -/
def Csu.endEpisode (u : Csu) : Csu :=
  { u with anchor := .absent, ownValid := false, notice := false, breach := false, creepGap := false
           blind := false, breachTime := 0 }

/-- The first escalation point above a creep (R42): the notice threshold plus a whole number of escalate intervals. The
first of them is one interval on (log entry 24). -/
def pointAbove (c : Settings) (creep : Int) : Int :=
  if creep < c.firstPoint then c.firstPoint
  else c.firstPoint + ((creep - c.firstPoint) / (c.escalateInterval : Int) + 1) * (c.escalateInterval : Int)

/-- The CSU as the resume record gives it (R42), for a resume into HOLDING or into SECURED. -/
def Csu.resume (u : Csu) (c : Settings) (r : Resume) (secured : Bool) : Csu :=
  { u with anchor := .pending, offset := r.creep, ownLevel := r.level, nodeLevel := r.level
           creepGap := true, nextPoint := pointAbove c r.creep
           breach := (c.breachThreshold : Int) ≤ r.creep
           noticeBase := if secured then max 0 r.creep else 0
           notice := !secured && (c.noticeThreshold : Int) ≤ r.creep }

/-! ## Own creep (R24 to R26) -/

/-- A valid position read against an anchor (R25). -/
def Csu.readCreep (u : Csu) (g : Glu) (c : Settings) (anchor position : Count) : Csu :=
  let own := u.offset + g.downhill (millimetres anchor position c.circumference)
  { u with own := own, ownValid := true, lastValidOwn := own }

/-- A re-anchoring at the first valid position (R24, R26, R42): the CSU, with the creep-gap flag set. -/
def Csu.anchorAt (u : Csu) (offset : Int) (position : Count) : Csu :=
  { u with anchor := .held position, offset := offset, creepGap := true }

/-- Own creep at one sample (R24 to R26). With `gap` the WMT raises the position gap indication. -/
def Csu.sampleCreep (u : Csu) (w : Wmt) (g : Glu) (c : Settings) (gap : Bool) : Csu :=
  match u.anchor with
  | .absent => u
  | .pending =>
    if w.positionValid then (u.anchorAt u.offset w.position).readCreep g c w.position w.position else u
  | .held a =>
    if !w.positionValid then { u with ownValid := false }
    else if gap then (u.anchorAt u.lastValidOwn w.position).readCreep g c w.position w.position
    else u.readCreep g c a w.position

/-! ## Effective creep (R28) -/

/-- The largest of the values present; none when there is none. -/
def largest : List Int → Option Int
  | [] => none
  | x :: l => some (l.foldl max x)

/-- The declared creeps that count (R28). -/
def peerCreeps (entries : List PeerEntry) : List Int :=
  (entries.filter (fun e => e.freshHold && e.decl.creepValid)).map (fun e => e.decl.creep)

/-- Effective creep as the values present give it (R28). -/
def Csu.effectiveCreep (u : Csu) (entries : List PeerEntry) : Option Int :=
  largest ((if u.ownValid then [u.own] else []) ++ peerCreeps entries)

/-- Effective creep recomputed (R28, R29): a value becomes the last effective creep and ends the blind flag. -/
def Csu.recompute (u : Csu) (entries : List PeerEntry) : Csu :=
  match u.effectiveCreep entries with
  | some e => { u with effective := some e, lastEffective := e, blind := false }
  | none => { u with effective := none }

/-! ## Re-arming, crossings and levels (R30 to R37) -/

/-- Notice re-armed (R31). -/
def Csu.rearm (u : Csu) : Csu :=
  { u with notice := false, noticeBase := max 0 (u.effective.getD u.lastEffective) }

/-- The Notice crossing is reached (R30). -/
def Csu.noticeReached (u : Csu) (c : Settings) : Bool :=
  match u.effective with
  | none => false
  | some e => !u.notice && u.noticeBase + (c.noticeThreshold : Int) ≤ e

/-- The number of escalation points at or below effective creep (R32). -/
def Csu.pointsReached (u : Csu) (c : Settings) : Nat :=
  match u.effective with
  | none => 0
  | some e =>
    if e < u.nextPoint then 0 else ((e - u.nextPoint) / (c.escalateInterval : Int)).toNat + 1

/-- The breach by distance is reached (R33). -/
def Csu.breachReached (u : Csu) (c : Settings) : Bool :=
  match u.effective with
  | none => false
  | some e => !u.breach && (c.breachThreshold : Int) ≤ e

/-- The highest level among fresh entries in hold phases, 0 when there is none (R24, R37). -/
def peerLevel (entries : List PeerEntry) : Nat :=
  ((entries.filter PeerEntry.freshHold).map (fun e => e.decl.level)).foldl max 0

/-- The level an episode begins with (R24). -/
def captureLevel (entries : List PeerEntry) : Nat :=
  if entries.any (fun e => e.lastAlert.elim false (fun a => a.cause == .breach || a.cause == .insufficient)) then 4
  else peerLevel entries

end Sys2Proof.Machine
end

