-- ==== Sys2Proof/Machine/Wmt.lean ====
section
/-! DEFINITION. The Wheel Motion Tracker (chapter 1): one sample, step by step in the order of R1, and the conduct of the
block in the modes (R20 to R22). -/

namespace Sys2Proof.Machine

/-! ## Sampling -/

/-- The sample period in ticks: 100 µs, or 1 ms in WATCH (R1). -/
def Wmt.period (w : Wmt) : Nat := if w.slow then 10 else 1

/-- The raw sine code: negated when POL reads 1, −2,048 becoming +2,047 (R1). -/
def rawSine (pol : Bool) (c : Code) : Int := if pol then min 2047 (-c.toInt) else c.toInt

/-- The speed in mm/s, truncated toward zero; 0 while speed-valid is clear (R15). -/
def Wmt.speed (w : Wmt) (circumference : Nat) : Int :=
  if w.positionValid then
    Int.tdiv (w.v * (circumference : Int) * (if w.slow then 1000 else 10000)) (196608 * 65536)
  else 0

/-- The noise test is made while speed-valid is clear and at speeds between −5,000 and +5,000 mm/s (R2). The end points
are taken as tested (log entry 11), and the speed is v as it stands, read with the circumference and the sample period now
in force and not as formed at the sample before (log entry 76). -/
def Wmt.noiseTested (w : Wmt) (circumference : Nat) : Bool :=
  !w.positionValid || (w.speed circumference).natAbs ≤ 5000

/-- What the noise test leaves of one channel: the channel, the value used, whether the code was rejected and whether
the rejection was the fourth (R2, R3). -/
structure NoiseOutcome where
  channel : Channel
  used : Int
  rejected : Bool
  overrun : Bool
  deriving DecidableEq, Repr, Inhabited

/-- The noise test of one channel (R2, R3; log entry 15). -/
def Channel.noise (ch : Channel) (tested : Bool) (raw : Int) : NoiseOutcome :=
  if tested && 256 < (raw - ch.last).natAbs then
    if 4 ≤ ch.rejections + 1 then
      { channel := { ch with last := raw, rejections := 0 }, used := raw, rejected := true, overrun := true }
    else
      { channel := { ch with rejections := ch.rejections + 1 }, used := ch.last, rejected := true, overrun := false }
  else
    { channel := { ch with last := raw, rejections := 0 }, used := raw, rejected := false, overrun := false }

/-- The run of equal raw codes with the other channel's range over it (R4). `first` is the first sample. -/
def Channel.run (ch : Channel) (first : Bool) (raw other : Int) : Channel :=
  if first || raw != ch.raw then
    { ch with raw := raw, stuckRun := 1, otherLow := other, otherHigh := other, stuck := false }
  else
    { ch with stuckRun := min 64 (ch.stuckRun + 1), otherLow := min ch.otherLow other
              otherHigh := max ch.otherHigh other }

/-- The stuck test, made once the run has reached 64 (R4). -/
def Channel.stuckTest (ch : Channel) : Channel :=
  { ch with stuck := ch.stuck || (64 ≤ ch.stuckRun && 64 < ch.otherHigh - ch.otherLow) }

/-! ## Correction and amplitude -/

/-- The corrected sine s′ (R5). -/
def Wmt.correctedSine (w : Wmt) (used : Int) : Int := used - w.sineOffset

/-- The corrected cosine c′ (R5). -/
def Wmt.correctedCosine (w : Wmt) (used : Int) : Int := Int.tdiv ((used - w.cosineOffset) * w.gain) 4096

/-- The squared amplitude A² (R6). -/
def amplitudeSquared (s c : Int) : Nat := (s * s + c * c).toNat

/-- The amplitude window (R6). -/
def amplitudeInside (a2 : Nat) : Bool := 490000 ≤ a2 && a2 ≤ 4410000

/-- The element of an amplitude loss (R6): the smaller magnitude below the window, the larger above it, the cosine channel
when they are equal. -/
def amplitudeElement (s c : Int) (a2 : Nat) : Element :=
  if a2 < 490000 then (if s.natAbs < c.natAbs then .sineChannel else .cosineChannel)
  else (if c.natAbs < s.natAbs then .sineChannel else .cosineChannel)

/-- A degraded SENSE report of a signal error (R19). -/
def signalReport (cls : FaultClass) (e : Element) : Report :=
  { bank := .sense, severity := .degraded, cls := cls, element := some e, holdCompromised := false
    releasePermitted := true }

/-- The advisory "lock not achieved" (R13). R13 gives neither hold-compromised nor release-permitted; clear and yes are the
model's (log entry 28). -/
def lockReport : Report :=
  { bank := .sense, severity := .advisory, cls := .timing, element := none, holdCompromised := false
    releasePermitted := true }

/-! ## The tracking loop -/

/-- The deviation e (R9), kept within ±4,096 (log entry 13). -/
def deviation (phi : Nat) (s c : Int) (a2 : Nat) : Int :=
  let a := isqrt a2
  if a = 0 then 0
  else clamp (-4096) 4096
    (Int.tdiv (s * cosineEntry (phi / 65536) - c * sineEntry (phi / 65536)) (a : Int))

/-- The gain level after its selection (R10); none is made in WATCH. -/
def Wmt.selectGain (w : Wmt) (e : Int) : Bool :=
  if w.slow then w.highGain
  else if 3072 < e.natAbs then true
  else if e.natAbs < 1024 then false
  else w.highGain

/-- ε in units of 1/65,536 count: e × 652 / 4,096 counts (R9). The division is exact in these units. -/
def angleError (e : Int) : Int := e * 652 * 16

/-- Ki × ε, truncated (R10, R11). -/
def integralStep (high : Bool) (epsilon : Int) : Int := Int.tdiv epsilon (if high then 256 else 4096)

/-- Kp × ε, truncated (R10, R11). -/
def proportionalStep (high : Bool) (epsilon : Int) : Int := Int.tdiv epsilon (if high then 8 else 32)

/-- One cycle of φ in units of 1/65,536 count. -/
abbrev cycleUnits : Nat := 268435456

/-- The signed change of the whole-count part, taken the short way round (R14). -/
def countChange (old new : Nat) : Int :=
  let d := ((new : Int) - (old : Int)) % 4096
  if d < 2048 then d else d - 4096

/-- A wrap of φ through 0 (R7). -/
inductive Wrap
  | none | forward | backward
  deriving DecidableEq, Repr, Inhabited

/-- The wrap made by an advance of φ. -/
def wrapOf (phi : Nat) (advance : Int) : Wrap :=
  if (cycleUnits : Int) ≤ (phi : Int) + advance then .forward
  else if (phi : Int) + advance < 0 then .backward
  else .none

/-- The lock after a sample's deviation (R12): 204 is the greatest whole deviation below 5 % (log entry 15). The qualifying
time is 0 once LOCKED (log entry 74). -/
def Wmt.updateLock (w : Wmt) (e : Int) : Wmt :=
  if w.locked then
    if 2048 < e.natAbs then { w with locked := false, lockTime := 0 } else w
  else if e.natAbs ≤ 204 then
    if ms 20 ≤ w.lockTime + w.period then { w with locked := true, lockTime := 0 }
    else { w with lockTime := w.lockTime + w.period }
  else { w with lockTime := 0 }

/-- The loop update of a TRACKING sample with its deviation, and the wrap it makes (R10, R11, R12, R14). -/
def Wmt.updateLoop (w : Wmt) (e : Int) : Wmt × Wrap :=
  let high := w.selectGain e
  let v := w.v + integralStep high (angleError e)
  let advance := v + proportionalStep high (angleError e)
  let phi := (((w.phi : Int) + advance) % (cycleUnits : Int)).toNat
  (Wmt.updateLock
    { w with highGain := high, v := v, phi := phi
             position := w.position + BitVec.ofInt 32 (countChange (w.phi / 65536) (phi / 65536)) } e,
   wrapOf w.phi advance)

/-! ## Signal errors and recovery -/

/-- The onset of a signal error in TRACKING (R17). -/
def Wmt.toOutage (w : Wmt) : Wmt :=
  { w with signal := .outage, v := 0, positionValid := false, locked := false, lockTime := 0
           highGain := !w.slow, learning := none, stationary := false, stationaryTime := 0, cleanCount := 0 }

/-- The signed square of how far along (s, c) the table's direction k lies: sign × dot², with the squared length of the
table's pair (R18). -/
def along (s c : Int) (k : Nat) : Int × Int :=
  let d := s * sineEntry k + c * cosineEntry k
  (d * (d.natAbs : Int), sineEntry k * sineEntry k + cosineEntry k * cosineEntry k)

/-- Count k beats the best count so far in nearness of direction to (s, c); a tie is settled by the free value. -/
def nearer (s c : Int) (k best : Nat) : Bool :=
  let a := along s c k
  let b := along s c best
  if a.1 * b.2 = b.1 * a.2 then Config.angleTieTakesHigher k else b.1 * a.2 < a.1 * b.2

/-- The whole count whose table sine and cosine lie nearest in direction to the pair (R18). -/
def electricalAngle (s c : Int) : Nat :=
  (List.range 4096).foldl (fun best k => if nearer s c k best then k else best) 0

/-- The recovery at the end of a clean window (R18). In WATCH the gain level stays LOW (R20). The clean-window count is 0
from here on, before the next onset too (log entry 75). -/
def Wmt.recover (w : Wmt) (s c : Int) : Wmt :=
  { w with phi := electricalAngle s c * 65536, v := 0, highGain := !w.slow, locked := false, lockTime := 0
           signal := .tracking, positionValid := true, cleanCount := 0
           position := if w.signal == .starting then 0 else w.position }

/-! ## Stationary, lock watch -/

/-- The stationary test (R16). -/
def Wmt.updateStationary (w : Wmt) (circumference : Nat) : Wmt :=
  if w.positionValid && (w.speed circumference).natAbs < 2 then
    if ms 200 ≤ w.stationaryTime + w.period then { w with stationary := true, stationaryTime := ms 200 }
    else { w with stationaryTime := w.stationaryTime + w.period }
  else { w with stationary := false, stationaryTime := 0 }

/-- The lock watch (R13): the WMT, and whether the advisory is raised. -/
def Wmt.updateLockWatch (w : Wmt) (circumference : Nat) : Wmt × Bool :=
  if w.positionValid && 50 < (w.speed circumference).natAbs && !w.locked then
    let t := min (ms 200) (w.lockWatch + w.period)
    ({ w with lockWatch := t, lockReported := w.lockReported || t == ms 200 }, t == ms 200 && !w.lockReported)
  else ({ w with lockWatch := 0, lockReported := false }, false)

/-! ## Learning -/

/-- A cycle with no sample yet. -/
def LearnCycle.opened (forward : Bool) : LearnCycle :=
  { forward := forward, sineSum := 0, cosineSum := 0, count := 0, sineLow := 0, sineHigh := 0, cosineLow := 0
    cosineHigh := 0 }

/-- A sample taken into a cycle (R7). -/
def LearnCycle.take (l : LearnCycle) (s c : Int) : LearnCycle :=
  if l.count = 0 then
    { l with sineSum := s, cosineSum := c, count := 1, sineLow := s, sineHigh := s, cosineLow := c, cosineHigh := c }
  else
    { l with sineSum := l.sineSum + s, cosineSum := l.cosineSum + c, count := l.count + 1
             sineLow := min l.sineLow s, sineHigh := max l.sineHigh s
             cosineLow := min l.cosineLow c, cosineHigh := max l.cosineHigh c }

/-- An offset correction learnt from a sum (R8). -/
def learntOffset (sum : Int) (count : Nat) : Int := clamp (-200) 200 (Int.tdiv sum count)

/-- The gain correction learnt from the spreads (R8). -/
def learntGain (old : Int) (l : LearnCycle) : Int :=
  if l.cosineHigh - l.cosineLow = 0 then old
  else clamp 3277 4915 (Int.tdiv (4096 * (l.sineHigh - l.sineLow)) (l.cosineHigh - l.cosineLow))

/-- The corrections replaced at the completion of a cycle (R8). -/
def Wmt.learn (w : Wmt) (l : LearnCycle) : Wmt :=
  { w with sineOffset := learntOffset l.sineSum l.count, cosineOffset := learntOffset l.cosineSum l.count
           gain := learntGain w.gain l }

/-- Learning conditions (R7). -/
def Wmt.learns (w : Wmt) (circumference : Nat) : Bool :=
  !w.slow && w.signal == .tracking && w.locked && w.positionValid && 20 < (w.speed circumference).natAbs

/-- A cycle opened at a wrap. Whether the sample of that wrap is summed in it is left open by the spec. -/
def openedAt (forward : Bool) (s c : Int) : LearnCycle :=
  if Config.wrapSampleOpensCycle then (LearnCycle.opened forward).take s c else LearnCycle.opened forward

/-- A cycle that a wrap completes, with the sample of the wrap unless that one opens the next. -/
def completedAt (l : LearnCycle) (s c : Int) : LearnCycle :=
  if Config.wrapSampleOpensCycle then l else l.take s c

/-- The learning step of a sample (R7, R8) with the uncorrected values used, a rejection, and the wrap of φ. A rejection
leaves no cycle in progress, also at the sample of a wrap (log entry 12). -/
def Wmt.updateLearning (w : Wmt) (circumference : Nat) (s c : Int) (rejected : Bool) (wrap : Wrap) : Wmt :=
  if !w.learns circumference || rejected then { w with learning := none }
  else
    match w.learning, wrap with
    | none, .none => w
    | none, .forward => { w with learning := some (openedAt true s c) }
    | none, .backward => { w with learning := some (openedAt false s c) }
    | some l, .none => { w with learning := some (l.take s c) }
    | some l, .forward =>
      if l.forward then Wmt.learn { w with learning := some (openedAt true s c) } (completedAt l s c)
      else { w with learning := none }
    | some l, .backward =>
      if l.forward then { w with learning := none }
      else Wmt.learn { w with learning := some (openedAt false s c) } (completedAt l s c)

/-! ## One sample -/

/-- What the tests of a sample leave: the WMT with its channels and amplitude run, the values used, the corrected pair,
the reports of the onsets in their order, and what the clean window asks. -/
structure Conditioned where
  wmt : Wmt
  usedSine : Int
  usedCosine : Int
  s : Int
  c : Int
  a2 : Nat
  rejected : Bool
  reports : List Report
  noise : Bool
  amplitude : Bool
  clean : Bool
  deriving DecidableEq, Repr, Inhabited

/-- Noise test, stuck test, correction and amplitude test of a sample of raw codes (R2 to R6, R19). -/
def Wmt.condition (w : Wmt) (circumference : Nat) (rawS rawC : Int) : Conditioned :=
  let tested := !w.fresh && w.noiseTested circumference
  let ns := w.sine.noise tested rawS
  let nc := w.cosine.noise tested rawC
  let chS := (ns.channel.run w.fresh rawS nc.used).stuckTest
  let chC := (nc.channel.run w.fresh rawC ns.used).stuckTest
  let s := w.correctedSine ns.used
  let c := w.correctedCosine nc.used
  let a2 := amplitudeSquared s c
  let inside := amplitudeInside a2
  let run := if inside then 0 else min 5 (w.amplitudeRun + 1)
  let loss := run == 5 && w.amplitudeRun != 5
  { wmt := { w with sine := chS, cosine := chC, amplitudeRun := run, fresh := false }
    usedSine := ns.used, usedCosine := nc.used, s := s, c := c, a2 := a2
    rejected := ns.rejected || nc.rejected
    reports := (if ns.overrun then [signalReport .signal .sineChannel] else [])
      ++ (if nc.overrun then [signalReport .signal .cosineChannel] else [])
      ++ (if chS.stuck && !w.sine.stuck then [signalReport .signal .sineChannel] else [])
      ++ (if chC.stuck && !w.cosine.stuck then [signalReport .signal .cosineChannel] else [])
      ++ (if loss then [signalReport .range (amplitudeElement s c a2)] else [])
    noise := ns.overrun || nc.overrun
    amplitude := loss
    clean := inside && !ns.rejected && !nc.rejected && !chS.stuck && !chC.stuck }

/-- The rest of a sample of TRACKING without an onset: loop, position and speed, stationary, lock watch, learning. -/
def Wmt.track (q : Conditioned) (circumference : Nat) : Wmt × SampleEvents :=
  let w := q.wmt
  let u := w.updateLoop (deviation w.phi q.s q.c q.a2)
  let st := u.1.updateStationary circumference
  let lw := st.updateLockWatch circumference
  (lw.1.updateLearning circumference q.usedSine q.usedCosine q.rejected u.2,
   { reports := if lw.2 then [lockReport] else [], noise := false, amplitude := false, recovered := false
     gap := false, becameLocked := u.1.locked && !w.locked, lockNotAchieved := lw.2
     becameStationary := st.stationary && !w.stationary, lostStationary := w.stationary && !st.stationary })

/-- The events of a sample that only conditions: onsets and their reports. -/
def Conditioned.events (q : Conditioned) (lostStationary : Bool) : SampleEvents :=
  { reports := q.reports, noise := q.noise, amplitude := q.amplitude, recovered := false, gap := false
    becameLocked := false, lockNotAchieved := false, becameStationary := false, lostStationary := lostStationary }

/-- A sample in STARTING or OUTAGE (R18): the clean window, and the recovery at its end. The stationary time, the lock time
and the lock watch are 0 there and stay so; they start with the next sample (log entry 14). -/
def Wmt.await (q : Conditioned) : Wmt × SampleEvents :=
  let w := { q.wmt with lockWatch := 0, lockReported := false }
  if !q.clean then ({ w with cleanCount := 0 }, q.events false)
  else if (w.cleanCount + 1) * w.period < ms 10 then ({ w with cleanCount := w.cleanCount + 1 }, q.events false)
  else
    (w.recover q.s q.c,
     { q.events false with recovered := true, gap := w.signal == .outage })

/-- One sample of the WMT (R1). -/
def Wmt.sample (w : Wmt) (pol : Bool) (circumference : Nat) (sine cosine : Code) : Wmt × SampleEvents :=
  let q := w.condition circumference (rawSine pol sine) cosine.toInt
  match w.signal with
  | .tracking =>
    if q.reports.isEmpty then Wmt.track q circumference
    else ({ q.wmt.toOutage with lockWatch := 0, lockReported := false }, q.events w.stationary)
  | .starting => Wmt.await q
  | .outage => Wmt.await q

/-! ## Modes -/

/-- Sampling starts (R10, R21): the gain level is HIGH and the first sample is accepted untested. -/
def Wmt.start (w : Wmt) : Wmt := { w with sampling := true, slow := false, fresh := true }

/-- A change of the sample period in STARTING or OUTAGE returns the clean-window count to 0 (R18). -/
def Wmt.changePeriod (w : Wmt) (slow : Bool) : Wmt :=
  { w with slow := slow, cleanCount := if w.signal == .tracking then w.cleanCount else 0 }

/-- Entry to WATCH (R20). -/
def Wmt.enterWatch (w : Wmt) : Wmt :=
  { w.changePeriod true with v := w.v * 10, highGain := false, learning := none }

/-- Leaving WATCH for RUN or SAFE (R20). -/
def Wmt.leaveWatch (w : Wmt) : Wmt := { w.changePeriod false with v := Int.tdiv w.v 10, highGain := false }

/-- Entry to RESTART (R22). -/
def Wmt.reinitialise (_ : Wmt) : Wmt := .initial

end Sys2Proof.Machine
end

