-- ==== Sys2Proof/Machine/Modes.lean ====
section
/-! DEFINITION. The mode entries that a fault can bring about: the end of the configuration window, SAFE, RESTART, and the
answers to SAFE causes and counted restart causes (R188, R190, R191, R196, R201). -/

namespace Sys2Proof.Machine

/-! ## The Park-Apply line at a mode entry (R149, R163) -/

/-- The line judged from the requests in force. -/
def State.judgeLine (s : State) : State := { s with pad := s.pad.judge s.spring }

/-- The judgement makes an assertion that times out at once (R153). -/
def State.lineTimesOut (s : State) : Bool := s.pad.timesOut s.spring

/-- The line judged at a mode entry. An assertion that times out at once is recorded; the HPC, which has stopped, does
not act on it (R158). -/
def State.lineAtEntry (s : State) : State :=
  if s.lineTimesOut then s.judgeLine.storeReport confirmTimeoutReport else s.judgeLine

/-! ## The end of the configuration window (R71, R188) -/

/-- The creep thresholds reconciled (R188). -/
def Settings.reconciled (c : Settings) : Settings :=
  if c.breachThreshold < c.noticeThreshold + c.escalateInterval then
    { c with
      breachThreshold := min 125 (c.noticeThreshold + c.escalateInterval)
      escalateInterval := min c.escalateInterval (min 125 (c.noticeThreshold + c.escalateInterval) - c.noticeThreshold) }
  else c

/-- The highest node number in the table, which is its last. -/
def Pvt.highest (p : Pvt) : Nat := (p.entries.getLast?.map PeerEntry.node).getD 0

/-- The table holds more entries than N_exp − 1. -/
def State.exceedsExpected (s : State) : Bool := s.mdc.settings.nExp - 1 < s.pvt.entries.length

/-- The expected-count check at the end of CONFIG (R71). It is made in CONFIG, whose mode its report carries as the activity,
also where the window ends at an entry to RESTART or SAFE (log entry 72). -/
def State.expectedCheck (s : State) : State :=
  if s.exceedsExpected && !s.pvt.expectedReported then
    ({ s with pvt := { s.pvt with expectedReported := true } } : State).storeReport (expectedReport s.pvt.highest)
  else s

/-- The set frozen: from here on the configured report mask is in force (R188, R199). -/
def State.freeze (s : State) : State := { s with mdc := { s.mdc with frozen := true } }

/-- The set reconciled, with the first escalation point formed from it (R188). -/
def State.reconcile (s : State) : State :=
  { s with mdc := { s.mdc with settings := s.mdc.settings.reconciled }
           csu := { s.csu with nextPoint := s.mdc.settings.reconciled.firstPoint } }

/-- The end of the window (R188), in CONFIG alone. Whether the mask of the check's report is already the configured one is
left open by the spec (log entries 34 and 44). -/
def State.endWindow (s : State) : State :=
  if s.mdc.mode = .config then
    if s.free.checkFirst then s.reconcile.formMargin.expectedCheck.freeze
    else s.reconcile.formMargin.freeze.expectedCheck
  else s

/-! ## SAFE (R196) -/

/-- The phase at entry to SAFE was a hold phase (R127, R192, R196). -/
def State.holdAtSafe (s : State) : Bool :=
  match s.mdc.mode with
  | .run => s.hpc.phase.isHold
  | .watch => s.hpc.phase.isHold
  | .restart => s.hpc.resume.isSome
  | _ => false

/-- WMT, GLU, CPR and PAD start, as on entry to CONFIG (R185, R186). -/
def State.startBlocks (s : State) : State :=
  { s with wmt := s.wmt.start, glu := { s.glu with reading := true }, cpr := { s.cpr with reading := true }
           pad := { s.pad with reading := true } }

/-- WMT, GLU, CPR, PAD and the error counts on leaving WATCH (R20, R58, R148, R166, R176). -/
def State.leaveWatchBlocks (s : State) : State :=
  { s with wmt := s.wmt.leaveWatch, glu := ({ s.glu with reading := true } : Glu).chooseGrade s.pvt.entries
           cpr := { s.cpr with reading := true }, pad := { s.pad with reading := true }
           sgi := s.sgi.clearCounts }

/-- What the measuring blocks do at an entry to SAFE, by the mode left (R20 to R22, R57 to R59, R146 to R148, R166). From
WATCH the effective margin stays as it stood before WATCH (R97, log entry 77). From RESTART the WMT and the GLU start
whether or not the reference oscillator is stable (R22, R59, log entry 78). -/
def State.safeBlocks (s : State) (left : Mode) : State :=
  match left with
  | .init => if s.mdc.refStable then s.startBlocks else s
  | .watch => s.leaveWatchBlocks
  | .restart => { s with wmt := s.wmt.start, glu := { s.glu with reading := true } }
  | _ => s

/-- The MDC's own state and the requests at an entry to SAFE (R127, R165, R196). The HAL's lanes agree again (R96) and the
CPR enters pass-through. -/
def State.safeMode (s : State) (hold : Bool) : State :=
  { s with
    mdc := { s.mdc with mode := .safe, dwellTime := 0, dwellDone := false, safeStationary := false
                        pendingSafe := false, watchRequest := none }
    hal := { s.hal with lanes := .agreed }
    hpc := { s.hpc with withdrawalPending := false }
    cpr := s.cpr.enterPassThrough
    pad := { s.pad with hpcRequest := .lapsed, mdcRequest := hold } }

/-- Requests and blocks at an entry to SAFE from the mode left. -/
def State.startSafe (s : State) (hold : Bool) (left : Mode) : State := (s.safeMode hold).safeBlocks left

/-- The frames placed at an entry to SAFE (R171, R172, R180, R183). -/
def State.safeFrames (s : State) (left : Mode) : State :=
  let t := if left = .watch then s.placeRouse else s
  let u := t.placeDeclaration
  (u.placeAlert .safeEntered u.csu.nodeLevel (if u.csu.ownValid then u.csu.own else 0)).placeOwedReply

/-- Entry to SAFE; a node in SAFE stays there (R196; log entry 43). -/
def State.enterSafe (s : State) : State :=
  if s.mdc.mode = .safe then s
  else ((s.endWindow.startSafe s.holdAtSafe s.mdc.mode).lineAtEntry).safeFrames s.mdc.mode

/-- A SAFE cause handed to the MDC: kept in INIT, answered at once in any other mode (R185, R196). -/
def State.safeCause (s : State) : State :=
  if s.mdc.mode = .init then { s with mdc := { s.mdc with pendingSafe := true } } else s.enterSafe

/-- A SAFE cause handed to the MDC where there is one. -/
def State.answerCause (s : State) (cause : Bool) : State := if cause then s.safeCause else s

/-- A report of a block in a place where the lanes do not run, or that leaves hold-compromised as it was: stored, and the
SAFE cause of a second severe fault handed on (R201). -/
def State.reportBasic (s : State) (r : Report) : State := (s.storeReport r).answerCause (s.secondSevere r)

/-- A report that goes with an entry to SAFE. Which comes first, and so the activity of its code, the spec leaves open
(log entry 34). -/
def State.reportAndSafe (s : State) (r : Report) : State :=
  if s.free.reportFirst then (s.reportBasic r).enterSafe else s.enterSafe.reportBasic r

/-! ## RESTART (R190, R191) -/

/-- The phases stored as a hold; RELEASED and RELEASING are stored as no hold (R125). -/
def Phase.resumes : Phase → Bool
  | .released => false
  | .releasing => false
  | _ => true

/-- The resume record stored at an entry to RESTART (R125). -/
def State.resumeRecord (s : State) : Option Resume :=
  if (s.mdc.mode == .run || s.mdc.mode == .watch) && s.hpc.phase.resumes then
    some { phase := s.hpc.phase, level := s.csu.nodeLevel, pressure := max s.hpc.pHold s.cpr.target
           creep := s.csu.lastValidOwn }
  else none

/-- The GLU at an entry to RESTART, the table being empty (R59). -/
def Glu.restart (g : Glu) (c : Settings) : Glu :=
  let h := g.rest.chooseGrade []
  { h with mass := massOf h c [], reading := false }

/-- The blocks re-initialised at an entry to RESTART (R22, R23, R59, R71, R76, R96, R176, R177, R191). The CPR reads from
here on, whether or not the reference oscillator is stable (R147, log entry 78). -/
def State.restartBlocks (s : State) : State :=
  { s with
    wmt := s.wmt.reinitialise
    csu := .initial s.mdc.settings.firstPoint
    glu := s.glu.restart s.mdc.settings
    pvt := s.pvt.emptied
    vir := .initial
    hal := { s.hal with lanes := .agreed }
    cpr := { s.cpr.enterPassThrough with reading := true }
    sgi := s.sgi.stop.clearCounts }

/-- The MDC, HPC and PAD at an entry to RESTART with the record stored and the line state at the entry (R125, R164). The
PAD reads from here on, whether or not the reference oscillator is stable (R152, log entry 78). -/
def State.restartMode (s : State) (resume : Option Resume) (asserted : Bool) : State :=
  { s with
    mdc := { s.mdc with mode := .restart, reinitTime := 0, restartTimer := 0, watchRequest := none }
    hpc := { s.hpc with resume := resume, withdrawalPending := false }
    pad := { s.pad with hpcRequest := .lapsed, mdcRequest := resume.isSome || asserted, reading := true } }

/-- Requests and blocks at an entry to RESTART. -/
def State.startRestart (s : State) (resume : Option Resume) (asserted : Bool) : State :=
  ((s.restartMode resume asserted).restartBlocks).formMargin

/-- Entry to RESTART with the window at its end (R191). An assertion that times out at once can be a second severe fault,
which ends in SAFE. -/
def State.restartNow (s : State) : State :=
  let t := s.startRestart s.resumeRecord s.pad.asserted
  if t.lineTimesOut && t.frb.responseActive then t.lineAtEntry.enterSafe else t.lineAtEntry

/-- Entry to RESTART (R191). -/
def State.enterRestart (s : State) : State := s.endWindow.restartNow

/-- The restart counter one up (R190). -/
def State.countUp (s : State) : State :=
  { s with mdc := { s.mdc with restartCounter := s.mdc.restartCounter + 1 } }

/-- The re-initialisation begun anew within RESTART (R190). -/
def State.beginAgain (s : State) : State := { s with mdc := { s.mdc with reinitTime := 0 } }

/-- The answer to a counted restart cause (R190). -/
def State.countedCause (s : State) : State :=
  if s.mdc.mode = .init || s.mdc.mode = .safe then s
  else if s.mdc.restartCounter < s.mdc.settings.restartLimit then
    if s.mdc.mode = .restart then s.countUp.beginAgain else s.endWindow.countUp.restartNow
  else s.reportAndSafe restartLimitReport

end Sys2Proof.Machine
end

