-- ==== Sys2Proof/Machine/Hold.lean ====
section
/-! DEFINITION. What the HAL, the CSU and the HPC hand to one another in RUN: recomputations and deliveries, levels, the
entries of the hold phases and the answers to creep (chapters 2, 5 and 6). -/

namespace Sys2Proof.Machine

/-! ## Targets and deliveries (R89, R90, R109, R122) -/

/-- A target handed to the CPR; `anew` when R121 has it taken as a change whatever its value. -/
def State.handTarget (s : State) (v : Nat) (anew : Bool) : State :=
  { s with cpr := s.cpr.take s.mdc.settings.pMax v anew }

/-- The ratchet (R89): a greater pressure replaces P_hold and becomes the target. -/
def State.ratchet (s : State) (p : Nat) : State :=
  if s.hpc.pHold < p then ({ s with hpc := { s.hpc with pHold := p } } : State).handTarget p false else s

/-- The ramp goal at a delivery in RELEASING (R109). -/
def State.newGoal (s : State) (pRel : Option Nat) : State :=
  match s.hpc.release, pRel with
  | some r, some p => { s with hpc := { s.hpc with release := some { r with goal := min s.cpr.target p } } }
  | _, _ => s

/-- The retained target raised by a delivery in SECURED (R122). -/
def State.raiseRetained (s : State) (p : Nat) : State :=
  match s.hpc.retained with
  | some t =>
    if t < p then ({ s with hpc := { s.hpc with retained := some p } } : State).handTarget p false else s
  | none => s

/-- A delivery kept by the HPC. A cleared insufficiency flag returns the insufficiency time to 0 (R114). -/
def State.keepDelivery (s : State) (r : HalResult) : State :=
  { s with
    hal := { s.hal with result := r }
    hpc := { s.hpc with last := deliveryOf r
                        insufficiencyTime := if r.insufficient then s.hpc.insufficiencyTime else 0 } }

/-- A delivery acted on in the phase (R89, R90, R109, R122). -/
def State.deliver (s : State) (r : HalResult) : State :=
  let t := s.keepDelivery r
  match s.hpc.phase with
  | .capturing => t.ratchet r.pCalc
  | .holding => t.ratchet r.pCalc
  | .releasing => t.newGoal (deliveryOf r).release
  | .secured => t.raiseRetained r.pCalc
  | .released => t
  | .securing => t

/-! ## Recomputation (R78, R94 to R96) -/

/-- A lane mismatch (R95): the result is withheld, the report made, and the restart cause answered (log entry
32). -/
def State.laneMismatch (s : State) : State :=
  (({ s with hal := { s.hal with lanes := .mismatched } } : State).reportBasic laneReport).countedCause

/-- The lane fault that the free value holds for a later recomputation of the command. -/
def State.setLaneFault (s : State) (f : Option LaneFault) : State := { s with free := { s.free with laneFault := f } }

/-- A recomputation (R78): made in RUN while the lanes agree (log entry 31). -/
def State.halRecompute (s : State) : State :=
  if s.mdc.mode = .run ∧ s.hal.lanes = .agreed then
    match s.free.laneFault with
    | none => s.deliver s.laneResult
    | some f =>
      if f.after = 0 then
        if f.result = s.laneResult then (s.setLaneFault none).deliver s.laneResult
        else (s.setLaneFault none).laneMismatch
      else (s.setLaneFault (some { f with after := f.after - 1 })).deliver s.laneResult
  else s

/-! ## Reports (R199 to R202) -/

/-- A change of hold-compromised handed to the HAL (R202). -/
def State.handCompromise (s : State) (before : Bool) : State :=
  if s.frb.banks.holdCompromised = before then s else s.halRecompute

/-- A report arriving at the FRB: stored, its conditions handed on, and a SAFE cause answered (log entry 33). -/
def State.report (s : State) (r : Report) : State :=
  ((s.storeReport r).handCompromise s.frb.banks.holdCompromised).answerCause (s.secondSevere r)

/-- Reports made one after the other. -/
def State.reportAll (s : State) : List Report → State
  | [] => s
  | r :: l => (s.report r).reportAll l

/-! ## Grade and mass handed on (R49 to R51, R56) -/

/-- The vehicle grade recomputed; the HAL recomputes when its value or status changes. Not made while the GLU is stopped. -/
def State.gradeRecompute (s : State) : State :=
  if s.glu.reading then
    let g := s.glu.chooseGrade s.pvt.entries
    let t := { s with glu := g }
    if g.vehicleGrade = s.glu.vehicleGrade ∧ g.gradeStatus = s.glu.gradeStatus then t else t.halRecompute
  else s

/-- The vehicle mass recomputed; the HAL recomputes when it changes. Not made while the GLU is stopped. -/
def State.massRecompute (s : State) : State :=
  if s.glu.reading then
    let m := massOf s.glu s.mdc.settings s.pvt.entries
    let t := { s with glu := { s.glu with mass := m } }
    if m = s.glu.mass then t else t.halRecompute
  else s

/-! ## Levels (R36, R37) -/

/-- Own and node level set: a change of node level is handed to the HAL and declared at once. -/
def State.setLevels (s : State) (own node : Nat) : State :=
  let t := { s with csu := { s.csu with ownLevel := own, nodeLevel := node } }
  if node = s.csu.nodeLevel then t else t.halRecompute.placeDeclaration

/-- The node level merged with an own level (R37). -/
def State.mergedLevel (s : State) (own : Nat) : Nat := max (max s.csu.nodeLevel own) (peerLevel s.pvt.entries)

/-- Own level raised by a number of levels, to at most 4; node level follows at a change of own level (R36, R37). -/
def State.raiseOwn (s : State) (n : Nat) : State :=
  let own := min 4 (s.csu.ownLevel + n)
  if own = s.csu.ownLevel then s else s.setLevels own (s.mergedLevel own)

/-- A step request of the HPC (R36). -/
def State.stepRequest (s : State) : State := s.raiseOwn 1

/-- The node level merged anew at a Declaration; made in RUN in a hold phase (log entry 22). -/
def State.mergeLevel (s : State) : State :=
  if s.inHold then s.setLevels s.csu.ownLevel (s.mergedLevel s.csu.ownLevel) else s

/-! ## Entries of the hold phases -/

/-- Phase, P_hold and target at an entry into HOLDING: P_hold as that entry gives it, raised to the last delivered P_calc
(R90). -/
def State.startHolding (s : State) (base : Nat) (anew : Bool) : State :=
  ({ s with hpc := { s.hpc with phase := .holding, pHold := max base s.hpc.last.pCalc, release := none
                                handover := none } } : State).handTarget (max base s.hpc.last.pCalc) anew

/-- Entry into HOLDING, declared at once (R90, R171). -/
def State.enterHolding (s : State) (base : Nat) (anew : Bool) : State := (s.startHolding base anew).placeDeclaration

/-- A handover that ends in failure (R117); outside the CONFIRM stage a timeout is not acted on. -/
def State.handoverFails (s : State) : State :=
  match s.hpc.handover with
  | some h =>
    if s.inPhase .securing && h.stage == .confirm then
      ({ s with hpc := { s.hpc with handoverFailed := true, holdTime := 0 } } : State).enterHolding h.preHold false
    else s
  | none => s

/-- A confirm watch that has timed out: the report, then the timeout handed to the HPC (R158). -/
def State.confirmTimedOut (s : State) : State := (s.report confirmTimeoutReport).handoverFails

/-- The line judged, with the report and the handing of an assertion that times out at once (R149, R153). -/
def State.line (s : State) : State := if s.lineTimesOut then s.judgeLine.confirmTimedOut else s.judgeLine

/-- The HPC's request handed to the PAD. -/
def State.handRequest (s : State) (assert : Bool) : State :=
  { s with hpc := { s.hpc with request := assert }
           pad := { s.pad with hpcRequest := if assert then .assert else .withdraw } }

/-- The handover record of an entry into SECURING (R115). -/
def State.newHandover (s : State) : HandoverRecord :=
  { preHold := s.hpc.pHold, stage := if s.spring then .confirm else .wait, stageTime := 0, noSpringReported := false }

/-- The HPC and the CSU at an entry into SECURING, with the request handed and Notice re-armed (R31, R115). -/
def State.startSecuring (s : State) : State :=
  ({ s with
    hpc := { s.hpc with phase := .securing, handover := some s.newHandover, release := none, withdrawalPending := false
                        holdTime := 0, insufficiencyTime := 0, releaseArmed := true }
    csu := s.csu.rearm } : State).handRequest true

/-- Entry into SECURING (R115): the line judged, the Declaration, and an assertion that times out at once (R153). -/
def State.enterSecuring (s : State) : State :=
  let t := s.startSecuring
  if t.lineTimesOut then t.judgeLine.placeDeclaration.confirmTimedOut else t.judgeLine.placeDeclaration

/-- Phase and target at an entry into SECURED, with Notice re-armed (R31, R122). -/
def State.startSecured (s : State) : State :=
  ({ s with
      hpc := { s.hpc with phase := .secured, handover := none, release := none }
      csu := s.csu.rearm } : State).handTarget (s.hpc.retained.getD s.mdc.settings.pPush) false

/-- Entry into SECURED (R122). -/
def State.enterSecured (s : State) : State := s.startSecured.placeDeclaration

/-- The pre-handover P_hold; in SECURED it is P_hold itself (R122). -/
def State.preHandover (s : State) : Nat := s.hpc.handover.elim s.hpc.pHold HandoverRecord.preHold

/-- Service retained set, and SECURED entered from SECURING (R118, R122). -/
def State.retainService (s : State) (p : Nat) : State :=
  if s.mdc.mode = .run then
    let t := { s with hpc := { s.hpc with retained := some p } }
    if s.hpc.phase = .securing then t.enterSecured else t
  else s

/-- The spring brake found insufficient (R118, R122; log entry 36). -/
def State.springInsufficient (s : State) : State :=
  (((s.handTarget s.preHandover false).stepRequest).report springInsufficientReport).retainService s.preHandover

/-- A release abort (R111). -/
def State.abortRelease (s : State) : State :=
  match s.hpc.release with
  | some r => ({ s with hpc := { s.hpc with releaseArmed := false } } : State).enterHolding r.preHold false
  | none => s

/-- The stages that a Notice crossing or a breach ends (R118). -/
def State.guarded (s : State) : Bool :=
  match s.hpc.handover with
  | some h => h.stage == .settle || h.stage == .ramp
  | none => false

/-! ## What the CSU hands the HPC -/

/-- A Notice crossing (R111, R118, R122). -/
def State.hpcNotice (s : State) : State :=
  if s.mdc.mode = .run then
    match s.hpc.phase with
    | .releasing => if s.demandUphill then s.abortRelease.stepRequest else s
    | .securing => if s.guarded then s.springInsufficient else s
    | .secured => if s.hpc.retained.isNone then s.springInsufficient else s
    | .released => s
    | .capturing => s
    | .holding => s
  else s

/-- A breach or a blind onset in CAPTURING or HOLDING (R113). -/
def State.trigger (s : State) : State := if s.hpc.handoverFailed then s else s.enterSecuring

/-- A breach or a blind onset in RELEASING: P_hold restored and raised, then SECURING (R112). -/
def State.secureRelease (s : State) : State :=
  match s.hpc.release with
  | some r =>
    let p := max r.preHold s.hpc.last.pCalc
    (({ s with hpc := { s.hpc with pHold := p } } : State).handTarget p false).enterSecuring
  | none => s.enterSecuring

/-- A breach handed to the HPC (R112, R113, R118, R122). -/
def State.hpcBreach (s : State) : State :=
  if s.mdc.mode = .run then
    match s.hpc.phase with
    | .capturing => s.trigger
    | .holding => s.trigger
    | .releasing => s.secureRelease
    | .securing => if s.guarded then s.springInsufficient else s
    | .secured => if s.hpc.retained.isNone then s.springInsufficient else s
    | .released => s
  else s

/-- A blind onset handed to the HPC (R112, R113). -/
def State.hpcBlind (s : State) : State :=
  if s.mdc.mode = .run then
    match s.hpc.phase with
    | .capturing => s.trigger
    | .holding => s.trigger
    | .releasing => s.secureRelease
    | .securing => s
    | .secured => s
    | .released => s
  else s

/-! ## Crossings and blind creep (R29 to R34) -/

/-- The Notice test (R30). -/
def State.noticeTest (s : State) : State :=
  if s.inHold && s.csu.noticeReached s.mdc.settings then
    ({ s with csu := { s.csu with notice := true } } : State).hpcNotice
  else s

/-- The next escalation point moved on past effective creep (R32). -/
def State.movePoint (s : State) (n : Nat) : State :=
  { s with csu := { s.csu with nextPoint := s.csu.nextPoint + (n : Int) * (s.mdc.settings.escalateInterval : Int) } }

/-- The escalation test (R32). -/
def State.escalationTest (s : State) : State :=
  let n := s.csu.pointsReached s.mdc.settings
  if s.inHold && 0 < n then (s.movePoint n).raiseOwn n else s

/-- A breach (R33). The levels are raised, and the HAL's result at them delivered, before the HPC is handed the breach
(log entry 64). -/
def State.breach (s : State) : State :=
  (((({ s with csu := { s.csu with breach := true } } : State).setLevels 4 4).hpcBreach)).placeAlert .breach 4
    s.csu.alertCreep

/-- The breach test by distance (R33). -/
def State.breachTest (s : State) : State :=
  if s.inHold && s.csu.breachReached s.mdc.settings then s.breach else s

/-- The three tests of a recomputation of effective creep (R30, R32, R33; log entry 20). -/
def State.crossingTests (s : State) : State := s.noticeTest.escalationTest.breachTest

/-- The onset of blind creep (R29). The levels are set, and the HAL's result at them delivered, before the handing to the
HPC (log entry 64). The order of the report and that handing is left open by the spec (log entry 23). -/
def State.blindOnset (s : State) : State :=
  let t := ({ s with csu := { s.csu with blind := true } } : State).setLevels 4 4
  if s.free.blindReportFirst then (t.report blindReport).hpcBlind else t.hpcBlind.report blindReport

/-- An anchor has been set, pending ones included (log entry 19). -/
def Csu.anchored (u : Csu) : Bool := u.anchor != .absent

/-- Effective creep recomputed, with the tests or the onset that follow (R28 to R33). `entry` says that the recomputation
is the one of an entry into CAPTURING, at which a blind effective creep is an onset by itself (R29). -/
def State.creepRecompute (s : State) (entry : Bool) : State :=
  let u := s.csu.recompute s.pvt.entries
  let t := { s with csu := u }
  if u.effective.isSome then (if u.anchored then t.crossingTests else t)
  else if (s.csu.effective.isSome || entry) && t.inHold && u.anchored then t.blindOnset
  else t

/-! ## Capture, release and return -/

/-- The CSU's and the HPC's state at an entry into CAPTURING (R24, R104). -/
def State.captureStart (s : State) : State :=
  let p := min s.mdc.settings.pMax s.cpr.measured
  { s with
    cpr := s.cpr.enterRegulating
    hpc := { s.hpc with phase := .capturing, pCap := some p, pHold := p, settleTime := 0, holdTime := 0
                        insufficiencyTime := 0, releaseArmed := true, handoverFailed := false, retained := none
                        release := none, handover := none }
    csu := s.csu.beginEpisode s.mdc.settings s.wmt (captureLevel s.pvt.entries) }

/-- Entry into CAPTURING (R104): CPR, CSU, HAL, SGI in this order, then the effective creep of the new episode (log
entry 35). -/
def State.enterCapturing (s : State) : State :=
  let t := s.captureStart
  (((t.handTarget t.hpc.pHold false).halRecompute).placeDeclaration).creepRecompute true

/-- The release record of an entry into RELEASING (R108). -/
def State.newRelease (s : State) : ReleaseRecord :=
  { preHold := s.hpc.pHold, origin := if s.wmt.positionValid then some s.wmt.position else none
    travel := 0, time := 0, rampTime := 0, goal := min s.cpr.target (s.hpc.last.release.getD s.cpr.target) }

/-- The HPC at an entry into RELEASING, with the request handed (R108). -/
def State.startReleasing (s : State) : State :=
  ({ s with hpc := { s.hpc with phase := .releasing, release := some s.newRelease, insufficiencyTime := 0
                                withdrawalPending := false } } : State).handRequest false

/-- Entry into RELEASING (R108). -/
def State.enterReleasing (s : State) : State := s.startReleasing.line.placeDeclaration

/-- The CPR, HPC and CSU at an entry into RELEASED (R41, R112; log entries 21 and 39). -/
def State.releasedStart (s : State) : State :=
  { s with
    cpr := s.cpr.enterPassThrough
    hpc := { s.hpc with phase := .released, pCap := none, release := none, handover := none, holdTime := 0
                        insufficiencyTime := 0, qualifyingTime := 0 }
    csu := (s.csu.endEpisode).recompute s.pvt.entries }

/-- Entry into RELEASED (R112). -/
def State.enterReleased (s : State) : State := s.releasedStart.halRecompute.placeDeclaration

/-- The return from SECURED (R123). -/
def State.returnFromSecured (s : State) : State :=
  ({ s with hpc := { s.hpc with retained := none, holdTime := 0, withdrawalPending := true } } : State).enterHolding
    s.hpc.pHold true

/-- A handover abort (R120). -/
def State.abortHandover (s : State) : State :=
  match s.hpc.handover with
  | some h =>
    ({ s with hpc := { s.hpc with holdTime := 0, withdrawalPending := true } } : State).enterHolding h.preHold true
  | none => s

/-- A settled report (R105, R121). -/
def State.settled (s : State) : State :=
  if s.inPhase .capturing then s.enterHolding s.hpc.pHold false
  else if s.inPhase .holding && s.hpc.withdrawalPending then
    (({ s with hpc := { s.hpc with withdrawalPending := false } } : State).handRequest false).line
  else s

/-- An apply timeout (R121): a pending withdrawal ends without a withdrawal. -/
def State.applyTimedOut (s : State) : State := { s with hpc := { s.hpc with withdrawalPending := false } }

/-- A confirm (R116): SETTLE begins, with Notice re-armed. -/
def State.confirmed (s : State) : State :=
  match s.hpc.handover with
  | some h =>
    if s.inPhase .securing && h.stage == .confirm then
      { s with hpc := { s.hpc with handover := some { h with stage := .settle, stageTime := 0 } }, csu := s.csu.rearm }
    else s
  | none => s

/-- Capture behind a peer is open: stationary, no drive demand (R103). -/
def State.followsNow (s : State) : Bool := s.inPhase .released && s.vehicleStationary && s.demand.isNone

/-- A peer's Alert handed to the HPC (R103, R111). -/
def State.hpcAlert (s : State) : State :=
  if s.inPhase .releasing then s.abortRelease else if s.followsNow then s.enterCapturing else s

/-- A peer's Alert handed to the CSU (R38). -/
def State.csuAlert (s : State) (cause : AlertCause) : State :=
  if s.inHold && (cause == .breach || cause == .insufficient) then s.setLevels s.csu.ownLevel 4 else s

/-! ## Own creep and speed at a sample (R25 to R27, R34) -/

/-- The speed stands at or above the breach velocity (R34). -/
def State.fast (s : State) : Bool :=
  s.wmt.positionValid
    && (s.mdc.settings.breachVelocity : Int) ≤ s.glu.downhill (s.wmt.speed s.mdc.settings.circumference)

/-- The breach velocity time is held at 0 (R34). -/
def State.exempt (s : State) : Bool := s.hpc.phase == .releasing && s.demandDownhill

/-- The breach velocity time set. -/
def State.setBreachTime (s : State) (t : Nat) : State := { s with csu := { s.csu with breachTime := t } }

/-- The breach test by speed (R34). Each sample at or above the breach velocity, the first one too, adds a whole sample
period (log entry 55). Where the comparison is not made the time stays as it stands (log entry 71). -/
def State.velocityTest (s : State) : State :=
  if s.inHold && s.csu.anchored && !s.csu.breach then
    if s.fast && !s.exempt then
      if ms 100 ≤ s.csu.breachTime + s.wmt.period then (s.setBreachTime (ms 100)).breach
      else s.setBreachTime (s.csu.breachTime + s.wmt.period)
    else s.setBreachTime 0
  else s

/-- The creep-gap advisory at the first setting of the flag in an episode (R27). -/
def State.gapReport (s : State) (before : Bool) : State :=
  if s.csu.creepGap && !before then s.report creepGapReport else s

/-- The CSU at one sample: own creep, effective creep with its tests, and then the breach velocity. That the velocity test
comes last is the model's choice (log entry 20), and so is the creep-gap report ahead of effective creep (log entry
70). -/
def State.csuSample (s : State) (gap : Bool) : State :=
  let u := s.csu.sampleCreep s.wmt s.glu s.mdc.settings gap
  let t := ({ s with csu := u } : State).gapReport s.csu.creepGap
  (if u.ownValid || s.csu.ownValid then t.creepRecompute false else t).velocityTest

/-- The release completes (R110). -/
def State.releaseComplete (s : State) : Bool :=
  match s.hpc.release with
  | some r =>
    s.cpr.target ≤ s.mdc.settings.pPush && ((r.origin.isSome && 50 ≤ r.travel) || s.cpr.target == 0)
  | none => false

/-- The travel of a release re-formed (R110): positive in the direction of the gear. -/
def State.travelOf (s : State) (origin : Count) (old : Int) : Int :=
  match s.demand with
  | some (.reverse, _) => -(millimetres origin s.wmt.position s.mdc.settings.circumference)
  | some _ => millimetres origin s.wmt.position s.mdc.settings.circumference
  | none => old

/-- The release record at a sample (R110): a cleared position-valid makes the travel unknown. -/
def State.travelRecord (s : State) (r : ReleaseRecord) : ReleaseRecord :=
  match r.origin with
  | none => r
  | some o => if s.wmt.positionValid then { r with travel := s.travelOf o r.travel } else { r with origin := none }

/-- The HPC at one sample: travel and completion in RELEASING (R110). -/
def State.hpcSample (s : State) : State :=
  match s.hpc.release with
  | some r =>
    if s.inPhase .releasing then
      let t := { s with hpc := { s.hpc with release := some (s.travelRecord r) } }
      if t.releaseComplete then t.enterReleased else t
    else s
  | none => s

/-- The GLU when the stationary indication is cleared (R44, R46). -/
def State.gluMoved (s : State) : State :=
  if s.glu.reading then
    let t := { s with glu := s.glu.lostStationary }
    if s.glu.gradeValid then t.gradeRecompute else t
  else s

end Sys2Proof.Machine
end

