-- ==== Sys2Proof/Machine/React.lean ====
section
/-! DEFINITION. The entries to CONFIG, RUN and WATCH, and the conditions that the HPC and the MDC act on the moment they
hold, judged at the end of each command (chapters 6 and 10). -/

namespace Sys2Proof.Machine

/-! ## CONFIG and RUN -/

/-- The requests of HPC and MDC replaced at one mode change (R163). -/
def State.setRequests (s : State) (request : Bool) : State :=
  ({ s with pad := { s.pad with mdcRequest := false } } : State).handRequest request

/-- Requests of the PAD replaced at one mode change, and the line judged once (R163). -/
def State.runRequests (s : State) (request : Bool) : State := (s.setRequests request).line

/-- Mode, window time and measuring blocks at an entry to CONFIG (R186). -/
def State.startConfig (s : State) : State :=
  ({ s with mdc := { s.mdc with mode := .config, windowTime := 0 } } : State).startBlocks

/-- Entry to CONFIG (R163, R186). -/
def State.enterConfig (s : State) : State := s.startConfig.runRequests false

/-- The MDC's and the HPC's times at an entry to RUN (R101, R189). -/
def State.startRun (s : State) : State :=
  { s with mdc := { s.mdc with mode := .run, reliefTime := 0 }, hpc := { s.hpc with driverAbsentTime := 0 } }

/-- What an entry to RUN sets off besides: a recomputation and a Declaration, which the spec does not order (R78, R171). -/
def State.runEntered (s : State) : State := handAll [State.halRecompute, State.placeDeclaration] s

/-- RUN begun at the end of the window, in RELEASED (R99, R188). -/
def State.startFirstRun (s : State) : State :=
  let t := s.startRun
  { t with hpc := { t.hpc with phase := .released }, cpr := t.cpr.enterPassThrough }

/-- Entry to RUN at the end of the window (R99, R188). -/
def State.enterRun (s : State) : State := (s.endWindow.startFirstRun.runRequests false).runEntered

/-! ## RUN from RESTART (R42, R126, R192) -/

/-- The HPC as every resume leaves it, before phase and pressures (R126; log entry 46). -/
def Hpc.afresh (h : Hpc) : Hpc :=
  { h with pCap := none, pHold := 0, qualifyingTime := 0, settleTime := 0, holdTime := 0, insufficiencyTime := 0
           driverAbsentTime := 0, release := none, releaseArmed := true, handover := none, handoverFailed := false
           retained := none, request := false, withdrawalPending := false, resume := none, phase := .released }

/-- A resume into SECURED: of SECURING or SECURED (R126). -/
def Phase.resumesSecured : Phase → Bool
  | .securing => true
  | .secured => true
  | _ => false

/-- The HPC resumed with a hold (R126, R90). -/
def Hpc.resumeHold (h : Hpc) (r : Resume) : Hpc :=
  if r.phase.resumesSecured then
    { h.afresh with phase := .secured, pCap := some r.pressure, pHold := r.pressure, retained := some r.pressure
                    request := true }
  else
    { h.afresh with phase := .holding, pCap := some r.pressure, pHold := max r.pressure h.last.pCalc
                    request := true, withdrawalPending := true }

/-- The blocks that start again at RUN from RESTART (R22, R59). -/
def State.restarted (s : State) : State :=
  { s with wmt := s.wmt.start, glu := { s.glu with reading := true } }.startRun

/-- HPC, CSU and CPR at a resume with a hold (R42, R121, R126, R130). -/
def State.startResumed (s : State) (r : Resume) : State :=
  ({ s with hpc := s.hpc.resumeHold r, csu := s.csu.resume s.mdc.settings r r.phase.resumesSecured
            cpr := s.cpr.enterRegulating } : State).handTarget (s.hpc.resumeHold r).pHold true

/-- A resume with a hold: its blocks, the creep gap of R42, and the requests (R163). -/
def State.resumeWith (s : State) (r : Resume) : State := ((s.startResumed r).gapReport false).runRequests true

/-- HPC and CPR at a resume of no hold (R126). -/
def State.startAfresh (s : State) : State := { s with hpc := s.hpc.afresh, cpr := s.cpr.enterPassThrough }

/-- A resume of no hold, with the requests (R126, R163). -/
def State.resumeWithout (s : State) : State := s.startAfresh.runRequests false

/-- The end of re-initialisation (R192): RUN, with the resume record taken and the owed reply placed (log
entry 43). -/
def State.resumeRun (s : State) : State :=
  let t := s.restarted
  (match s.hpc.resume with
    | some r => t.resumeWith r
    | none => t.resumeWithout).placeOwedReply.runEntered

/-! ## WATCH (R124, R193 to R195) -/

/-- Entry to WATCH (R194). -/
def State.enterWatch (s : State) : State :=
  { s with
    mdc := { s.mdc with mode := .watch, watchRequest := none }
    wmt := s.wmt.enterWatch
    glu := { s.glu.rest with reading := false }
    cpr := s.cpr.enterWatch
    pad := (({ s.pad with mdcRequest := false } : Pad).judge s.spring).enterWatch
    hpc := { s.hpc with withdrawalPending := false }
    sgi := s.sgi.stop }

/-- A blind effective creep found at the return from WATCH is an onset (R29). -/
def State.blindAtReturn (s : State) : State :=
  if s.inHold && s.csu.anchored && s.csu.effective.isNone then s.blindOnset else s

/-- The Alert of cause parked creep (R172, R195). -/
def State.parkedAlert (s : State) : State :=
  if s.mdc.mode = .run then s.placeAlert .parkedCreep 4 s.csu.alertCreep else s

/-- The blocks started at a return from WATCH (R148, R195): SECURED, with P_max retained for parked creep. The rouse count
and window are left as they stand (log entry 68). -/
def State.startWoken (s : State) (parked : Bool) : State :=
  let t := s.leaveWatchBlocks.startRun
  { t with
    mdc := { t.mdc with wakeHold := 0, woken := true }
    hpc := { t.hpc with retained := if parked then some t.mdc.settings.pMax else t.hpc.retained }
    cpr := t.cpr.enterRegulating
    pad := { t.pad with mdcRequest := false } }

/-- The blocks and the target of SECURED at a return from WATCH (R124). -/
def State.wakeTarget (s : State) (parked : Bool) : State :=
  let u := s.startWoken parked
  u.handTarget (u.hpc.retained.getD u.mdc.settings.pPush) false

/-- The blocks at a return from WATCH (R124, R148, R195): SECURED, its target set again, the line judged, and the margin
formed (R97). -/
def State.wakeBlocks (s : State) (parked : Bool) : State := (s.wakeTarget parked).line.formMargin

/-- The return to RUN for a wake cause (R180, R195). -/
def State.wake (s : State) (parked : Bool) : State :=
  let t := (s.wakeBlocks parked).placeRouse.runEntered
  (if parked then t.parkedAlert else t).blindAtReturn

/-- Parked creep (R39): Notice latched, both levels 4, and the wake cause. -/
def State.parkedCreep (s : State) : State :=
  ({ s with csu := { s.csu with notice := true, ownLevel := 4, nodeLevel := 4 } } : State).wake true

/-- A WATCH request is refused (R193): before the first return from WATCH the wake hold refuses nothing. -/
def State.watchRefused (s : State) : Bool :=
  !s.wmt.positionValid || s.csu.notice || (s.mdc.woken && decide (s.mdc.wakeHold < sec 1))

/-- A request stands or is made: SECURED, service retained clear, ignition off (R124, R193; log entry 38). -/
def State.requestsWatch (s : State) : Bool := s.inPhase .secured && s.hpc.retained.isNone && !s.ignition

/-- The request answered (R193): granted, or refused with the advisory at its first refusal. -/
def State.answerWatch (s : State) : State :=
  if s.watchRefused then
    match s.mdc.watchRequest with
    | some true => s
    | _ => ({ s with mdc := { s.mdc with watchRequest := some true } } : State).report watchRefusedReport
  else s.enterWatch

/-! ## Conditions of the phases -/

/-- The own capture conditions (R102). -/
def State.captureConditions (s : State) : Bool :=
  s.inPhase .released && s.vehicleStationary && 60 ≤ s.cpr.measured && s.demand.isNone
    && ((!s.glu.flat && s.switchAuto) || s.driverAbsent)

/-- A trigger that stands as a condition: ignition off, or the driver absent for 10 s (R113). -/
def State.standingTrigger (s : State) : Bool :=
  !s.hpc.handoverFailed && (!s.ignition || (s.driverAbsent && sec 10 ≤ s.hpc.driverAbsentTime))

/-- The release conditions of R107, but for the phase. -/
def State.releaseConditions (s : State) : Bool :=
  (match s.demand with
    | some (g, force) => !s.glu.uphill g || s.hpc.last.fGrav ≤ 10 * force
    | none => false)
    && s.hpc.last.release.isSome && !s.csu.notice && s.csu.nodeLevel ≤ 2 && !s.rearControl
    && s.frb.banks.releasePermitted
    && s.pvt.entries.all (fun e => !e.isFresh || e.decl.releasePermitted)
    && !s.anyLastAlert && s.hpc.releaseArmed && !s.hpc.withdrawalPending

/-- A release is aborted for want of drive demand (R93, R111). -/
def State.releaseUnavailable (s : State) : Bool := s.demand.isNone || s.hpc.last.release.isNone

/-- Release armed set again in HOLDING without drive demand (R107). -/
def State.rearmRelease (s : State) : State :=
  if s.demand.isNone then { s with hpc := { s.hpc with releaseArmed := true } } else s

/-- The stage RAMP begun at the end of WAIT, with Notice re-armed (R119). A P_hold at or below P_push needs no ramp. -/
def State.endWait (s : State) (h : HandoverRecord) : State :=
  let t := { s with hpc := { s.hpc with handover := some { h with stage := .ramp, stageTime := 0 } }, csu := s.csu.rearm }
  if h.preHold ≤ s.mdc.settings.pPush then t.enterSecured else t

/-- Fresh spring-fitted peers. -/
def State.springPeers (s : State) : List PeerEntry :=
  s.pvt.entries.filter (fun e => e.isFresh && e.decl.springFitted)

/-- WAIT judged (R119). -/
def State.judgeWait (s : State) (h : HandoverRecord) : State :=
  if s.springPeers.isEmpty then
    if h.noSpringReported then s
    else ({ s with hpc := { s.hpc with handover := some { h with noSpringReported := true } } } : State).report
      noSpringReport
  else if s.springPeers.all (fun e => e.decl.phase == .phase .secured) then s.endWait h
  else s

/-- SECURING: the abort at a drive-away that has come about since the state `before`, else WAIT (R119, R120; log
entry 37). -/
def State.reactSecuring (before s : State) : State :=
  if s.driveAway && !before.driveAway then s.abortHandover
  else
    match s.hpc.handover with
    | some h => if h.stage = .wait then s.judgeWait h else s
    | none => s

/-- HOLDING: standing triggers and the release; which of two that reach it together is taken first the spec leaves open
(R107, R113; log entry 40). -/
def State.reactHolding (s : State) : State :=
  let t := s.rearmRelease
  if t.standingTrigger && (t.free.triggerFirst || !t.releaseConditions) then t.enterSecuring
  else if t.releaseConditions then t.enterReleasing
  else t

/-- RELEASING: completion and abort; which of two that reach it together is taken first the spec leaves open (R110; log
entry 40). -/
def State.reactReleasing (s : State) : State :=
  if s.releaseComplete && (s.free.completionFirst || !s.releaseUnavailable) then s.enterReleased
  else if s.releaseUnavailable then s.abortRelease
  else s

/-- One round of the HPC's and the MDC's standing conditions in RUN. -/
def State.reactRun (before s : State) : State :=
  match s.hpc.phase with
  | .released => if s.followsNow && (s.anyFreshHold || s.anyLastAlert) then s.enterCapturing else s
  | .capturing => if s.standingTrigger then s.enterSecuring else s
  | .holding => s.reactHolding
  | .releasing => s.reactReleasing
  | .securing => State.reactSecuring before s
  | .secured =>
    if s.driveAway then s.returnFromSecured
    else if s.requestsWatch then s.answerWatch
    else s

/-- The MDC's request at the first stationary moment of SAFE (R165, R196). -/
def State.seenStationary (s : State) : State :=
  { s with mdc := { s.mdc with safeStationary := true }, pad := { s.pad with mdcRequest := true } }

/-- SAFE: the first moment at which the vehicle is seen stationary (R165, R196). -/
def State.reactSafe (s : State) : State :=
  if s.vehicleStationary && !s.mdc.safeStationary then s.seenStationary.line else s

/-- WATCH: a Notice crossing is parked creep (R39). -/
def State.reactWatch (s : State) : State :=
  if s.csu.anchored && s.csu.noticeReached s.mdc.settings then s.parkedCreep else s

/-- One round of the standing conditions. -/
def State.react (before s : State) : State :=
  match s.mdc.mode with
  | .run => State.reactRun before s
  | .safe => s.reactSafe
  | .watch => s.reactWatch
  | .init => s
  | .config => s
  | .restart => s

/-- Rounds of the standing conditions. -/
def reactFor (before : State) : Nat → State → State
  | 0, s => s
  | n + 1, s => reactFor before n (State.react before s)

/-- The insufficiency time runs (R114). -/
def State.timesInsufficiency (s : State) : Bool :=
  (s.inPhase .capturing || s.inPhase .holding) && s.hpc.last.insufficient

/-- The HPC's times that do not run in RUN return to 0 (R101, R102, R114). -/
def State.lapsedTimes (s : State) : Hpc :=
  if s.mdc.mode = .run then
    { s.hpc with
      qualifyingTime := if s.captureConditions then s.hpc.qualifyingTime else 0
      driverAbsentTime := if s.driverAbsent then s.hpc.driverAbsentTime else 0
      insufficiencyTime := if s.timesInsufficiency then s.hpc.insufficiencyTime else 0 }
  else s.hpc

/-- Times that do not run return to 0, and a WATCH request whose grounds are gone lapses (R193). -/
def State.lapse (s : State) : State :=
  { s with hpc := s.lapsedTimes
           mdc := { s.mdc with watchRequest := if s.requestsWatch then s.mdc.watchRequest else none } }

/-- The choices for the next command drawn. -/
def State.drawn (s : State) : State := { s with free := Config.free s.draw, draw := s.draw + 1 }

/-- Rounds enough for the longest chain of standing conditions: RELEASED to CAPTURING, SECURING, RAMP, SECURED, WATCH
(log entry 9). -/
def rounds : Nat := 8

/-- The end of a command begun in the state `before`. -/
def conclude (before s : State) : State := (reactFor before rounds s).lapse.drawn

end Sys2Proof.Machine
end

