-- ==== Sys2Proof/Machine/Clock.lean ====
section
/-! DEFINITION. The clock: what one tick of 100 µs with no command waiting does. The times that run advance, and the
expiries that come due at the tick are put in the queue (log entry 1). -/

namespace Sys2Proof.Machine

/-! ## Times that run -/

/-- The HPC's times in RUN (R101, R102, R104, R106, R108, R114, R116). -/
def State.hpcTimes (s : State) : Hpc :=
  { s.hpc with
    qualifyingTime := if s.captureConditions then min (ms 150) (s.hpc.qualifyingTime + 1) else 0
    settleTime := if s.hpc.phase = .capturing then min (ms 300) (s.hpc.settleTime + 1) else s.hpc.settleTime
    holdTime :=
      if s.hpc.phase = .capturing ∨ s.hpc.phase = .holding then min (sec s.mdc.settings.tSec) (s.hpc.holdTime + 1)
      else s.hpc.holdTime
    insufficiencyTime := if s.timesInsufficiency then min (ms 500) (s.hpc.insufficiencyTime + 1) else 0
    driverAbsentTime := if s.driverAbsent then min (sec 10) (s.hpc.driverAbsentTime + 1) else 0
    release := s.hpc.release.map (fun r => { r with time := min (sec 4) (r.time + 1), rampTime := r.rampTime + 1 })
    handover := s.hpc.handover.map (fun h => { h with stageTime := h.stageTime + 1 }) }

/-- The confirm time runs (R155); without a reference clock, as the free value of Config says. -/
def State.confirmRuns (s : State) : Bool :=
  s.pad.watch == .waiting && (s.mdc.refStable || Config.confirmTimeRunsWithoutReference)

/-- The drive time runs (R150, R162). Without a reference clock it runs in INIT and for a withdraw drive, whenever that was
begun (log entry 57), and for an apply drive as the free value of Config says (log entry 47). -/
def State.driveRuns (s : State) : Bool :=
  s.pad.drive != .idle
    && (s.mdc.refStable || s.mdc.mode == .init || s.pad.drive == .withdraw || Config.driveTimeRunsWithoutReference)

/-- The PAD's times. -/
def State.padTimes (s : State) : Pad :=
  { s.pad with
    driveTime := if s.driveRuns then min (ms 100) (s.pad.driveTime + 1) else s.pad.driveTime
    confirmTime := if s.confirmRuns then min (ms 1500) (s.pad.confirmTime + 1) else s.pad.confirmTime }

/-- The Declaration timer runs (R171). -/
def State.declares (s : State) : Bool := s.mdc.mode == .run || s.mdc.mode == .safe

/-- The rouse window runs (R179). -/
def State.rouseRuns (s : State) : Bool := s.mdc.mode == .watch && 0 < s.sgi.rouseCount

/-- The SGI's times. -/
def State.sgiTimes (s : State) : Sgi :=
  { s.sgi with
    declarationTimer := if s.declares then min (ms 20) (s.sgi.declarationTimer + 1) else s.sgi.declarationTimer
    rouseWindow := if s.rouseRuns then min (ms 2) (s.sgi.rouseWindow + 1) else s.sgi.rouseWindow }

/-- A time of a mode: it runs in that mode, up to its limit. -/
def State.modeTime (s : State) (m : Mode) (limit t : Nat) : Nat := if s.mdc.mode = m then min limit (t + 1) else t

/-- The MDC's times (R184, R186, R189, R192, R193, R197). The wake hold
runs from the first return from WATCH on (log entry 73). A close that comes after this tick no longer comes together with
the expiry of the window (R188, log entry 63). -/
def State.mdcTimes (s : State) : Mdc :=
  { s.mdc with
    initTime := s.modeTime .init (ms 50) s.mdc.initTime
    windowTime := s.modeTime .config (ms 500) s.mdc.windowTime
    windowExpired := false
    reliefTime := s.modeTime .run (sec 120) s.mdc.reliefTime
    reinitTime := s.modeTime .restart (ms 50) s.mdc.reinitTime
    restartTimer := s.modeTime .restart (sec 1) s.mdc.restartTimer
    dwellTime := s.modeTime .safe (sec 2) s.mdc.dwellTime
    wakeHold := if s.mdc.woken then min (sec 1) (s.mdc.wakeHold + 1) else s.mdc.wakeHold }

/-- Every time one tick on. But for the confirm and drive times none waits for the reference oscillator (log entry 79). -/
def State.advanced (s : State) : State :=
  { s with hpc := if s.mdc.mode = .run then s.hpcTimes else s.hpc
           pad := s.padTimes, sgi := s.sgiTimes, mdc := s.mdcTimes, pvt := s.pvt.older, vir := s.vir.older }

/-! ## Expiries due at a tick -/

/-- A time reaches its limit at this tick. -/
def reaches (limit t : Nat) : Bool := t + 1 == limit

/-- A command put in a list when it is due. -/
def due (now : Bool) (c : Instr) : List Instr := if now then [c] else []

/-- The MDC's expiries (R184, R188, R189, R192, R193, R197). The reference oscillator and the supply are judged as last
known (log entry 45). -/
def State.mdcDue (s : State) : List Instr :=
  match s.mdc.mode with
  | .init => due (reaches (ms 50) s.mdc.initTime && !s.mdc.refStable) .clockFailure
  | .config => due (reaches (ms 500) s.mdc.windowTime) .windowExpiry
  | .run => due (reaches (sec 120) s.mdc.reliefTime) .reliefTimeExpiry
  | .watch => due (s.rouseRuns && reaches (ms 2) s.sgi.rouseWindow) .rouseWindowExpiry
  | .restart =>
    due (reaches (ms 50) s.mdc.reinitTime && s.mdc.refStable && !s.mdc.brownOut) .reinitialisationComplete
      ++ due (reaches (sec 1) s.mdc.restartTimer) .restartTimeout
  | .safe => due (reaches (sec 2) s.mdc.dwellTime) .safeDwellExpiry

/-- The expiries of the release (R109, R111). -/
def releaseDue (r : ReleaseRecord) : List Instr :=
  due (reaches 25 r.rampTime) .releaseRampStep ++ due (reaches (sec 4) r.time) .releaseTimeExpiry

/-- The expiries of the handover (R116). -/
def handoverDue (h : HandoverRecord) : List Instr :=
  match h.stage with
  | .settle => due (reaches (ms 1000) h.stageTime) .handoverSettleExpiry
  | .ramp => due (reaches (ms 5) h.stageTime) .handoverRampStep
  | .confirm => []
  | .wait => []

/-- The expiries of the phase (R102, R105, R113). The hold time's expiry comes due once, at the tick that brings the time
to T_sec; a release that is taken first at that tick leaves it spent (log entry 56). -/
def State.phaseDue (s : State) : List Instr :=
  match s.hpc.phase with
  | .released => due (s.captureConditions && reaches (ms 150) s.hpc.qualifyingTime) .captureQualifyingExpiry
  | .capturing =>
    due (reaches (ms 300) s.hpc.settleTime) .captureSettleExpiry
      ++ due (reaches (sec s.mdc.settings.tSec) s.hpc.holdTime) .secureTimeExpiry
  | .holding => due (reaches (sec s.mdc.settings.tSec) s.hpc.holdTime) .secureTimeExpiry
  | .releasing => s.hpc.release.elim [] releaseDue
  | .securing => s.hpc.handover.elim [] handoverDue
  | .secured => []

/-- The HPC's expiries in RUN. -/
def State.hpcDue (s : State) : List Instr :=
  if s.mdc.mode = .run then
    s.phaseDue ++ due (s.timesInsufficiency && reaches (ms 500) s.hpc.insufficiencyTime) .insufficiencyTimeExpiry
      ++ due (s.driverAbsent && reaches (sec 10) s.hpc.driverAbsentTime) .driverAbsentTimeExpiry
  else []

/-- The expiries of an entry (R66, R70). -/
def entryDue (e : PeerEntry) : List Instr :=
  due (reaches (ms 60) e.age && e.freshness == .fresh) (.peerStale e.node)
    ++ due (reaches (ms 300) e.age && e.freshness != .expired) (.peerExpired e.node)
    ++ due (e.lastAlert.elim false (fun a => reaches (sec 2) a.age)) (.lastAlertRemoval e.node)

/-- The expiry of a station's record (R72). -/
def recordExpiry (x : Station) (a : Option RecordAge) : List Instr :=
  due (a.elim false (fun a => a.fresh && reaches (ms 200) a.age)) (.recordStale x)

/-- Every expiry due at this tick. -/
def State.expiries (s : State) : List Instr :=
  s.mdcDue ++ s.hpcDue
    ++ due (s.mdc.woken && reaches (sec 1) s.mdc.wakeHold) .wakeHoldExpiry
    ++ due (s.driveRuns && reaches (ms 100) s.pad.driveTime) .driveTimeExpiry
    ++ due (s.confirmRuns && reaches (ms 1500) s.pad.confirmTime) .confirmTimeout
    ++ due (s.declares && reaches (ms 20) s.sgi.declarationTimer) .declarationTimerExpiry
    ++ s.pvt.entries.flatMap entryDue
    ++ recordExpiry .cab (s.vir.age .cab) ++ recordExpiry .drive (s.vir.age .drive)
    ++ recordExpiry .drum (s.vir.age .drum)

/-- One tick of the clock (log entry 1): times that run advance and the expiries that come due wait, in an order that the
spec does not give where there are several. Before power-on nothing runs. -/
def State.tick (s : State) : State :=
  if s.mdc.straps.isSome then { s.advanced with pending := permute s.free.order s.expiries }.drawn else s

end Sys2Proof.Machine
end

