-- ==== Sys2Proof/Machine/HoldTimers.lean ====
section
/-! DEFINITION. The commands of the HPC's and the PAD's times (chapters 6 and 8). An expiry acts when its time has reached
its limit and runs; otherwise it finds nothing to do (log entry 4). -/

namespace Sys2Proof.Machine

/-- CAPTURE_QUALIFYING_EXPIRY (R102). -/
def execCaptureQualifyingExpiry (s : State) : Host.Outcome State Fault Refusal :=
  .next (conclude s (if s.captureConditions && ms 150 ≤ s.hpc.qualifyingTime then s.enterCapturing else s))

/-- CAPTURE_SETTLE_EXPIRY (R105). -/
def execCaptureSettleExpiry (s : State) : Host.Outcome State Fault Refusal :=
  .next (conclude s
    (if s.inPhase .capturing && ms 300 ≤ s.hpc.settleTime then s.enterHolding s.hpc.pHold false else s))

/-- One step of the release ramp: 2.5 ms of release time taken, and the target 1 kPa lower unless it is at the goal
(R109). -/
def State.rampRelease (s : State) (r : ReleaseRecord) : State :=
  let t := { s with hpc := { s.hpc with release := some { r with rampTime := r.rampTime - 25 } } }
  if r.goal < s.cpr.target then t.handTarget (s.cpr.target - 1) false else t

/-- RELEASE_RAMP_STEP (R109). -/
def execReleaseRampStep (s : State) : Host.Outcome State Fault Refusal :=
  .next (conclude s
    (match s.hpc.release with
      | some r => if s.inPhase .releasing && 25 ≤ r.rampTime then s.rampRelease r else s
      | none => s))

/-- RELEASE_TIME_EXPIRY (R111). -/
def execReleaseTimeExpiry (s : State) : Host.Outcome State Fault Refusal :=
  .next (conclude s
    (match s.hpc.release with
      | some r => if s.inPhase .releasing && sec 4 ≤ r.time then s.abortRelease else s
      | none => s))

/-- The Alert of cause insufficient (R114, R172). -/
def State.insufficientAlert (s : State) : State := s.placeAlert .insufficient s.csu.nodeLevel s.csu.alertCreep

/-- Insufficiency standing for 500 ms (R114, R172): the trigger of R113, which with handover failed set leaves the node in
HOLDING, and the Alert in either case (log entry 30 for a time that then stands at its limit). -/
def State.insufficientFor500 (s : State) : State := s.trigger.insufficientAlert

/-- INSUFFICIENCY_TIME_EXPIRY (R114). -/
def execInsufficiencyTimeExpiry (s : State) : Host.Outcome State Fault Refusal :=
  .next (conclude s
    (if s.timesInsufficiency && ms 500 ≤ s.hpc.insufficiencyTime then s.insufficientFor500 else s))

/-- DRIVER_ABSENT_TIME_EXPIRY (R101, R113). -/
def execDriverAbsentTimeExpiry (s : State) : Host.Outcome State Fault Refusal :=
  .next (conclude s
    (if s.driverAbsent && sec 10 ≤ s.hpc.driverAbsentTime && (s.inPhase .capturing || s.inPhase .holding)
      then s.trigger else s))

/-- SECURE_TIME_EXPIRY (R113). -/
def execSecureTimeExpiry (s : State) : Host.Outcome State Fault Refusal :=
  .next (conclude s
    (if (s.inPhase .capturing || s.inPhase .holding) && sec s.mdc.settings.tSec ≤ s.hpc.holdTime then s.trigger else s))

/-- The end of SETTLE (R116): RAMP, or SECURED when no ramp is needed. -/
def State.endSettle (s : State) (h : HandoverRecord) : State :=
  if h.preHold ≤ s.mdc.settings.pPush then s.enterSecured
  else { s with hpc := { s.hpc with handover := some { h with stage := .ramp, stageTime := 0 } } }

/-- HANDOVER_SETTLE_EXPIRY (R116). -/
def execHandoverSettleExpiry (s : State) : Host.Outcome State Fault Refusal :=
  .next (conclude s
    (match s.hpc.handover with
      | some h =>
        if s.inPhase .securing && h.stage == .settle && ms 1000 ≤ h.stageTime then s.endSettle h else s
      | none => s))

/-- One step of the handover's ramp: 5 ms of stage time taken, the target 1 kPa lower, and SECURED at P_push (R116). -/
def State.rampHandover (s : State) (h : HandoverRecord) : State :=
  let t := { s with hpc := { s.hpc with handover := some { h with stageTime := h.stageTime - ms 5 } } }
  if s.cpr.target - 1 ≤ s.mdc.settings.pPush then t.enterSecured else t.handTarget (s.cpr.target - 1) false

/-- HANDOVER_RAMP_STEP (R116). -/
def execHandoverRampStep (s : State) : Host.Outcome State Fault Refusal :=
  .next (conclude s
    (match s.hpc.handover with
      | some h =>
        if s.inPhase .securing && h.stage == .ramp && ms 5 ≤ h.stageTime then s.rampHandover h else s
      | none => s))

/-- DRIVE_TIME_EXPIRY (R150). The drive time that the IDLE drive holds is the model's choice, 0 (log entry 67). -/
def execDriveTimeExpiry (s : State) : Host.Outcome State Fault Refusal :=
  .next (conclude s
    (if s.pad.drive != .idle && ms 100 ≤ s.pad.driveTime then
      { s with pad := { s.pad with drive := .idle, driveTime := 0 } }
    else s))

/-- CONFIRM_TIMEOUT (R158). -/
def execConfirmTimeout (s : State) : Host.Outcome State Fault Refusal :=
  .next (conclude s
    (if s.spring && s.pad.watch == .waiting && ms 1500 ≤ s.pad.confirmTime then
      ({ s with pad := { s.pad with watch := .timedOut } } : State).confirmTimedOut
    else s))

end Sys2Proof.Machine
end

