-- ==== Sys2Proof/Machine/Segment.lean ====
section
/-! DEFINITION. The commands of the hold segment: arrivals of node and station frames and the ages of what they left
(chapter 4), the transmit list and the error counts (R174 to R179), and the service requests (R181 to R183). -/

namespace Sys2Proof.Machine

/-! ## Declarations and Alerts -/

/-- An own-number Declaration or Alert: an identity clash, reported at the start of a span (R62, R69). -/
def State.clash (s : State) : State :=
  let t := { s with pvt := { s.pvt with clashTime := some 0 } }
  if s.pvt.clashTime.isNone then t.report identityReport else t

/-- The expected-count report of an entry's creation (R63). -/
def State.creationReport (s : State) (n : Nat) : State :=
  if s.exceedsExpected then
    ({ s with pvt := { s.pvt with expectedReported := true } } : State).report (expectedReport n)
  else s

/-- The table with an accepted Declaration (R63, R64), but for the declared capacity: the entry keeps the one that the
capacity sum holds until the capacity is handed to the HAL (R79). That the report of a creation comes before the handings
is the model's choice (log entry 61). -/
def State.tabled (s : State) (n : Nat) (d : Declared) : State :=
  let t := { s with pvt := s.pvt.take n { d with capacity := s.pvt.summed n } }
  if (entryFor n s.pvt.entries).isNone then t.creationReport n else t

/-- The new declared capacity handed to the HAL (R65, R79): the capacity sum takes it, and the HAL recomputes. -/
def State.handCapacity (s : State) (n c : Nat) : State :=
  ({ s with pvt := s.pvt.takeCapacity n c } : State).halRecompute

/-- The handings of a created or updated entry: CSU's creep and level, GLU's grade and mass, HAL's capacity, and HPC's and
MDC's conditions, in an order that the spec does not give (R65, R79). -/
def declarationHandings (before : State) (n capacity : Nat) : List (State → State) :=
  [fun t => t.creepRecompute false, State.mergeLevel, State.gradeRecompute, State.massRecompute,
   fun t => t.handCapacity n capacity, State.react before]

/-- An accepted Declaration (R61 to R65). -/
def State.declare (s : State) (n : Nat) (d : Declared) : State :=
  if n = s.number then s.clash else handAll (declarationHandings s n d.capacity) (s.tabled n d)

/-- A frame of a peer's kind taken: its sender is a node number and the receive path is open (R167, R168; log
entry 26). -/
def State.takesFrom (s : State) (n : Nat) : Bool := s.receives && 1 ≤ n && n ≤ 8

/-- A Declaration's arrival (R61, R169). -/
def State.declarationArrives (s : State) (n : Nat) (data : List Byte) : State :=
  if s.takesFrom n then
    match decodeDeclaration data with
    | some d => s.declare n d
    | none => s.report (malformedReport (.peer n))
  else s

/-- DECLARATION (R61). -/
def execDeclaration (sender : Nat) (data : List Byte) (s : State) : Host.Outcome State Fault Refusal :=
  .next (conclude s (s.declarationArrives sender data))

/-- The handings of an entry passing to stale (R66). -/
def staleHandings (before : State) : List (State → State) :=
  [fun t => t.creepRecompute false, State.gradeRecompute, State.react before]

/-- An entry's age has reached a limit while its freshness is still the one before. -/
def State.entryDue (s : State) (n limit : Nat) (f : Freshness) : Bool :=
  (entryFor n s.pvt.entries).elim false (fun e => limit ≤ e.age && e.freshness == f)

/-- PEER_STALE (R66). -/
def execPeerStale (n : Nat) (s : State) : Host.Outcome State Fault Refusal :=
  .next (conclude s
    (if s.entryDue n (ms 60) .fresh then
      handAll (staleHandings s) { s with pvt := s.pvt.setFreshness n .stale }
    else s))

/-- The handings of an entry passing to expired (R66, R67): the HAL's recomputation, and the report made in RUN in a hold
phase. -/
def expiryHandings (n : Nat) (hold : Bool) : List (State → State) :=
  [State.halRecompute] ++ (if hold then [fun t => t.report (expiryReport n)] else [])

/-- PEER_EXPIRED (R66, R67). -/
def execPeerExpired (n : Nat) (s : State) : Host.Outcome State Fault Refusal :=
  .next (conclude s
    (if s.entryDue n (ms 300) .stale then
      handAll (expiryHandings n s.inHold) { s with pvt := s.pvt.setFreshness n .expired }
    else s))

/-- An accepted Alert: its trace, and its handings to CSU and HPC, which the spec does not order (R38, R69). The CSU acts on
an Alert that arrives in a hold phase; one that arrives in RELEASED leaves the levels to the capture (R24, R38). -/
def State.alerted (s : State) (n : Nat) (a : LastAlert) : State :=
  if n = s.number then s.clash
  else
    handAll ((if s.inHold then [fun t => t.csuAlert a.cause] else []) ++ [State.hpcAlert])
      { s with pvt := s.pvt.takeAlert n a }

/-- An Alert's arrival (R69, R169). -/
def State.alertArrives (s : State) (n : Nat) (data : List Byte) : State :=
  if s.takesFrom n then
    match decodeAlert data with
    | some a => s.alerted n a
    | none => s.report (malformedReport (.peer n))
  else s

/-- ALERT (R69). -/
def execAlert (sender : Nat) (data : List Byte) (s : State) : Host.Outcome State Fault Refusal :=
  .next (conclude s (s.alertArrives sender data))

/-- The last alert of an entry has reached 2 s (R70). -/
def State.alertDue (s : State) (n : Nat) : Bool :=
  (entryFor n s.pvt.entries).elim false (fun e => e.lastAlert.elim false (fun a => sec 2 ≤ a.age))

/-- LAST_ALERT_REMOVAL (R70). -/
def execLastAlertRemoval (n : Nat) (s : State) : Host.Outcome State Fault Refusal :=
  .next (conclude s (if s.alertDue n then { s with pvt := s.pvt.dropAlert n } else s))

/-! ## Station frames (R72 to R75) -/

/-- A station frame: its record overwritten and handed on, or discarded as malformed (R72, R169). -/
def State.stationFrame {α : Type} (s : State) (e : Element) (d : Option α) (take : α → State) : State :=
  if s.receives then
    match d with
    | some x => take x
    | none => s.report (malformedReport e)
  else s

/-- The cab record overwritten. -/
def State.takeCab (s : State) (c : CabFields) : State :=
  { s with vir := { s.vir with cab := some (c, RecordAge.new) } }

/-- CAB_STATUS (R73). -/
def execCabStatus (data : List Byte) (s : State) : Host.Outcome State Fault Refusal :=
  .next (conclude s (s.stationFrame .cabStation (decodeCab data) s.takeCab))

/-- The drive record overwritten and handed to HAL and HPC, which the spec does not order (R72, R78). -/
def State.takeDrive (s : State) (d : DriveFields) : State :=
  handAll [State.halRecompute, State.react s] { s with vir := { s.vir with drive := some (d, RecordAge.new) } }

/-- DRIVE_DEMAND (R74). -/
def execDriveDemand (data : List Byte) (s : State) : Host.Outcome State Fault Refusal :=
  .next (conclude s (s.stationFrame .powertrainStation (decodeDrive data) s.takeDrive))

/-- The effective margin formed at a handing of the drum record, with a recomputation when it changes (R78, R80). In WATCH
the HAL takes no input (R97). In CONFIG it is formed from the margins accepted so far (log entry 65). -/
def State.drumHanded (s : State) : State :=
  if s.mdc.mode = .watch then s
  else if s.formMargin.hal.margin = s.hal.margin then s
  else s.formMargin.halRecompute

/-- The drum record overwritten. -/
def State.takeDrum (s : State) (d : DrumFields) : State :=
  ({ s with vir := { s.vir with drum := some (d, RecordAge.new) } } : State).drumHanded

/-- DRUM_STATUS (R75). -/
def execDrumStatus (data : List Byte) (s : State) : Host.Outcome State Fault Refusal :=
  .next (conclude s (s.stationFrame .drumStation (decodeDrum data) s.takeDrum))

/-- A station's record has reached 200 ms while still fresh (R72). -/
def State.recordDue (s : State) (x : Station) : Bool :=
  (s.vir.age x).elim false (fun a => ms 200 ≤ a.age && a.fresh)

/-- A station's record passed to stale, and handed on (R72). -/
def State.staleRecord (s : State) (x : Station) : State :=
  let t := { s with vir := s.vir.setStale x }
  match x with
  | .cab => t
  | .drive => handAll [State.halRecompute, State.react s] t
  | .drum => t.drumHanded

/-- RECORD_STALE (R72). -/
def execRecordStale (x : Station) (s : State) : Host.Outcome State Fault Refusal :=
  .next (conclude s (if s.recordDue x then s.staleRecord x else s))

/-! ## Transmission (R171, R174) -/

/-- DECLARATION_TIMER_EXPIRY (R171). The timer starts again also where the placement is refused (log entry 27). -/
def execDeclarationTimerExpiry (s : State) : Host.Outcome State Fault Refusal :=
  .next (conclude s
    (if (s.mdc.mode == .run || s.mdc.mode == .safe) && ms 20 ≤ s.sgi.declarationTimer then
      ({ s with sgi := { s.sgi with declarationTimer := 0 } } : State).placeDeclaration
    else s))

/-- ERROR ACTIVE or ERROR PASSIVE. -/
def Sgi.joined (g : Sgi) : Bool := g.bus == .active || g.bus == .passive

/-- The first frame of the list offered. -/
def Sgi.offer (g : Sgi) : Sgi :=
  match g.list with
  | f :: _ => if g.joined && g.inProgress.isNone then { g with inProgress := some { frame := f, replaced := false } } else g
  | [] => g

/-- FRAME_OFFER (R174). -/
def execFrameOffer (s : State) : Host.Outcome State Fault Refusal := .next (conclude s { s with sgi := s.sgi.offer })

/-- ARBITRATION_LOST (R174): the frame stays in its place. -/
def execArbitrationLost (s : State) : Host.Outcome State Fault Refusal :=
  .next (conclude s { s with sgi := { s.sgi with inProgress := none } })

/-! ## Error confinement (R176 to R178) -/

/-- The bus state as the counts give it, in ERROR ACTIVE and ERROR PASSIVE (R177). -/
def Sgi.byCounts (g : Sgi) : Bus := if g.txErrors < 128 && g.rxErrors < 128 then .active else .passive

/-- The counts changed, with the report of an entry into ERROR PASSIVE (R177). -/
def State.count (s : State) (g : Sgi) : State :=
  let t := { s with sgi := { g with bus := g.byCounts } }
  if g.byCounts = .passive ∧ s.sgi.bus = .active then t.report errorPassiveReport else t

/-- BUS OFF (R178). -/
def State.busOff (s : State) (g : Sgi) : State :=
  ({ s with sgi := { g.emptied with bus := .off, recovery := 0 } } : State).report busOffReport

/-- A transmit error (R176, R178). -/
def State.transmitFailed (s : State) : State :=
  let g := { s.sgi with inProgress := none, txErrors := min 256 (s.sgi.txErrors + 8) }
  if 255 < g.txErrors then s.busOff g else s.count g

/-- TRANSMIT_ERROR (R176). -/
def execTransmitError (s : State) : Host.Outcome State Fault Refusal :=
  .next (conclude s (if s.sgi.joined && s.sgi.inProgress.isSome then s.transmitFailed else s))

/-- TRANSMIT_SUCCESS (R174, R176). -/
def execTransmitSuccess (s : State) : Host.Outcome State Fault Refusal :=
  .next (conclude s
    (match s.sgi.inProgress with
      | some t => if s.sgi.joined then s.count { s.sgi.sent t with txErrors := s.sgi.txErrors - 1 } else s
      | none => s))

/-- RECEIVE_ERROR (R176). -/
def execReceiveError (s : State) : Host.Outcome State Fault Refusal :=
  .next (conclude s
    (if s.receives then s.count { s.sgi with rxErrors := min 255 (s.sgi.rxErrors + 1) } else s))

/-- SUCCESSFUL_RECEPTION (R176; log entry 25). -/
def execSuccessfulReception (s : State) : Host.Outcome State Fault Refusal :=
  .next (conclude s (if s.receives then s.count { s.sgi with rxErrors := s.sgi.rxErrors - 1 } else s))

/-- ERROR ACTIVE with both counts and the recovery count 0 (R177, R178). -/
def Sgi.join (g : Sgi) : Sgi := { g with bus := .active, txErrors := 0, rxErrors := 0, recovery := 0 }

/-- A run of 11 recessive bits: a starting controller joins, a bus-off one counts and at 128 recovers with a Declaration
(R171, R177, R178). -/
def State.recessive (s : State) : State :=
  match s.sgi.bus with
  | .stopped => if s.controllerRuns then { s with sgi := s.sgi.join } else s
  | .off =>
    if 128 ≤ s.sgi.recovery + 1 then ({ s with sgi := s.sgi.join } : State).placeDeclaration
    else { s with sgi := { s.sgi with recovery := s.sgi.recovery + 1 } }
  | .active => s
  | .passive => s

/-- RECESSIVE_RUN (R178). -/
def execRecessiveRun (s : State) : Host.Outcome State Fault Refusal := .next (conclude s s.recessive)

/-! ## Rouse detector (R179) -/

/-- A qualifying dominant phase (R179): the third within the window is a rouse. What count and window hold once the
detector has stopped is the model's choice (log entry 68). -/
def State.dominant (s : State) : State :=
  if s.mdc.mode = .watch then
    if 2 ≤ s.sgi.rouseCount then ({ s with sgi := { s.sgi with rouseCount := 0, rouseWindow := 0 } } : State).wake false
    else
      { s with sgi := { s.sgi with rouseCount := s.sgi.rouseCount + 1
                                   rouseWindow := if s.sgi.rouseCount = 0 then 0 else s.sgi.rouseWindow } }
  else s

/-- QUALIFYING_DOMINANT_PHASE (R179). -/
def execQualifyingDominantPhase (s : State) : Host.Outcome State Fault Refusal := .next (conclude s s.dominant)

/-- ROUSE_WINDOW_EXPIRY (R179). -/
def execRouseWindowExpiry (s : State) : Host.Outcome State Fault Refusal :=
  .next (conclude s
    (if s.mdc.mode == .watch && 0 < s.sgi.rouseCount && ms 2 ≤ s.sgi.rouseWindow then
      { s with sgi := { s.sgi with rouseCount := 0, rouseWindow := 0 } }
    else s))

/-! ## Service requests (R181 to R183) -/

/-- A service request's arrival: `row` says whether the command code is the one of the row, and `answer` gives the effect
for code and argument (R169, R181). -/
def State.service (s : State) (target : Nat) (data : List Byte) (row : Byte → Bool) (answer : Byte → Byte → State) :
    State :=
  if s.receives && target == s.number then
    match data with
    | [c, a] => if row c then (if 3 ≤ s.sgi.replies then s.report overrunReport else answer c a) else s
    | _ => s.report (malformedReport .serviceTool)
  else s

/-- BAD ARGUMENT with a payload of 0 (R181). -/
def State.badArgument (s : State) (c a : Byte) : State := s.placeReply .badArgument c a zeroPayload

/-- READ_STATUS (R182). -/
def execReadStatus (target : Nat) (data : List Byte) (s : State) : Host.Outcome State Fault Refusal :=
  .next (conclude s (s.service target data (· == 1#8) (fun c a => s.placeReply .ok c a s.statusPayload)))

/-- The reply of READ BANK (R182, R203). -/
def State.bankReply (s : State) (c a : Byte) : State :=
  match bankOfCode a.toNat with
  | some b => s.placeReply .ok c a (bankPayload (s.frb.banks.get b))
  | none => s.badArgument c a

/-- READ_BANK (R182). -/
def execReadBank (target : Nat) (data : List Byte) (s : State) : Host.Outcome State Fault Refusal :=
  .next (conclude s (s.service target data (· == 2#8) s.bankReply))

/-- The handings of a clear (R202, R204): the Declaration of a change of severity or release-permitted and the HAL's
recomputation of a change of hold-compromised, which the spec does not order. The HPC acts on a consent restored by the
clear after both, at the end of the command (log entry 59). -/
def clearHandings (before after : Banks) : List (State → State) :=
  (if before.severity = after.severity ∧ before.releasePermitted = after.releasePermitted then []
    else [State.placeDeclaration])
  ++ (if before.holdCompromised = after.holdCompromised then [] else [State.halRecompute])

/-- The banks cleared to those given, with the handings of the conditions (R204). -/
def State.clearTo (s : State) (b : Banks) : State :=
  handAll (clearHandings s.frb.banks b) { s with frb := { s.frb with banks := b } }

/-- CLEAR BANK's effect and reply (R182, R204). -/
def State.clearBankReply (s : State) (c a : Byte) : State :=
  match bankOfCode a.toNat with
  | some b => (s.placeReply .ok c a zeroPayload).clearTo (s.frb.banks.put b none)
  | none => s.badArgument c a

/-- CLEAR_BANK (R204). -/
def execClearBank (target : Nat) (data : List Byte) (s : State) : Host.Outcome State Fault Refusal :=
  .next (conclude s (s.service target data (· == 3#8) s.clearBankReply))

/-- CLEAR ALL's effect and reply (R182, R204). -/
def State.clearAllReply (s : State) (c a : Byte) : State :=
  let t := s.placeReply .ok c a zeroPayload
  ({ t with frb := { t.frb with responseActive := false } } : State).clearTo Banks.empty

/-- CLEAR_ALL (R204). -/
def execClearAll (target : Nat) (data : List Byte) (s : State) : Host.Outcome State Fault Refusal :=
  .next (conclude s (s.service target data (· == 4#8) s.clearAllReply))

/-- The argument of READ PEER lies outside its range (R182). Whether bits 6 and 7 may be set is left open by the spec
(log entry 29). -/
def State.badPeer (s : State) (a : Byte) : Bool :=
  field a 0 4 == 0 || 8 < field a 0 4 || field a 0 4 == s.number || field a 4 2 == 3
    || (field a 6 2 != 0 && Config.readPeerRefusesHighBits)

/-- READ PEER's reply (R182). -/
def State.peerReply (s : State) (c a : Byte) : State :=
  if s.badPeer a then s.badArgument c a
  else
    match entryFor (field a 0 4) s.pvt.entries with
    | some e => s.placeReply .ok c a (peerPayload e (field a 4 2))
    | none => s.placeReply .ok c a zeroPayload

/-- READ_PEER (R182). -/
def execReadPeer (target : Nat) (data : List Byte) (s : State) : Host.Outcome State Fault Refusal :=
  .next (conclude s (s.service target data (· == 5#8) s.peerReply))

/-- RESTART's effect (R183): taken in RUN in RELEASED with the vehicle stationary, else BUSY. -/
def State.serviceRestart (s : State) (c a : Byte) : State :=
  if s.inPhase .released && s.vehicleStationary then
    ({ s with sgi := { s.sgi with restartOwed := some a } } : State).enterRestart
  else s.placeReply .busy c a zeroPayload

/-- RESTART (R183). -/
def execRestart (target : Nat) (data : List Byte) (s : State) : Host.Outcome State Fault Refusal :=
  .next (conclude s (s.service target data (· == 6#8) s.serviceRestart))

/-- UNDEFINED_SERVICE_COMMAND (R181): a code outside 1..6. -/
def execUndefinedServiceCommand (target : Nat) (data : List Byte) (s : State) : Host.Outcome State Fault Refusal :=
  .next (conclude s (s.service target data (fun c => c == 0#8 || 6 < c.toNat) s.badArgument))

end Sys2Proof.Machine
end

