-- ==== Sys2Proof/Machine/Sensing.lean ====
section
/-! DEFINITION. The commands of the sensors: the wheel samples, the accelerometer, the load input, the chamber and spring
pressures and the valve readbacks (chapters 1, 2, 3, 7 and 8). A row that names what comes about at a sample acts when
that comes about at the sample whose operands it carries, and is then the whole of that sample (log entry 5). -/

namespace Sys2Proof.Machine

/-! ## Wheel samples -/

/-- The WMT after a sample, with what the sample gives rise to. -/
def State.wheel (s : State) (sine cosine : Code) : Wmt × SampleEvents :=
  s.wmt.sample s.pol s.mdc.settings.circumference sine cosine

/-- The handings of a sample, which the spec does not order: to the CSU, to the HPC, and to the GLU a lost stationary
indication. -/
def sampleHandings (e : SampleEvents) : List (State → State) :=
  [fun t => t.csuSample e.gap, State.hpcSample] ++ (if e.lostStationary then [State.gluMoved] else [])

/-- A sample: the WMT, its reports, and the handings. That the reports, the lock advisory of R13 among them, come before
the handings is the model's choice (log entry 54). -/
def State.takeSample (s : State) (w : Wmt) (e : SampleEvents) : State :=
  handAll (sampleHandings e) (({ s with wmt := w } : State).reportAll e.reports)

/-- A sample if what a row names comes about at it. No sample is taken while the WMT does not sample (R1, R21, R22). -/
def State.sampleIf (s : State) (occurs : State → SampleEvents → Bool) (sine cosine : Code) : State :=
  let r := s.wheel sine cosine
  if s.wmt.sampling && occurs { s with wmt := r.1 } r.2 then s.takeSample r.1 r.2 else s

/-- The breach velocity time reaches 100 ms at the sample taken (R34). -/
def State.velocityDue (s : State) : Bool :=
  s.inHold && s.csu.anchored && !s.csu.breach && s.fast && !s.exempt && ms 100 ≤ s.csu.breachTime + s.wmt.period

/-- WHEEL_SAMPLE (R1). -/
def execWheelSample (sine cosine : Code) (s : State) : Host.Outcome State Fault Refusal :=
  .next (conclude s (s.sampleIf (fun _ _ => true) sine cosine))

/-- NOISE_OVERRUN (R3). -/
def execNoiseOverrun (sine cosine : Code) (s : State) : Host.Outcome State Fault Refusal :=
  .next (conclude s (s.sampleIf (fun _ e => e.noise) sine cosine))

/-- AMPLITUDE_LOSS (R6). -/
def execAmplitudeLoss (sine cosine : Code) (s : State) : Host.Outcome State Fault Refusal :=
  .next (conclude s (s.sampleIf (fun _ e => e.amplitude) sine cosine))

/-- CLEAN_WINDOW_RECOVERY (R18). -/
def execCleanWindowRecovery (sine cosine : Code) (s : State) : Host.Outcome State Fault Refusal :=
  .next (conclude s (s.sampleIf (fun _ e => e.recovered) sine cosine))

/-- LOCKED (R12). -/
def execLocked (sine cosine : Code) (s : State) : Host.Outcome State Fault Refusal :=
  .next (conclude s (s.sampleIf (fun _ e => e.becameLocked) sine cosine))

/-- LOCK_NOT_ACHIEVED (R13). -/
def execLockNotAchieved (sine cosine : Code) (s : State) : Host.Outcome State Fault Refusal :=
  .next (conclude s (s.sampleIf (fun _ e => e.lockNotAchieved) sine cosine))

/-- STATIONARY_ASSERTED (R16). -/
def execStationaryAsserted (sine cosine : Code) (s : State) : Host.Outcome State Fault Refusal :=
  .next (conclude s (s.sampleIf (fun _ e => e.becameStationary) sine cosine))

/-- BREACH_VELOCITY_TIME_EXPIRY (R34). -/
def execBreachVelocityTimeExpiry (sine cosine : Code) (s : State) : Host.Outcome State Fault Refusal :=
  .next (conclude s (s.sampleIf (fun t _ => t.velocityDue) sine cosine))

/-! ## Accelerometer -/

/-- Window test, history, own grade and vehicle grade of a reading (R43 to R46, R49). -/
def State.accelGrade (s : State) (r : Option Accel) : State :=
  let t := { s with glu := s.glu.take r s.wmt.stationary }
  if Glu.gradeTaken s.glu t.glu then t.gradeRecompute else t

/-- The disagreement test of a reading (R48). -/
def State.disagreementTest (s : State) : State :=
  if s.glu.reading then
    let t := { s with glu := { s.glu with disagreement := s.glu.nextDisagreement } }
    if s.glu.disagreementFault then t.report disagreementReport else t
  else s

/-- One accelerometer reading (R43, R47, R48). -/
def State.accelRead (s : State) (r : Option Accel) : State :=
  let t := s.accelGrade r
  (if Glu.windowFault s.glu (s.glu.take r s.wmt.stationary) && t.glu.reading then t.report accelerometerReport
    else t).disagreementTest

/-- ACCELEROMETER_READING (R43). -/
def execAccelerometerReading (r : Option Accel) (s : State) : Host.Outcome State Fault Refusal :=
  .next (conclude s (if s.glu.reading then s.accelRead r else s))

/-- ACCELEROMETER_WINDOW_FAULT (R47). -/
def execAccelerometerWindowFault (r : Option Accel) (s : State) : Host.Outcome State Fault Refusal :=
  .next (conclude s
    (if s.glu.reading && Glu.windowFault s.glu (s.glu.take r s.wmt.stationary) then s.accelRead r else s))

/-- GRADE_DISAGREEMENT (R48). -/
def execGradeDisagreement (r : Option Accel) (s : State) : Host.Outcome State Fault Refusal :=
  .next (conclude s
    (if s.glu.reading && (s.accelGrade r).glu.reading && (s.accelGrade r).glu.disagreementFault then s.accelRead r
      else s))

/-! ## Axle load -/

/-- What a change of own load or lifted flag sets off: the HAL's recomputation and the vehicle mass, in an order that the
spec does not give (R53, R55, R56, R78). -/
def loadHandings (before after : Glu) : List (State → State) :=
  (if after.ownLoad = before.ownLoad ∧ after.lifted = before.lifted then [] else [State.halRecompute])
    ++ (if after.ownLoad = before.ownLoad ∧ after.loadKnown = before.loadKnown then [] else [State.massRecompute])

/-- One load reading (R52 to R55). The own load and the lifted flag it gives stand before any of its handings (log entry
66). -/
def State.loadRead (s : State) (mV : Nat) : State :=
  if loadInRange mV then
    let g := s.glu.takeLoad mV s.wmt.stationary
    handAll (loadHandings s.glu g) { s with glu := g }
  else
    let m := s.glu.missLoad
    let t := { s with glu := m.1 }
    if m.2 then t.report loadReport else t

/-- LOAD_READING (R52). -/
def execLoadReading (mV : Nat) (s : State) : Host.Outcome State Fault Refusal :=
  .next (conclude s (if s.glu.reading then s.loadRead mV else s))

/-- LOAD_INPUT_FAULT (R54). -/
def execLoadInputFault (mV : Nat) (s : State) : Host.Outcome State Fault Refusal :=
  .next (conclude s (if s.glu.reading && !loadInRange mV && s.glu.missLoad.2 then s.loadRead mV else s))

/-! ## Chamber pressure -/

/-- One reading of the chamber pressure, with what it hands the HPC and the FRB (R132, R133, R139 to R141). -/
def State.pressureRead (s : State) (kPa : Int) : State :=
  let r := s.cpr.read kPa
  let t := { s with cpr := r.1 }
  let u := (if r.2.applyTimeout then t.applyTimedOut else t).reportAll r.2.reports
  if r.2.settled then u.settled else u

/-- A reading if what a row names comes about at it; none is taken while the CPR does not read (R132). -/
def State.pressureIf (s : State) (occurs : PressureEvents → Bool) (kPa : Int) : State :=
  if s.cpr.reading && occurs (s.cpr.read kPa).2 then s.pressureRead kPa else s

/-- PRESSURE_READING (R132). -/
def execPressureReading (kPa : Int) (s : State) : Host.Outcome State Fault Refusal :=
  .next (conclude s (s.pressureIf (fun _ => true) kPa))

/-- CHAMBER_SENSOR_OUT_OF_RANGE (R133). -/
def execChamberSensorOutOfRange (kPa : Int) (s : State) : Host.Outcome State Fault Refusal :=
  .next (conclude s (s.pressureIf (fun e => e.rangeOnset) kPa))

/-- SETTLED_REPORT (R139). -/
def execSettledReport (kPa : Int) (s : State) : Host.Outcome State Fault Refusal :=
  .next (conclude s (s.pressureIf (fun e => e.settled) kPa))

/-- APPLY_TIMEOUT (R140). -/
def execApplyTimeout (kPa : Int) (s : State) : Host.Outcome State Fault Refusal :=
  .next (conclude s (s.pressureIf (fun e => e.applyTimeout) kPa))

/-- VENT_TIMEOUT (R141). -/
def execVentTimeout (kPa : Int) (s : State) : Host.Outcome State Fault Refusal :=
  .next (conclude s (s.pressureIf (fun e => e.ventTimeout) kPa))

/-! ## Readback -/

/-- One sample of the readbacks (R143, R144), in every mode but WATCH. -/
def State.readbackTaken (s : State) (hold apply vent : Bool) : State :=
  let r := s.cpr.readback hold apply vent
  if s.mdc.mode = .watch then s else ({ s with cpr := r.1 } : State).reportAll r.2

/-- READBACK_SAMPLE (R143). -/
def execReadbackSample (hold apply vent : Bool) (s : State) : Host.Outcome State Fault Refusal :=
  .next (conclude s (s.readbackTaken hold apply vent))

/-- READBACK_MISMATCH (R144). -/
def execReadbackMismatch (hold apply vent : Bool) (s : State) : Host.Outcome State Fault Refusal :=
  .next (conclude s (if (s.cpr.readback hold apply vent).2.isEmpty then s else s.readbackTaken hold apply vent))

/-! ## Spring chamber pressure -/

/-- One reading of the spring chamber pressure, with what it hands the HPC and the FRB (R152, R153, R157, R158, R160). -/
def State.springRead (s : State) (kPa : Int) : State :=
  let r := s.pad.read kPa
  let t := { s with pad := r.1 }
  let u := if r.2.confirmed then t.confirmed else t
  let v := if r.2.rangeOnset then u.report springSensorReport else u
  let w := if r.2.timedOut then v.confirmTimedOut else v
  if r.2.lost then w.report confirmLostReport else w

/-- A reading if what a row names comes about at it; the sensor is read on a spring-fitted node alone (R151, R152). -/
def State.springIf (s : State) (occurs : SpringEvents → Bool) (kPa : Int) : State :=
  if s.spring && s.pad.reading && occurs (s.pad.read kPa).2 then s.springRead kPa else s

/-- SPRING_READING (R152). -/
def execSpringReading (kPa : Int) (s : State) : Host.Outcome State Fault Refusal :=
  .next (conclude s (s.springIf (fun _ => true) kPa))

/-- SPRING_SENSOR_OUT_OF_RANGE (R153). -/
def execSpringSensorOutOfRange (kPa : Int) (s : State) : Host.Outcome State Fault Refusal :=
  .next (conclude s (s.springIf (fun e => e.rangeOnset) kPa))

/-- CONFIRM_LOST (R160). -/
def execConfirmLost (kPa : Int) (s : State) : Host.Outcome State Fault Refusal :=
  .next (conclude s (s.springIf (fun e => e.lost) kPa))

end Sys2Proof.Machine
end

