-- ==== Sys2Proof/Machine/StartStop.lean ====
section
/-! DEFINITION. The commands of the MDC: power-on, the end of INIT, configuration, restarts, SAFE and the key line
(chapter 10). -/

namespace Sys2Proof.Machine

/-! ## INIT -/

/-- The node number of the NUM pins, NUM0 the least significant, plus one (R184). -/
def nodeNumber (num0 num1 num2 : Bool) : Nat := weight num0 0 + weight num1 1 + weight num2 2 + 1

/-- The PAD at power-on (R162): the withdraw drive of a spring-fitted node begins. -/
def Pad.poweredOn (spring : Bool) : Pad := if spring then { Pad.initial with drive := .withdraw } else .initial

/-- Every block in its initial state and the straps latched (R184). The queue of waiting commands is kept, being outside
the node, and so are the model's own choices. -/
def State.poweredOn (s : State) (num0 num1 num2 spring pol key : Bool) : State :=
  { State.reset with
    mdc := { Mdc.initial with
             straps := some { number := nodeNumber num0 num1 num2, spring := spring, pol := pol }, key := key }
    pad := Pad.poweredOn spring
    pending := s.pending, free := s.free, draw := s.draw }

/-- POWER_ON (R184). -/
def execPowerOn (num0 num1 num2 spring pol key : Bool) (s : State) : Host.Outcome State Fault Refusal :=
  .next (conclude s (s.poweredOn num0 num1 num2 spring pol key))

/-- INIT with the straps read. -/
def State.starting (s : State) : Bool := s.mdc.mode == .init && s.mdc.straps.isSome

/-- The reference oscillator known to be stable. -/
def State.stable (s : State) : State := { s with mdc := { s.mdc with refStable := true } }

/-- The end of INIT (R184, R185): CONFIG, or SAFE when a SAFE cause is pending. -/
def State.endInit (s : State) : State := if s.mdc.pendingSafe then s.stable.enterSafe else s.stable.enterConfig

/-- INIT_END (R184): the oscillator is stable; 25 ms must have passed since power-on (log entry 45). -/
def execInitEnd (s : State) : Host.Outcome State Fault Refusal :=
  .next (conclude s (if s.starting && ms 25 ≤ s.mdc.initTime then s.endInit else s))

/-- CLOCK_FAILURE (R184): the oscillator has not become stable 50 ms after power-on. -/
def execClockFailure (s : State) : Host.Outcome State Fault Refusal :=
  .next (conclude s
    (if s.starting && ms 50 ≤ s.mdc.initTime && !s.mdc.refStable then s.reportAndSafe clockReport else s))

/-! ## Configuration (R186 to R188) -/

/-- The configuration window stands open: CONFIG, and the set not yet frozen (R186, R188). -/
def State.windowOpen (s : State) : Bool := s.mdc.mode == .config && !s.mdc.frozen

/-- A Configure frame's arrival, addressed to this node or to every node: `row` says whether the group is the one of the
row, `late` what it does when the window has ended, and `inConfig` what it does while it is open (R168, R169, R187). -/
def State.configured (s : State) (data : List Byte) (row : Byte → Bool) (late : State) (inConfig : List Byte → State) :
    State :=
  if s.receives then
    match data with
    | [] => s.report (malformedReport .serviceTool)
    | t :: l =>
      if t.toNat == 0 || t.toNat == s.number then
        match l with
        | [g, b2, b3, b4, b5, b6, b7] =>
          if row g then
            (if s.windowOpen then inConfig [g, b2, b3, b4, b5, b6, b7] else late)
          else s
        | _ => s.report (malformedReport .serviceTool)
      else s
  else s

/-- A late configure, in RUN and SAFE (R187). -/
def State.lateConfigure (s : State) : State := s.report lateConfigureReport

/-- The mark of a window just ended by its expiry. -/
def State.markExpired (s : State) (b : Bool) : State := { s with mdc := { s.mdc with windowExpired := b } }

/-- A close when the window has ended: one that comes together with the expiry does nothing more, as in the other order
(R188, log entry 63). -/
def State.lateClose (s : State) : State := if s.mdc.windowExpired then s.markExpired false else s.lateConfigure

/-- A group's values taken and its written flag set (R187). -/
def State.takeSettings (s : State) (g : Nat) (b2 b3 b4 b5 b6 b7 : Byte) : State :=
  { s with mdc := { s.mdc with settings := takeGroup g b2 b3 b4 b5 b6 b7 s.mdc.settings
                               written := s.mdc.written.mark g } }

/-- A frame of group 1 to 5 in CONFIG: taken, with the mass recomputed for groups 1 and 5, or reported as a rewrite
(R56, R187). -/
def State.takeGroupFrame (s : State) : List Byte → State
  | [g, b2, b3, b4, b5, b6, b7] =>
    if s.mdc.written.of g.toNat then s.report (rewriteReport g.toNat)
    else
      let t := s.takeSettings g.toNat b2 b3 b4 b5 b6 b7
      if g.toNat = 1 ∨ g.toNat = 5 then t.massRecompute else t
  | _ => s

/-- CONFIGURE_GROUP (R187). -/
def execConfigureGroup (data : List Byte) (s : State) : Host.Outcome State Fault Refusal :=
  .next (conclude s (s.configured data (fun g => 1 ≤ g.toNat && g.toNat ≤ 5) s.lateConfigure s.takeGroupFrame))

/-- CONFIGURE_CLOSE (R188). -/
def execConfigureClose (data : List Byte) (s : State) : Host.Outcome State Fault Refusal :=
  .next (conclude s (s.configured data (· == 0#8) s.lateClose (fun _ => s.enterRun)))

/-- UNDEFINED_CONFIGURE_GROUP (R187). -/
def execUndefinedConfigureGroup (data : List Byte) (s : State) : Host.Outcome State Fault Refusal :=
  .next (conclude s (s.configured data (fun g => 6 ≤ g.toNat) s.lateConfigure
    (fun _ => s.report (malformedReport .serviceTool))))

/-- WINDOW_EXPIRY (R188). -/
def execWindowExpiry (s : State) : Host.Outcome State Fault Refusal :=
  .next (conclude s (if s.mdc.mode == .config && ms 500 ≤ s.mdc.windowTime then (s.markExpired true).enterRun else s))

/-! ## RUN and RESTART (R189 to R192) -/

/-- RELIEF_TIME_EXPIRY (R189). -/
def execReliefTimeExpiry (s : State) : Host.Outcome State Fault Refusal :=
  .next (conclude s
    (if s.mdc.mode == .run && sec 120 ≤ s.mdc.reliefTime then
      { s with mdc := { s.mdc with restartCounter := s.mdc.restartCounter - 1, reliefTime := 0 } }
    else s))

/-- A brown-out onset (R190): reported, then answered as a counted cause. -/
def State.brownedOut (s : State) : State :=
  (({ s with mdc := { s.mdc with brownOut := true } } : State).report brownOutReport).countedCause

/-- BROWN_OUT (R190). -/
def execBrownOut (s : State) : Host.Outcome State Fault Refusal := .next (conclude s s.brownedOut)

/-- REINITIALISATION_COMPLETE (R192): the oscillator is stable and no brown-out stands; 50 ms must have passed (log
entry 45). -/
def execReinitialisationComplete (s : State) : Host.Outcome State Fault Refusal :=
  .next (conclude s
    (if s.mdc.mode == .restart && ms 50 ≤ s.mdc.reinitTime then
      ({ s with mdc := { s.mdc with refStable := true, brownOut := false } } : State).resumeRun
    else s))

/-- RESTART_TIMEOUT (R192). -/
def execRestartTimeout (s : State) : Host.Outcome State Fault Refusal :=
  .next (conclude s
    (if s.mdc.mode == .restart && sec 1 ≤ s.mdc.restartTimer then s.reportAndSafe restartTimeoutReport else s))

/-! ## WATCH and SAFE (R193, R195, R197) -/

/-- The wake hold time has reached 1 s, after a return from WATCH. -/
def State.wakeHoldOver (s : State) : Bool := s.mdc.woken && decide (sec 1 ≤ s.mdc.wakeHold)

/-- WAKE_HOLD_EXPIRY (R193): a pending request is judged again. -/
def execWakeHoldExpiry (s : State) : Host.Outcome State Fault Refusal :=
  .next (conclude s (if s.wakeHoldOver && s.requestsWatch then s.answerWatch else s))

/-- SAFE_DWELL_EXPIRY (R197). -/
def execSafeDwellExpiry (s : State) : Host.Outcome State Fault Refusal :=
  .next (conclude s
    (if s.mdc.mode == .safe && sec 2 ≤ s.mdc.dwellTime then { s with mdc := { s.mdc with dwellDone := true } } else s))

/-- The level of the key line. -/
def State.setKey (s : State) (k : Bool) : State := { s with mdc := { s.mdc with key := k } }

/-- A rising edge of the key line (R195, R197). -/
def State.keyRises (s : State) : State :=
  match s.mdc.mode with
  | .watch => (s.setKey true).wake false
  | .safe => if s.mdc.dwellDone && !s.frb.banks.anySevere then (s.setKey true).enterRestart else s.setKey true
  | .init => s.setKey true
  | .config => s.setKey true
  | .run => s.setKey true
  | .restart => s.setKey true

/-- KEY_LINE_EDGE (R195). -/
def execKeyLineEdge (s : State) : Host.Outcome State Fault Refusal := .next (conclude s s.keyRises)

/-- KEY_LINE_FALLING_EDGE (R73). -/
def execKeyLineFallingEdge (s : State) : Host.Outcome State Fault Refusal := .next (conclude s (s.setKey false))

end Sys2Proof.Machine
end

