-- ==== Sys2Proof/Machine/Dispatch.lean ====
section
/-! DEFINITION. One arm per command. -/

namespace Sys2Proof.Machine

def exec (i : Instr) (s : State) : Host.Outcome State Fault Refusal :=
  match i with
  | .powerOn num0 num1 num2 spring pol key => Sys2Proof.Machine.execPowerOn num0 num1 num2 spring pol key s
  | .initEnd => Sys2Proof.Machine.execInitEnd s
  | .clockFailure => Sys2Proof.Machine.execClockFailure s
  | .wheelSample sine cosine => Sys2Proof.Machine.execWheelSample sine cosine s
  | .noiseOverrun sine cosine => Sys2Proof.Machine.execNoiseOverrun sine cosine s
  | .amplitudeLoss sine cosine => Sys2Proof.Machine.execAmplitudeLoss sine cosine s
  | .cleanWindowRecovery sine cosine => Sys2Proof.Machine.execCleanWindowRecovery sine cosine s
  | .locked sine cosine => Sys2Proof.Machine.execLocked sine cosine s
  | .lockNotAchieved sine cosine => Sys2Proof.Machine.execLockNotAchieved sine cosine s
  | .stationaryAsserted sine cosine => Sys2Proof.Machine.execStationaryAsserted sine cosine s
  | .breachVelocityTimeExpiry sine cosine => Sys2Proof.Machine.execBreachVelocityTimeExpiry sine cosine s
  | .accelerometerReading reading => Sys2Proof.Machine.execAccelerometerReading reading s
  | .accelerometerWindowFault reading => Sys2Proof.Machine.execAccelerometerWindowFault reading s
  | .gradeDisagreement reading => Sys2Proof.Machine.execGradeDisagreement reading s
  | .loadReading millivolts => Sys2Proof.Machine.execLoadReading millivolts s
  | .loadInputFault millivolts => Sys2Proof.Machine.execLoadInputFault millivolts s
  | .declaration sender data => Sys2Proof.Machine.execDeclaration sender data s
  | .peerStale node => Sys2Proof.Machine.execPeerStale node s
  | .peerExpired node => Sys2Proof.Machine.execPeerExpired node s
  | .alert sender data => Sys2Proof.Machine.execAlert sender data s
  | .lastAlertRemoval node => Sys2Proof.Machine.execLastAlertRemoval node s
  | .cabStatus data => Sys2Proof.Machine.execCabStatus data s
  | .driveDemand data => Sys2Proof.Machine.execDriveDemand data s
  | .drumStatus data => Sys2Proof.Machine.execDrumStatus data s
  | .recordStale station => Sys2Proof.Machine.execRecordStale station s
  | .captureQualifyingExpiry => Sys2Proof.Machine.execCaptureQualifyingExpiry s
  | .captureSettleExpiry => Sys2Proof.Machine.execCaptureSettleExpiry s
  | .releaseRampStep => Sys2Proof.Machine.execReleaseRampStep s
  | .releaseTimeExpiry => Sys2Proof.Machine.execReleaseTimeExpiry s
  | .insufficiencyTimeExpiry => Sys2Proof.Machine.execInsufficiencyTimeExpiry s
  | .driverAbsentTimeExpiry => Sys2Proof.Machine.execDriverAbsentTimeExpiry s
  | .secureTimeExpiry => Sys2Proof.Machine.execSecureTimeExpiry s
  | .handoverSettleExpiry => Sys2Proof.Machine.execHandoverSettleExpiry s
  | .handoverRampStep => Sys2Proof.Machine.execHandoverRampStep s
  | .wakeHoldExpiry => Sys2Proof.Machine.execWakeHoldExpiry s
  | .pressureReading kPa => Sys2Proof.Machine.execPressureReading kPa s
  | .chamberSensorOutOfRange kPa => Sys2Proof.Machine.execChamberSensorOutOfRange kPa s
  | .settledReport kPa => Sys2Proof.Machine.execSettledReport kPa s
  | .applyTimeout kPa => Sys2Proof.Machine.execApplyTimeout kPa s
  | .ventTimeout kPa => Sys2Proof.Machine.execVentTimeout kPa s
  | .readbackSample hold apply vent => Sys2Proof.Machine.execReadbackSample hold apply vent s
  | .readbackMismatch hold apply vent => Sys2Proof.Machine.execReadbackMismatch hold apply vent s
  | .driveTimeExpiry => Sys2Proof.Machine.execDriveTimeExpiry s
  | .springReading kPa => Sys2Proof.Machine.execSpringReading kPa s
  | .springSensorOutOfRange kPa => Sys2Proof.Machine.execSpringSensorOutOfRange kPa s
  | .confirmTimeout => Sys2Proof.Machine.execConfirmTimeout s
  | .confirmLost kPa => Sys2Proof.Machine.execConfirmLost kPa s
  | .declarationTimerExpiry => Sys2Proof.Machine.execDeclarationTimerExpiry s
  | .frameOffer => Sys2Proof.Machine.execFrameOffer s
  | .arbitrationLost => Sys2Proof.Machine.execArbitrationLost s
  | .transmitError => Sys2Proof.Machine.execTransmitError s
  | .transmitSuccess => Sys2Proof.Machine.execTransmitSuccess s
  | .receiveError => Sys2Proof.Machine.execReceiveError s
  | .recessiveRun => Sys2Proof.Machine.execRecessiveRun s
  | .qualifyingDominantPhase => Sys2Proof.Machine.execQualifyingDominantPhase s
  | .rouseWindowExpiry => Sys2Proof.Machine.execRouseWindowExpiry s
  | .keyLineEdge => Sys2Proof.Machine.execKeyLineEdge s
  | .readStatus target data => Sys2Proof.Machine.execReadStatus target data s
  | .readBank target data => Sys2Proof.Machine.execReadBank target data s
  | .clearBank target data => Sys2Proof.Machine.execClearBank target data s
  | .clearAll target data => Sys2Proof.Machine.execClearAll target data s
  | .readPeer target data => Sys2Proof.Machine.execReadPeer target data s
  | .restart target data => Sys2Proof.Machine.execRestart target data s
  | .configureGroup data => Sys2Proof.Machine.execConfigureGroup data s
  | .configureClose data => Sys2Proof.Machine.execConfigureClose data s
  | .windowExpiry => Sys2Proof.Machine.execWindowExpiry s
  | .reliefTimeExpiry => Sys2Proof.Machine.execReliefTimeExpiry s
  | .brownOut => Sys2Proof.Machine.execBrownOut s
  | .reinitialisationComplete => Sys2Proof.Machine.execReinitialisationComplete s
  | .restartTimeout => Sys2Proof.Machine.execRestartTimeout s
  | .safeDwellExpiry => Sys2Proof.Machine.execSafeDwellExpiry s
  | .keyLineFallingEdge => Sys2Proof.Machine.execKeyLineFallingEdge s
  | .successfulReception => Sys2Proof.Machine.execSuccessfulReception s
  | .undefinedServiceCommand target data => Sys2Proof.Machine.execUndefinedServiceCommand target data s
  | .undefinedConfigureGroup data => Sys2Proof.Machine.execUndefinedConfigureGroup data s

end Sys2Proof.Machine
end

