-- ==== Sys2Proof/Safety.lean ====
section
/-! DEFINITION. The invariants of the node, block by block: what every step keeps from every state that has it. -/

namespace Sys2Proof.Machine

/-! ## Commands -/

/-- The command is a power-on, after which nothing of the state before is left (R184). -/
def powersOn : Instr → Bool
  | .powerOn .. => true
  | _ => false

/-- The commands that empty banks (R204), power-on among them. -/
def clears : Instr → Bool
  | .clearBank .. => true
  | .clearAll .. => true
  | .powerOn .. => true
  | _ => false

/-! ## WMT -/

/-- The corrections lie in their ranges (R8), φ lies within one cycle (R9), and position-valid goes with TRACKING (R15). -/
abbrev Wmt.ok (w : Wmt) : Prop :=
  (-200 ≤ w.sineOffset ∧ w.sineOffset ≤ 200) ∧ (-200 ≤ w.cosineOffset ∧ w.cosineOffset ≤ 200)
    ∧ (3277 ≤ w.gain ∧ w.gain ≤ 4915) ∧ w.phi < cycleUnits ∧ (w.positionValid = true ↔ w.signal = .tracking)

/-- The WMT in its ranges, at the 1 ms period in WATCH alone (R1, R20). -/
abbrev State.motionOk (s : State) : Prop := s.wmt.ok ∧ (s.wmt.slow = true ↔ s.mdc.mode = .watch)

/-! ## CSU, PVT and the levels -/

/-- Own level does not exceed node level, and node level does not exceed 4 (R36, R37); so stand the levels they are
merged from. -/
abbrev State.levelsOk (s : State) : Prop :=
  s.csu.ownLevel ≤ s.csu.nodeLevel ∧ s.csu.nodeLevel ≤ 4 ∧ (∀ e ∈ s.pvt.entries, e.decl.level ≤ 4)
    ∧ (∀ r ∈ s.hpc.resume, r.level ≤ 4)

/-- The entries stand in ascending order of node number, one to a node, for peers only (R60, R63). -/
abbrev State.tableOk (s : State) : Prop :=
  s.pvt.entries.Pairwise (fun e f => e.node < f.node)
    ∧ (∀ e ∈ s.pvt.entries, 1 ≤ e.node ∧ e.node ≤ 8 ∧ e.node ≠ s.number ∧ e.decl.load ≤ 2500)
    ∧ 1 ≤ s.number ∧ s.number ≤ 8

/-! ## HPC, CPR and PAD -/

/-- The release record stands in RELEASING and the handover record in SECURING alone; WATCH is SECURED, and the phase is
RELEASED until RUN. -/
abbrev State.phaseOk (s : State) : Prop :=
  (s.hpc.release.isSome = true ↔ s.hpc.phase = .releasing) ∧ (s.hpc.handover.isSome = true ↔ s.hpc.phase = .securing)
    ∧ (s.mdc.mode = .watch → s.hpc.phase = .secured) ∧ (s.mdc.mode = .init ∨ s.mdc.mode = .config → s.hpc.phase = .released)

/-- The CPR regulates in RUN in a hold phase alone, and otherwise drives pass-through with no operation (R128 to R131). -/
abbrev State.valvesOk (s : State) : Prop :=
  (s.cpr.regulating = true ↔ s.inHold = true) ∧ (s.cpr.valves = .passThrough ↔ s.cpr.regulating = false)
    ∧ (s.cpr.regulating = false → s.cpr.operation = none)

/-- The line stands as its requests give it (R149). -/
abbrev State.lineOk (s : State) : Prop := s.pad.asserted = s.pad.asked

/-! ## SGI -/

/-- The bus state goes with the counts (R177, R178). -/
abbrev Sgi.countsOk (g : Sgi) : Prop :=
  (g.bus = .active → g.txErrors < 128 ∧ g.rxErrors < 128)
    ∧ (g.bus = .passive → (128 ≤ g.txErrors ∨ 128 ≤ g.rxErrors) ∧ g.txErrors ≤ 255)
    ∧ g.txErrors ≤ 256 ∧ g.rxErrors ≤ 255

/-- The list stands in the order of identifiers with at most one frame of each kind but service replies, each under the
node's own identifier (R167, R173), and is empty in BUS OFF (R175) and outside CONFIG, RUN and SAFE, where the controller is
STOPPED (R175, R177). -/
abbrev State.listOk (s : State) : Prop :=
  s.sgi.list.Pairwise (fun f g => f.id ≤ g.id ∧ (f.kind = .reply ∨ f.kind ≠ g.kind))
    ∧ (∀ f ∈ s.sgi.list, f.id = frameId s.number f.kind)
    ∧ (s.controllerRuns = false → s.sgi.list = [] ∧ s.sgi.bus = .stopped)
    ∧ (s.sgi.bus = .off → s.sgi.list = [])

/-! ## MDC and FRB -/

/-- The ranges of the configuration table (chapter 10), with the 125 mm that a reconciled breach threshold may reach. -/
abbrev Settings.ok (c : Settings) : Prop :=
  (2 ≤ c.nExp ∧ c.nExp ≤ 8) ∧ (2400 ≤ c.circumference ∧ c.circumference ≤ 4000) ∧ (20 ≤ c.gain ∧ c.gain ≤ 400)
    ∧ (400 ≤ c.pMax ∧ c.pMax ≤ 900) ∧ c.pPush ≤ 100 ∧ (20 ≤ c.pStep ∧ c.pStep ≤ 150)
    ∧ (20 ≤ c.friction ∧ c.friction ≤ 90) ∧ (110 ≤ c.margin ∧ c.margin ≤ 200) ∧ c.drumMargin ≤ 50
    ∧ (30 ≤ c.tSec ∧ c.tSec ≤ 900) ∧ (5 ≤ c.noticeThreshold ∧ c.noticeThreshold ≤ 40)
    ∧ (10 ≤ c.escalateInterval ∧ c.escalateInterval ≤ 60) ∧ (40 ≤ c.breachThreshold ∧ c.breachThreshold ≤ 125)
    ∧ (20 ≤ c.breachVelocity ∧ c.breachVelocity ≤ 200) ∧ (2000 ≤ c.lUnk ∧ c.lUnk ≤ 15000)
    ∧ (1 ≤ c.restartLimit ∧ c.restartLimit ≤ 15)

/-- The settings lie in their ranges, a frozen set is reconciled, and the restart counter stays within its limit (R187 to
R190). -/
abbrev State.settingsOk (s : State) : Prop :=
  s.mdc.settings.ok
    ∧ (s.mdc.frozen = true → s.mdc.settings.noticeThreshold + s.mdc.settings.escalateInterval
        ≤ s.mdc.settings.breachThreshold)
    ∧ s.mdc.restartCounter ≤ s.mdc.settings.restartLimit
    ∧ (s.mdc.mode = .init ∨ s.windowOpen = true → s.mdc.restartCounter = 0)

/-- A severe record stands only with fault-response-active set (R201, R204). -/
abbrev State.faultsOk (s : State) : Prop := s.frb.banks.anySevere = true → s.frb.responseActive = true

/-! ## Frames -/

/-- The parts of the state that a frame speaks of: the twelve blocks and the queue. -/
inductive Block
  | wmt | csu | glu | pvt | vir | hal | hpc | cpr | pad | sgi | mdc | frb | queue
  deriving DecidableEq, Repr

/-- The HPC but for the three times that return to 0 at the moment they do not run (R101, R102, R114). -/
def Hpc.lasting (h : Hpc) : Hpc := { h with qualifyingTime := 0, driverAbsentTime := 0, insufficiencyTime := 0 }

/-- The MDC but for the WATCH request, which lapses at the moment its grounds are gone (R193). -/
def Mdc.lasting (m : Mdc) : Mdc := { m with watchRequest := none }

/-- A part of the state stands as it was. -/
def Block.same (s t : State) : Block → Prop
  | .wmt => t.wmt = s.wmt
  | .csu => t.csu = s.csu
  | .glu => t.glu = s.glu
  | .pvt => t.pvt = s.pvt
  | .vir => t.vir = s.vir
  | .hal => t.hal = s.hal
  | .hpc => t.hpc.lasting = s.hpc.lasting
  | .cpr => t.cpr = s.cpr
  | .pad => t.pad = s.pad
  | .sgi => t.sgi = s.sgi
  | .mdc => t.mdc.lasting = s.mdc.lasting
  | .frb => t.frb = s.frb
  | .queue => t.pending = s.pending

/-- Every part of the state but those listed stands as it was. -/
def State.keeps (s t : State) (but : List Block) : Prop := ∀ b, b ∉ but → b.same s t

/-! ## States in which nothing but the command acts -/

/-- No standing condition waits to be acted on, and none begins with a command that leaves mode, phase and drive demand
as they are: CONFIG; SAFE with the vehicle found stationary; RELEASED under drive demand with no lane going wrong. -/
abbrev State.steady (s : State) : Prop :=
  s.mdc.mode = .config ∨ (s.mdc.mode = .safe ∧ s.mdc.safeStationary = true)
    ∨ (s.inPhase .released = true ∧ s.demand.isSome = true ∧ s.free.laneFault = none)

/-- A hold in which nothing waits to be acted on: SECURED with service retained set, no drive-away, and no lane going
wrong. -/
abbrev State.retaining (s : State) : Prop :=
  s.inPhase .secured = true ∧ s.hpc.retained.isSome = true ∧ s.driveAway = false ∧ s.free.laneFault = none

/-- The driver sits at the wheel with the ignition on, so that no trigger of R113 stands as a condition. -/
abbrev State.attended (s : State) : Prop := s.ignition = true ∧ s.driverAbsent = false

/-- What makes a return from WATCH one into SECURED and nothing more: SECURED with its line standing, a value of
effective creep below the next Notice point, the lanes sound, and no drive-away. -/
abbrev State.wakes (s : State) : Prop :=
  s.mdc.mode = .watch ∧ s.hpc.phase = .secured ∧ s.lineOk ∧ s.pad.mdcRequest = false ∧ s.csu.effective.isSome = true
    ∧ s.csu.noticeReached s.mdc.settings = false ∧ s.free.laneFault = none ∧ s.driveAway = false

/-- In RELEASED with the lanes agreed, the result last delivered is the one of the inputs as they stand (R78, R94). -/
abbrev State.resultCurrent (s : State) : Prop :=
  s.inPhase .released = true → s.hal.lanes = .agreed → s.hal.result = s.laneResult

end Sys2Proof.Machine
end

