-- ==== Sys2Proof/Certificates/Slice0/Obligations.lean ====
section
/-! DEFINITION. The statements for the provers: one definition of a proposition per obligation. A docstring says what
the statement says; where a statement rests on a choice of the model it names the log entry. -/

open Sys2Proof Sys2Proof.Machine

/-- A step is exec of the command at the front of the queue. For every command c, list l and state s whose queue is
c followed by l: step at s is exec of c at s with the queue l, and a next state of it still has the queue l. The
queue is the model's own (log entry 1). -/
def Obligations.StepRunsFrontCommand : Prop :=
  ∀ (c : Instr) (l : List Instr) (s : State), s.pending = c :: l →
    step s = exec c (s.withPending l) ∧ ∀ t, exec c (s.withPending l) = .next t → t.pending = l

/-- The state after reset has every invariant. State.reset has the invariants of the blocks that the statements
StepKeeps... keep: ranges of the WMT, levels, peer table, phase records, valves, line, transmit list, counts,
settings and fault response. -/
def Obligations.ResetHasInvariants : Prop :=
  State.reset.motionOk ∧ State.reset.levelsOk ∧ State.reset.tableOk ∧ State.reset.phaseOk
    ∧ State.reset.valvesOk ∧ State.reset.lineOk ∧ State.reset.listOk ∧ State.reset.sgi.countsOk
      ∧ State.reset.settingsOk
    ∧ State.reset.faultsOk

/-- Every step keeps the ranges of the wheel motion tracker. From every state in which the corrections lie in their
clamps, φ lies within one cycle, position-valid goes with TRACKING and the 1 ms sample period goes with WATCH, every
step gives such a state. -/
def Obligations.StepKeepsMotion : Prop :=
  ∀ s t : State, s.motionOk → step s = .next t → t.motionOk

/-- Every step keeps own level at or below node level and node level in 0..4. From every state in which own level
does not exceed node level, node level does not exceed 4, and no peer entry and no resume record holds a level above
4, every step gives such a state. -/
def Obligations.StepKeepsLevels : Prop :=
  ∀ s t : State, s.levelsOk → step s = .next t → t.levelsOk

/-- Every step keeps the peer table in order, for peers only, with at most seven entries. From every state in which
the entries stand in strictly ascending order of node number, each for a number 1..8 other than the node's own and
with a load of at most 2,500 units, every step gives such a state; and such a table holds at most 7 entries. -/
def Obligations.StepKeepsTable : Prop :=
  (∀ s t : State, s.tableOk → step s = .next t → t.tableOk)
    ∧ ∀ s : State, s.tableOk → s.pvt.entries.length ≤ 7

/-- Every step keeps release and handover records in their phases, and WATCH in SECURED. From every state in which a
release record stands exactly in RELEASING, a handover record exactly in SECURING, the phase is SECURED in WATCH and
RELEASED in INIT and CONFIG, every step gives such a state. -/
def Obligations.StepKeepsPhaseRecords : Prop :=
  ∀ s t : State, s.phaseOk → step s = .next t → t.phaseOk

/-- Every step keeps the CPR REGULATING exactly in RUN in a hold phase. From every state in which the CPR is
REGULATING exactly in RUN in the phases CAPTURING, HOLDING, RELEASING, SECURING and SECURED, and drives pass-through
with no operation exactly when it is not, every step gives such a state. The premise phaseOk is kept by
StepKeepsPhaseRecords and holds at reset. -/
def Obligations.StepKeepsValves : Prop :=
  ∀ s t : State, s.phaseOk → s.valvesOk → step s = .next t → t.valvesOk

/-- Every step keeps the Park-Apply line as its two requests give it. From every state in which the line is asserted
exactly when the HPC request or the MDC request is ASSERT, every step gives such a state. -/
def Obligations.StepKeepsLine : Prop :=
  ∀ s t : State, s.lineOk → step s = .next t → t.lineOk

/-- Every step keeps the transmit list in order and the bus state with its counts. From every state whose transmit
list stands in order of identifier with at most one Rouse, Alert and Declaration, each frame under the node's own
identifier, empty in BUS OFF and, with the controller STOPPED, outside CONFIG, RUN and SAFE, and whose bus state
goes with the error counts, every step gives such a state. -/
def Obligations.StepKeepsTransmitList : Prop :=
  ∀ s t : State, s.listOk → s.sgi.countsOk → step s = .next t → t.listOk ∧ t.sgi.countsOk

/-- Every step keeps the settings in their ranges and the restart counter within its limit. From every state whose
settings lie in the ranges of the configuration table, whose frozen set is reconciled, and whose restart counter is
at most the restart limit (0 in INIT and in the open window), every step gives such a state. -/
def Obligations.StepKeepsSettings : Prop :=
  ∀ s t : State, s.settingsOk → step s = .next t → t.settingsOk

/-- Every step keeps fault-response-active set while a severe record stands. From every state in which a bank holds
a severe record only with fault-response-active set, every step gives such a state. -/
def Obligations.StepKeepsFaultResponse : Prop :=
  ∀ s t : State, s.faultsOk → step s = .next t → t.faultsOk

/-- A severe record stays until a clear or power-on, and its overflow mark is never cleared. For every command but
CLEAR BANK, CLEAR ALL and POWER_ON: a bank that holds a severe record still holds it in the next state, with every
field but overflow as it was, and overflow set if it was set. -/
def Obligations.SevereRecordStays : Prop :=
  ∀ (c : Instr) (s t : State) (k : Bank) (r : FaultRecord), clears c = false → exec c s = .next t →
    s.frb.banks.get k = some r → r.severity = .severe →
    ∃ q, t.frb.banks.get k = some q ∧ { q with overflow := r.overflow } = r ∧ (r.overflow = true → q.overflow = true)

/-- No command but power-on changes a frozen set of settings or the latched straps. For every command but POWER_ON:
the straps stay as latched; and once the set is frozen, the set, its written flags and the freeze stay as they are.
-/
def Obligations.FrozenSettingsStay : Prop :=
  ∀ (c : Instr) (s t : State), powersOn c = false → s.settingsOk → exec c s = .next t →
    t.mdc.straps = s.mdc.straps
    ∧ (s.mdc.frozen = true → t.mdc.frozen = true ∧ t.mdc.settings = s.mdc.settings ∧ t.mdc.written = s.mdc.written)

/-- INIT is never entered again, CONFIG follows INIT alone, and SAFE is left by the key line alone. For every
command but POWER_ON: a next state is in INIT only from INIT and in CONFIG only from INIT or CONFIG; and a command
that leaves SAFE is a rising edge of the key line. -/
def Obligations.ModesFollowTheirOrder : Prop :=
  ∀ (c : Instr) (s t : State), powersOn c = false → exec c s = .next t →
    (t.mdc.mode = .init → s.mdc.mode = .init)
    ∧ (t.mdc.mode = .config → s.mdc.mode = .init ∨ s.mdc.mode = .config)
    ∧ (s.mdc.mode = .safe → t.mdc.mode ≠ .safe → c = .keyLineEdge)

/-- Stages 4 and 5: required force, traction limit, brake limit and own capacity. F_req is the least whole number of
newtons at or above m × |G| × 981 × M_eff / 10,000,000, capped at 2,000,000, with |G| 250 under DEFAULT, 0 at G = 0,
and at most 1,962,000 within the ranges. T is the greatest whole number at or below L_own × 981 × µ / 10,000 and B
is K × (P_max − P_push); C_own is the smaller unless forced to 0; the bounds of R82 hold for settings in their
ranges; B stays as it is from the end of CONFIG. -/
def Obligations.ForceAndCapacityRule : Prop :=
  (∀ s : State, ∃ f, IsLeast {n : Nat | s.glu.mass * s.glu.gradeMagnitude * 981 * s.hal.margin ≤ n * 10000000} f
      ∧ s.laneResult.fReq = min 2000000 f
      ∧ (s.glu.mass ≤ 200000 → s.glu.gradeMagnitude ≤ 400 → s.hal.margin ≤ 250 → f ≤ 1962000)
      ∧ (s.glu.gradeStatus = .default → s.glu.gradeMagnitude = 250)
      ∧ (s.glu.gradeStatus ≠ .default → s.glu.gradeMagnitude = s.glu.vehicleGrade.natAbs)
      ∧ (s.glu.gradeMagnitude = 0 → s.laneResult.fReq = 0))
    ∧ (∀ s : State, s.mdc.settings.ok →
      IsGreatest {n : Nat | n * 10000 ≤ s.glu.ownLoad * 981 * s.mdc.settings.friction} s.laneResult.traction
      ∧ s.laneResult.brake + s.mdc.settings.gain * s.mdc.settings.pPush = s.mdc.settings.gain * s.mdc.settings.pMax
      ∧ 6000 ≤ s.laneResult.brake ∧ s.laneResult.brake ≤ 360000
      ∧ (s.capacityForced = true → s.laneResult.cOwn = 0)
      ∧ (s.capacityForced = false → s.laneResult.cOwn = min s.laneResult.traction s.laneResult.brake)
      ∧ (s.glu.ownLoad ≤ 25000 → s.laneResult.traction ≤ 220725 ∧ s.laneResult.cOwn ≤ 220725))
    ∧ ∀ (c : Instr) (s t : State), powersOn c = false → s.settingsOk → s.mdc.frozen = true → exec c s = .next t →
      t.laneResult.brake = s.laneResult.brake

/-- Stages 6 and 7: the capacity sum, the own share and the insufficiency flag. ΣC is the own capacity plus ten
times the declared capacity of every entry that is not expired; a passing from fresh to stale leaves it, a passing
to expired takes the entry's part from it, and an empty table leaves C_own. S is 0 with the flag set when ΣC is 0,
otherwise min(C_own, ceiling(F_req × C_own / ΣC)) with the flag set exactly when F_req exceeds ΣC; the share is at
most C_own, equals it when insufficient, and is 0 with C_own 0. -/
def Obligations.CapacitySumAndShareRule : Prop :=
  (∀ (own : Nat) (l : List PeerEntry),
      capacitySum own l = own + 10 * ((l.filter (fun e => e.freshness != .expired)).map (fun e =>
        e.decl.capacity)).sum)
    ∧ (∀ own : Nat, capacitySum own [] = own)
    ∧ (∀ (own n : Nat) (p : Pvt), (∀ e ∈ p.entries, e.node = n → e.freshness = .fresh) →
      capacitySum own (p.setFreshness n .stale).entries = capacitySum own p.entries)
    ∧ (∀ (own n : Nat) (p : Pvt), (∀ e ∈ p.entries, e.node = n → e.freshness = .stale) →
      capacitySum own (p.setFreshness n .expired).entries
        + 10 * ((p.entries.filter (fun e => e.node == n)).map (fun e => e.decl.capacity)).sum
        = capacitySum own p.entries)
    ∧ ∀ s : State,
      s.laneResult.sumC = capacitySum s.laneResult.cOwn s.pvt.entries
      ∧ (s.laneResult.sumC = 0 → s.laneResult.share = 0 ∧ s.laneResult.insufficient = true)
      ∧ (0 < s.laneResult.sumC →
        (∃ q, IsLeast {n : Nat | s.laneResult.fReq * s.laneResult.cOwn ≤ n * s.laneResult.sumC} q
          ∧ s.laneResult.share = min s.laneResult.cOwn q)
        ∧ (s.laneResult.insufficient = true ↔ s.laneResult.sumC < s.laneResult.fReq))
      ∧ s.laneResult.share ≤ s.laneResult.cOwn
      ∧ (s.laneResult.sumC < s.laneResult.fReq → s.laneResult.share = s.laneResult.cOwn)
      ∧ (s.laneResult.cOwn = 0 → s.laneResult.share = 0)

/-- Stage 8: the computed pressure. P_calc is min(P_max, max(P_cap, base + level × P_step)), with the base P_push +
ceiling(S / K) for a share above 0 and 0 for a share of 0, and P_cap 0 outside an episode. For settings in their
ranges the base never exceeds P_max, and a share of 0 still computes at least the captured pressure, raised by the
steps from 0. -/
def Obligations.PressureRule : Prop :=
  ∀ s : State, s.mdc.settings.ok →
    ∃ base, s.laneResult.pCalc
        = min s.mdc.settings.pMax (max (s.hpc.pCap.getD 0) (base + s.csu.nodeLevel * s.mdc.settings.pStep))
      ∧ (s.laneResult.share = 0 → base = 0)
      ∧ (0 < s.laneResult.share → ∃ q, base = s.mdc.settings.pPush + q
        ∧ IsLeast {n : Nat | s.laneResult.share ≤ n * s.mdc.settings.gain} q)
      ∧ base ≤ s.mdc.settings.pMax
      ∧ s.laneResult.pCalc ≤ s.mdc.settings.pMax
      ∧ (s.hpc.pCap = none → s.hpc.pCap.getD 0 = 0)
      ∧ (s.hpc.pCap.getD 0 ≤ s.mdc.settings.pMax → s.hpc.pCap.getD 0 ≤ s.laneResult.pCalc)
      ∧ min s.mdc.settings.pMax (s.csu.nodeLevel * s.mdc.settings.pStep) ≤ s.laneResult.pCalc

/-- Stage 10: the weight component, the remaining hold, the release share and the release pressure. F_grav is the
least whole number at or above m × |G| × 981 / 100,000, at most 784,800 in range. Without drive demand the release
is unavailable; with an uphill gear R is F_grav less the force, not below 0; with any other gear R is 0. S_rel is 0
with ΣC 0, else min(C_own, ceiling(R × M_eff × C_own / (100 × ΣC))); P_rel is 0 for a share of 0, else P_push +
ceiling(S_rel / K), and at most P_max for settings in their ranges. -/
def Obligations.ReleaseRule : Prop :=
  ∀ s : State, s.mdc.settings.ok →
    IsLeast {n : Nat | s.glu.mass * s.glu.gradeMagnitude * 981 ≤ n * 100000} s.laneResult.fGrav
    ∧ (s.glu.mass ≤ 200000 → s.glu.gradeMagnitude ≤ 400 → s.laneResult.fGrav ≤ 784800)
    ∧ (s.demand = none → s.laneResult.release = none)
    ∧ ∀ gear force, s.demand = some (gear, force) → ∃ x, s.laneResult.release = some x
      ∧ (s.glu.uphill gear = true → x.remaining = s.laneResult.fGrav - force)
      ∧ (s.glu.uphill gear = false → x.remaining = 0)
      ∧ (s.laneResult.sumC = 0 → x.share = 0)
      ∧ (0 < s.laneResult.sumC →
        ∃ q, IsLeast {n : Nat | x.remaining * s.hal.margin * s.laneResult.cOwn ≤ n * (100 * s.laneResult.sumC)} q
          ∧ x.share = min s.laneResult.cOwn q)
      ∧ (x.share = 0 → x.pressure = 0)
      ∧ (0 < x.share → ∃ q, x.pressure = s.mdc.settings.pPush + q
        ∧ IsLeast {n : Nat | x.share ≤ n * s.mdc.settings.gain} q)
      ∧ x.pressure ≤ s.mdc.settings.pMax

/-- The vehicle grade is the median of the candidates, the steeper of two middle values, else held or 250. With no
candidate the vehicle grade is 250 with status DEFAULT if none was formed since power-on, else the present value
with status HELD. With candidates the status is FORMED and the value is, in their ascending order, the middle one of
an odd number, and of an even number the one of the two middle values with the larger magnitude, the positive one on
equal magnitudes. Under DEFAULT both directions are downhill and no gear is uphill. -/
def Obligations.VehicleGradeRule : Prop :=
  ∀ (g : Glu) (entries : List PeerEntry),
    (g.candidates entries = [] → g.gradeStatus = .default →
      (g.chooseGrade entries).vehicleGrade = 250 ∧ (g.chooseGrade entries).gradeStatus = .default)
    ∧ (g.candidates entries = [] → g.gradeStatus ≠ .default →
      (g.chooseGrade entries).vehicleGrade = g.vehicleGrade ∧ (g.chooseGrade entries).gradeStatus = .held)
    ∧ (g.candidates entries ≠ [] → (g.chooseGrade entries).gradeStatus = .formed
      ∧ ∃ m : List Int, m.Perm (g.candidates entries) ∧ m.Pairwise (· ≤ ·)
        ∧ (m.length % 2 = 1 → m[m.length / 2]? = some (g.chooseGrade entries).vehicleGrade)
        ∧ (m.length % 2 = 0 → ∃ a b, m[m.length / 2 - 1]? = some a ∧ m[m.length / 2]? = some b
          ∧ (b.natAbs < a.natAbs → (g.chooseGrade entries).vehicleGrade = a)
          ∧ (a.natAbs < b.natAbs → (g.chooseGrade entries).vehicleGrade = b)
          ∧ (a.natAbs = b.natAbs → (g.chooseGrade entries).vehicleGrade = max a b)))
    ∧ (g.gradeStatus = .default → (∀ x : Int, g.downhill x = x.natAbs) ∧ ∀ gear, g.uphill gear = false)

/-- A recomputation delivers both lanes' result, and the phase decides what the delivery does. In RUN with the lanes
agreed and none going wrong, a recomputation makes the lanes' result the HAL's state and hands it to the HPC. In
CAPTURING and HOLDING the ratchet makes P_hold the larger of P_hold and P_calc, and a raised P_hold is the target;
in RELEASING an available release result makes the ramp goal the smaller of target and P_rel; in SECURED a retained
target rises to a greater P_calc; P_hold stays in every phase but the first two. Outside RUN or with the lanes
mismatched no recomputation is made. -/
def Obligations.RecomputationDelivers : Prop :=
  (∀ s : State,
    s.mdc.mode = .run →
    s.hal.lanes = .agreed →
    s.free.laneFault = none →
    s.halRecompute.hal.result = s.laneResult
    ∧ s.halRecompute.hpc.last = deliveryOf s.laneResult
    ∧ s.halRecompute.hal.margin = s.hal.margin
    ∧ s.halRecompute.hal.lanes = .agreed
    ∧ s.halRecompute.mdc = s.mdc
    ∧ s.halRecompute.hpc.phase = s.hpc.phase
    ∧ (s.hpc.phase = .capturing ∨ s.hpc.phase = .holding
      → s.halRecompute.hpc.pHold = max s.hpc.pHold s.laneResult.pCalc)
    ∧ (s.hpc.phase = .capturing ∨ s.hpc.phase = .holding → s.hpc.pHold < s.laneResult.pCalc
      → s.halRecompute.cpr.target = min s.mdc.settings.pMax s.laneResult.pCalc)
    ∧ (s.hpc.phase = .capturing ∨ s.hpc.phase = .holding → s.laneResult.pCalc ≤ s.hpc.pHold
      → s.halRecompute.cpr = s.cpr)
    ∧ (s.hpc.phase ≠ .capturing → s.hpc.phase ≠ .holding → s.halRecompute.hpc.pHold = s.hpc.pHold)
    ∧ (s.hpc.phase = .releasing → s.halRecompute.cpr = s.cpr ∧ ∀ r p, s.hpc.release = some r
      → (deliveryOf s.laneResult).release = some p
        → s.halRecompute.hpc.release = some { r with goal := min s.cpr.target p })
    ∧ (s.hpc.phase = .secured → s.halRecompute.hpc.retained = s.hpc.retained.map (fun x => max x s.laneResult.pCalc))
    ∧ (s.hpc.phase = .released ∨ s.hpc.phase = .securing → s.halRecompute.cpr = s.cpr)
    ∧ (s.halRecompute.csu = s.csu ∧ s.halRecompute.glu = s.glu ∧ s.halRecompute.pvt = s.pvt
      ∧ s.halRecompute.frb = s.frb ∧ s.halRecompute.sgi = s.sgi ∧ s.halRecompute.pad = s.pad))
  ∧ (∀ s : State,
    (s.mdc.mode ≠ .run ∨ s.hal.lanes = .mismatched) →
    s.halRecompute = s)

/-- A lane mismatch withholds its result and takes the node to RESTART, or to SAFE at the restart limit. In RUN with
the lanes agreed, when a lane makes another result than the other: the result last delivered and the delivery kept
stay; with the counter below the limit it rises by one and the node is in RESTART, else the node is in SAFE with the
counter as it was; and an empty NODE bank holds the degraded record of the mismatch, or at the limit the severe one.
Premise for RESTART: the assertion of the line does not time out at once (R153). That a lane goes wrong is a free
value (log entry 31), that the record carries the activity of the phase before the restart cause is answered is the
model's (log entry 32), and that the delivery kept by the HPC stays across the entry to RESTART too is the model's
reading of R97 and R125, which do not name it among what RESTART clears (log entry 46). -/
def Obligations.LaneMismatchRestarts : Prop :=
  (∀ (s : State) (f : LaneFault),
    s.mdc.mode = .run →
    s.hal.lanes = .agreed →
    s.free.laneFault = some f →
    f.after = 0 →
    f.result ≠ s.laneResult →
    s.frb.banks.node = none →
    s.pad.sensor ≠ .outOfRange →
    s.mdc.restartCounter < s.mdc.settings.restartLimit →
    s.halRecompute.mdc.mode = .restart
    ∧ s.halRecompute.mdc.restartCounter = s.mdc.restartCounter + 1
    ∧ s.halRecompute.hal.result = s.hal.result
    ∧ s.halRecompute.hpc.last = s.hpc.last
    ∧ s.halRecompute.frb.banks.node = some (s.complete laneReport)
    ∧ s.halRecompute.frb.responseActive = s.frb.responseActive)
  ∧ (∀ (s : State) (f : LaneFault),
    s.mdc.mode = .run →
    s.hal.lanes = .agreed →
    s.free.laneFault = some f →
    f.after = 0 →
    f.result ≠ s.laneResult →
    s.frb.banks.node = none →
    s.mdc.settings.restartLimit ≤ s.mdc.restartCounter →
    s.halRecompute.mdc.mode = .safe
    ∧ s.halRecompute.mdc.restartCounter = s.mdc.restartCounter
    ∧ s.halRecompute.hal.result = s.hal.result
    ∧ s.halRecompute.hpc.last = s.hpc.last
    ∧ s.halRecompute.frb.responseActive = true
    ∧ s.halRecompute.frb.banks.node.map (fun r => (r.severity, r.cls, r.overflow)) = some (.severe, .consistency,
      true))

/-- What a report leaves in its bank. A report to an empty bank is written with overflow clear. A severe record is
kept, with overflow set. Another record gives way, with overflow set, to a severe report, and to any other only when
it is unreported and of equal or lower severity; otherwise it is kept with overflow set. The other banks stay. Of a
severe and another report to a bank without a severe record, in either order, the severe one stays with overflow
set; of two severe ones, the one taken first. -/
def Obligations.OverwriteRule : Prop :=
  (∀ (s : State) (r : Report),
      (∀ k, k ≠ r.bank → (s.storeReport r).frb.banks.get k = s.frb.banks.get k)
      ∧ (s.frb.banks.get r.bank = none →
        (s.storeReport r).frb.banks.get r.bank = some { s.complete r with overflow := false })
      ∧ ∀ h, s.frb.banks.get r.bank = some h →
        (h.severity = .severe → (s.storeReport r).frb.banks.get r.bank = some { h with overflow := true })
        ∧ (h.severity ≠ .severe → r.severity = .severe →
          (s.storeReport r).frb.banks.get r.bank = some { s.complete r with overflow := true })
        ∧ (h.severity ≠ .severe → r.severity ≠ .severe → h.reported = false →
          severityRank h.severity ≤ severityRank r.severity →
          (s.storeReport r).frb.banks.get r.bank = some { s.complete r with overflow := true })
        ∧ (h.severity ≠ .severe → r.severity ≠ .severe →
          h.reported = true ∨ severityRank r.severity < severityRank h.severity →
          (s.storeReport r).frb.banks.get r.bank = some { h with overflow := true }))
    ∧ (∀ (s : State) (a b : Report), a.bank = b.bank → a.severity = .severe → b.severity ≠ .severe →
      (∀ h, s.frb.banks.get a.bank = some h → h.severity ≠ .severe) →
      ((s.storeReport a).storeReport b).frb.banks.get a.bank = some { s.complete a with overflow := true }
      ∧ ((s.storeReport b).storeReport a).frb.banks.get a.bank = some { s.complete a with overflow := true })
    ∧ ∀ (s : State) (a b : Report), a.bank = b.bank → a.severity = .severe → b.severity = .severe →
      (∀ h, s.frb.banks.get a.bank = some h → h.severity ≠ .severe) →
      ((s.storeReport a).storeReport b).frb.banks.get a.bank = some { s.complete a with overflow := true }

/-- A severe report sets fault-response-active, and with the flag set takes the node to SAFE. In every state a
severe report leaves fault-response-active set. With the flag already set the node is in SAFE after it, or, in INIT,
keeps the pending SAFE cause; with the flag clear and no lane going wrong the mode stays. An advisory or degraded
report leaves the flag, and with no lane going wrong the mode. -/
def Obligations.SevereReportResponse : Prop :=
  (∀ (s : State) (r : Report),
    r.severity = .severe →
    (s.report r).frb.responseActive = true
    ∧ (s.frb.responseActive = true → s.mdc.mode ≠ .init → (s.report r).mdc.mode = .safe)
    ∧ (s.frb.responseActive = true → s.mdc.mode = .init → (s.report r).mdc.mode = .init
      ∧ (s.report r).mdc.pendingSafe = true)
    ∧ (s.frb.responseActive = false → s.free.laneFault = none → (s.report r).mdc.mode = s.mdc.mode))
  ∧ (∀ (s : State) (r : Report),
    r.severity ≠ .severe →
    s.free.laneFault = none →
    (s.report r).frb.responseActive = s.frb.responseActive
    ∧ (s.report r).mdc.mode = s.mdc.mode)

/-- Own creep is read against the anchor and re-anchored after an outage; effective creep is its largest with the
creeps of fresh holding peers. A recomputation makes effective creep the largest of the valid own creep and the
declared creep of every fresh entry in a hold phase with creep-valid set; the value becomes the last effective creep
and ends the blind flag. With no value present effective creep is blind, and the last effective creep stays. At a
sample with the position valid and an anchor held, own creep is the offset plus the displacement modulo 2³², in
millimetres truncated toward zero, read downhill (its magnitude under a flat or DEFAULT grade). Without a valid
position own creep is invalid. At the gap indication the anchor is the position, the offset and own creep the last
valid own creep, and the creep-gap flag is set; so a pending anchor is held at the first valid position, at its
offset. The advisory is reported at the first setting of the flag alone. -/
def Obligations.EffectiveCreepRule : Prop :=
  (∀ (u : Csu) (entries : List PeerEntry),
    (∀ x, (u.recompute entries).effective = some x ↔ IsGreatest {y : Int | (u.ownValid = true ∧ y = u.own)
      ∨ ∃ e ∈ entries, e.freshness = .fresh ∧ e.decl.phase.isHold = true ∧ e.decl.creepValid = true
        ∧ y = e.decl.creep} x)
    ∧ (∀ x, (u.recompute entries).effective = some x →
      (u.recompute entries).lastEffective = x ∧ (u.recompute entries).blind = false)
    ∧ ((u.recompute entries).effective = none →
      (u.recompute entries).lastEffective = u.lastEffective ∧ (u.recompute entries).blind = u.blind))
    ∧ (∀ (u : Csu) (w : Wmt) (g : Glu) (k : Settings) (gap : Bool),
      (u.anchor = .absent → u.sampleCreep w g k gap = u)
      ∧ (u.anchor = .pending → w.positionValid = false → u.sampleCreep w g k gap = u)
      ∧ (u.anchor = .pending → w.positionValid = true → u.sampleCreep w g k gap
        = { u with anchor := .held w.position, creepGap := true, own := u.offset, ownValid := true, lastValidOwn := u.offset })
      ∧ ∀ o, u.anchor = .held o →
        (w.positionValid = false → u.sampleCreep w g k gap = { u with ownValid := false })
        ∧ (w.positionValid = true → gap = true → u.sampleCreep w g k gap
          = { u with anchor := .held w.position, offset := u.lastValidOwn, creepGap := true, own := u.lastValidOwn
                     ownValid := true })
        ∧ (w.positionValid = true → gap = false →
          let x : Int := Int.tdiv ((w.position - o).toInt * k.circumference) 196608
          let d : Int := if g.gradeStatus = .default ∨ g.vehicleGrade.natAbs < 20 then x.natAbs
            else if 0 < g.vehicleGrade then -x else x
          u.sampleCreep w g k gap = { u with own := u.offset + d, ownValid := true, lastValidOwn := u.offset + d }))
    ∧ ∀ (s : State) (before : Bool), s.gapReport before
      = if s.csu.creepGap = true ∧ before = false then s.report creepGapReport else s

/-- Notice is latched, escalation raises own level by the points passed, a breach by distance and a blind onset make
both levels 4. In RUN in a hold phase, with effective creep e and no lane going wrong: the test leaves the next
point above e, moved on by n intervals, where n is 0 if e is below the point and otherwise the least number that
moves it past e; own level rises by n to at most 4, and at a change node level becomes the largest of itself, own
level and the levels of fresh peers in hold phases. Notice is reached in RUN in a hold phase, Notice clear, at the
base plus the threshold: in CAPTURING and HOLDING it is latched alone; in SETTLE or RAMP it finds the spring
insufficient: own level one up, the SPRING degraded record, SECURED with the pre-handover P_hold retained as target.
The record there shows SECURING, being made before SECURED is entered, which is the model's reading (log entry 36).
A breach by distance, in any hold phase with Breach clear, at the threshold latches Breach, makes both levels 4 and
places the Alert; it takes CAPTURING and HOLDING with handover failed clear, and RELEASING, to SECURING, leaves them
with handover failed, leaves CONFIRM and WAIT, takes SETTLE and RAMP to SECURED with service retained, and in
SECURED leaves the phase with service retained. Effective creep losing its last value in a hold phase with an
anchor, or found blind at an entry into CAPTURING, a pending anchor counted too (the model's reading, log entry 19),
sets blind, makes both levels 4 and reports SENSE severe, without tests; it takes CAPTURING and HOLDING with
handover failed clear, and RELEASING, to SECURING, and leaves SECURING, SECURED, and HOLDING with handover failed.
-/
def Obligations.EscalationRule : Prop :=
  (∀ (s : State) (e : Int),
    s.inHold = true →
    s.csu.effective = some e →
    0 < s.mdc.settings.escalateInterval →
    s.csu.ownLevel ≤ 4 →
    s.free.laneFault = none →
    (∃ n : Nat, s.escalationTest.csu.nextPoint = s.csu.nextPoint + n * s.mdc.settings.escalateInterval
      ∧ e < s.escalationTest.csu.nextPoint ∧ (0 < n
        → s.escalationTest.csu.nextPoint - s.mdc.settings.escalateInterval ≤ e)
          ∧ s.escalationTest.csu.ownLevel = min 4 (s.csu.ownLevel + n))
    ∧ (s.escalationTest.csu.ownLevel = s.csu.ownLevel → s.escalationTest.csu.nodeLevel = s.csu.nodeLevel)
    ∧ (s.escalationTest.csu.ownLevel ≠ s.csu.ownLevel
      → s.escalationTest.csu.nodeLevel = max (max s.csu.nodeLevel s.escalationTest.csu.ownLevel) (peerLevel
        s.pvt.entries)))
  ∧ (∀ (s : State) (e : Int),
    s.inHold = true →
    s.csu.effective = some e →
    (s.csu.notice = true ∨ e < s.csu.noticeBase + s.mdc.settings.noticeThreshold → s.noticeTest = s)
    ∧ (s.csu.breach = true ∨ e < s.mdc.settings.breachThreshold → s.breachTest = s)
    ∧ (s.csu.notice = false → s.csu.noticeBase + s.mdc.settings.noticeThreshold ≤ e → s.hpc.phase = .capturing
      ∨ s.hpc.phase = .holding → s.noticeTest = { s with csu := { s.csu with notice := true } }))
  ∧ (∀ (s : State) (e : Int) (h : HandoverRecord),
    s.inPhase .securing = true →
    s.csu.effective = some e →
    s.csu.notice = false →
    s.csu.noticeBase + s.mdc.settings.noticeThreshold ≤ e →
    s.hpc.handover = some h →
    (h.stage = .settle ∨ h.stage = .ramp) →
    s.csu.ownLevel ≤ 4 →
    s.free.laneFault = none →
    (s.noticeTest.inPhase .secured = true ∧ s.noticeTest.hpc.handover = none
      ∧ s.noticeTest.hpc.retained = some h.preHold ∧ s.noticeTest.cpr.target = min s.mdc.settings.pMax h.preHold)
    ∧ (s.noticeTest.csu.ownLevel = min 4 (s.csu.ownLevel + 1) ∧ s.noticeTest.csu.notice = false
      ∧ s.noticeTest.csu.noticeBase = max 0 e)
    ∧ s.noticeTest.frb = { s.frb with banks := s.frb.banks.store .spring (s.complete springInsufficientReport) }
    ∧ s.noticeTest.pad = s.pad)
  ∧ (∀ (s : State) (e : Int),
    s.inHold = true →
    s.csu.effective = some e →
    s.csu.breach = false →
    s.mdc.settings.breachThreshold ≤ e →
    s.free.laneFault = none →
    (s.breachTest.csu.breach = true ∧ s.breachTest.csu.ownLevel = 4 ∧ s.breachTest.csu.nodeLevel = 4)
    ∧ (s.sgi.bus ≠ .off → ∃ f ∈ s.breachTest.sgi.list, f.kind = .alert
      ∧ f.data = encodeAlert .breach 4 s.csu.alertCreep)
    ∧ (s.hpc.phase = .secured → s.breachTest.inPhase .secured = true ∧ s.breachTest.hpc.retained.isSome = true)
    ∧ (s.hpc.phase = .capturing ∨ s.hpc.phase = .holding → s.hpc.handoverFailed = false → s.spring = false
      ∨ s.pad.sensor ≠ .outOfRange → s.breachTest.inPhase .securing = true ∧ s.breachTest.pad.hpcRequest = .assert)
    ∧ (s.hpc.phase = .capturing ∨ s.hpc.phase = .holding → s.hpc.handoverFailed = true
      → s.breachTest.hpc.phase = s.hpc.phase)
    ∧ (s.hpc.phase = .releasing → s.spring = false ∨ s.pad.sensor ≠ .outOfRange
      → s.breachTest.inPhase .securing = true ∧ s.breachTest.pad.hpcRequest = .assert)
    ∧ (s.hpc.phase = .securing → ∀ h, s.hpc.handover = some h → (h.stage = .confirm ∨ h.stage = .wait
      → s.breachTest.inPhase .securing = true ∧ s.breachTest.hpc.handover = some h) ∧ (h.stage = .settle
        ∨ h.stage = .ramp → s.breachTest.inPhase .secured = true ∧ s.breachTest.hpc.retained = some h.preHold)))
  ∧ (∀ (s : State) (entry : Bool),
    s.inHold = true →
    s.csu.anchor ≠ .absent →
    (s.csu.effective.isSome = true ∨ entry = true) →
    s.csu.ownValid = false →
    (∀ p ∈ s.pvt.entries, p.freshness = .fresh → p.decl.phase.isHold = true → p.decl.creepValid = false) →
    s.frb.responseActive = false →
    s.pad.sensor ≠ .outOfRange →
    s.free.laneFault = none →
    ((s.creepRecompute entry).csu.blind = true ∧ (s.creepRecompute entry).csu.effective = none
      ∧ (s.creepRecompute entry).csu.lastEffective = s.csu.lastEffective)
    ∧ ((s.creepRecompute entry).csu.ownLevel = 4 ∧ (s.creepRecompute entry).csu.nodeLevel = 4
      ∧ (s.creepRecompute entry).csu.breach = s.csu.breach)
    ∧ (s.hpc.phase = .secured ∨ s.hpc.phase = .securing
      → (s.creepRecompute entry).frb =
        { banks := s.frb.banks.store .sense (s.complete blindReport), responseActive := true }
          ∧ (s.creepRecompute entry).inPhase s.hpc.phase = true
            ∧ (s.creepRecompute entry).hpc.handover = s.hpc.handover)
    ∧ (s.hpc.phase = .capturing ∨ s.hpc.phase = .holding → s.hpc.handoverFailed = false
      → (s.creepRecompute entry).inPhase .securing = true ∧ (s.creepRecompute entry).pad.hpcRequest = .assert)
    ∧ (s.hpc.phase = .capturing ∨ s.hpc.phase = .holding → s.hpc.handoverFailed = true
      → (s.creepRecompute entry).inPhase s.hpc.phase = true)
    ∧ (s.hpc.phase = .releasing → (s.creepRecompute entry).inPhase .securing = true
      ∧ (s.creepRecompute entry).pad.hpcRequest = .assert)
    ∧ (s.frb.banks.sense = none → (s.creepRecompute entry).frb.banks.sense.map (fun r => (r.severity, r.cls,
      r.element)) = some (.severe, .signal, some .creep) ∧ (s.creepRecompute entry).frb.responseActive = true))

/-- POWER_ON latches the straps and puts every block in its initial state, the withdraw drive begun on a
spring-fitted node. POWER_ON answers a next state in INIT for every reading of the pins: node number NUM + 1 in
1..8, SPRING, POL and the key line as read, every block in its initial state, the MDC's given in full, every bank
empty with the flag clear, the withdraw drive running exactly with SPRING, and the queue as it was. That POWER_ON
acts in every state and keeps the queue is the model's reading (log entry 53); the initial values that the spec does
not give are those of log entries 48, 63 and 73. -/
def Obligations.PowerOnStartsAfresh : Prop :=
  (∀ (n0 n1 n2 spring pol key : Bool) (s : State),
    ∃ t, exec (.powerOn n0 n1 n2 spring pol key) s = .next t
      ∧ t.mdc = { mode := .init, straps := some { number := n0.toNat + 2 * n1.toNat + 4 * n2.toNat + 1, spring := spring, pol := pol }, settings := .default, written := .none, frozen := false, windowTime := 0, windowExpired := false, restartCounter := 0, reliefTime := 0, reinitTime := 0, restartTimer := 0, watchRequest := none, wakeHold := 0, woken := false, dwellTime := 0, dwellDone := false, safeStationary := false, pendingSafe := false, initTime := 0, refStable := false, brownOut := false, key := key }
      ∧ (1 ≤ t.number ∧ t.number ≤ 8)
      ∧ (t.spring = spring ∧ t.pol = pol)
      ∧ (t.wmt = .initial ∧ t.csu = .initial 55 ∧ t.glu = .initial ∧ t.pvt = .initial ∧ t.vir = .initial
        ∧ t.hal = .initial)
      ∧ (t.hpc = .initial ∧ t.cpr = .initial ∧ t.sgi = .initial ∧ t.frb = .initial)
      ∧ t.pad = { Pad.initial with drive := if spring then .withdraw else .idle }
      ∧ t.pending = s.pending)

/-- INIT_END enters CONFIG, or SAFE with a pending SAFE cause; CLOCK_FAILURE enters SAFE with the clock record. With
the straps read and 25 ms passed, INIT_END enters CONFIG with the window time at 0, the line withdrawn and WMT, GLU,
CPR and PAD reading; with a SAFE cause pending it enters SAFE with those blocks reading. With 50 ms passed and the
oscillator not stable, CLOCK_FAILURE enters SAFE with the blocks stopped as they were; an empty NODE bank then holds
the clock record, whose activity is that of INIT or of SAFE. That INIT_END itself makes the oscillator stable is the
model's choice (log entry 45). -/
def Obligations.InitEndsInConfigOrSafe : Prop :=
  (∀ s : State,
    s.starting = true →
    ms 25 ≤ s.mdc.initTime →
    s.mdc.pendingSafe = false →
    ∃ t, exec .initEnd s = .next t
      ∧ (t.mdc.mode = .config ∧ t.mdc.windowTime = 0 ∧ t.mdc.refStable = true)
      ∧ t.wmt = { s.wmt with sampling := true, slow := false, fresh := true }
      ∧ (t.glu.reading = true ∧ t.cpr.reading = true ∧ t.pad.reading = true)
      ∧ (t.pad.asserted = false ∧ t.pad.hpcRequest = .withdraw)
      ∧ s.keeps t [.wmt, .glu, .hpc, .cpr, .pad, .mdc])
  ∧ (∀ s : State,
    s.starting = true →
    ms 25 ≤ s.mdc.initTime →
    s.mdc.pendingSafe = true →
    ∃ t, exec .initEnd s = .next t
      ∧ (t.mdc.mode = .safe ∧ t.mdc.dwellTime = 0 ∧ t.mdc.pendingSafe = false)
      ∧ (t.wmt.sampling = true ∧ t.glu.reading = true ∧ t.cpr.reading = true ∧ t.pad.reading = true))
  ∧ (∀ s : State,
    s.starting = true →
    ms 50 ≤ s.mdc.initTime →
    s.mdc.refStable = false →
    s.frb.banks.node = none →
    ∃ t, exec .clockFailure s = .next t
      ∧ (t.mdc.mode = .safe ∧ t.wmt = s.wmt ∧ t.glu = s.glu ∧ t.cpr.reading = s.cpr.reading
        ∧ t.pad.reading = s.pad.reading)
      ∧ t.frb.responseActive = true
      ∧ (∃ a, (a = .init ∨ a = .safe)
        ∧ t.frb.banks.node = some { s.complete clockReport with activity := .inMode a }))

/-- A Configure frame in the open window is taken once per group; a rewrite, an undefined group and a late frame are
reported. Addressed to this node or to node 0, in the open window: a group 1 to 5 not yet written has its fields
taken at the nearest limits and its written flag set, the mass following for groups 1 and 5; a written group is left
as it is with the NODE advisory; an undefined group makes the LINK advisory. Outside the window, in a steady state
that receives, a group, a close or an undefined group changes no setting and makes the LINK advisory, but for a
close that comes together with the expiry of the window, which does nothing more (R188; log entry 63). All else
stays. -/
def Obligations.ConfigureFramesInTheWindow : Prop :=
  (∀ (s : State) (m g b2 b3 b4 b5 b6 b7 : Byte),
    s.receives = true →
    s.windowOpen = true →
    (m = 0 ∨ m.toNat = s.number) →
    (1 ≤ g.toNat ∧ g.toNat ≤ 5) →
    s.mdc.written.of g.toNat = false →
    ∃ t, exec (.configureGroup [m, g, b2, b3, b4, b5, b6, b7]) s = .next t
      ∧ t.mdc.lasting =
        { s.mdc.lasting with settings := takeGroup g.toNat b2 b3 b4 b5 b6 b7 s.mdc.settings, written := s.mdc.written.mark g.toNat }
      ∧ (s.mdc.settings.ok → t.mdc.settings.ok)
      ∧ t.glu = { s.glu with mass := if (g.toNat = 1 ∨ g.toNat = 5) ∧ s.glu.reading = true then massOf s.glu t.mdc.settings s.pvt.entries else s.glu.mass }
      ∧ s.keeps t [.mdc, .glu])
  ∧ (∀ (s : State) (m g b2 b3 b4 b5 b6 b7 : Byte),
    s.receives = true →
    s.windowOpen = true →
    (m = 0 ∨ m.toNat = s.number) →
    (1 ≤ g.toNat ∧ g.toNat ≤ 5) →
    s.mdc.written.of g.toNat = true →
    ∃ t, exec (.configureGroup [m, g, b2, b3, b4, b5, b6, b7]) s = .next t
      ∧ t.frb = { s.frb with banks := s.frb.banks.store .node (s.complete (rewriteReport g.toNat)) }
      ∧ s.keeps t [.frb])
  ∧ (∀ (s : State) (m g b2 b3 b4 b5 b6 b7 : Byte),
    s.receives = true →
    s.windowOpen = true →
    (m = 0 ∨ m.toNat = s.number) →
    6 ≤ g.toNat →
    ∃ t, exec (.undefinedConfigureGroup [m, g, b2, b3, b4, b5, b6, b7]) s = .next t
      ∧ t.frb = { s.frb with banks := s.frb.banks.store .link (s.complete (malformedReport .serviceTool)) }
      ∧ s.keeps t [.frb])
  ∧ (∀ (s : State) (c : Instr) (m g b2 b3 b4 b5 b6 b7 : Byte),
    s.steady →
    s.receives = true →
    s.windowOpen = false →
    (m = 0 ∨ m.toNat = s.number) →
    ((1 ≤ g.toNat ∧ g.toNat ≤ 5 ∧ c = .configureGroup [m, g, b2, b3, b4, b5, b6, b7]) ∨ (g = 0
      ∧ s.mdc.windowExpired = false ∧ c = .configureClose [m, g, b2, b3, b4, b5, b6, b7]) ∨ (6 ≤ g.toNat
        ∧ c = .undefinedConfigureGroup [m, g, b2, b3, b4, b5, b6, b7])) →
    ∃ t, exec c s = .next t
      ∧ t.frb = { s.frb with banks := s.frb.banks.store .link (s.complete lateConfigureReport) }
      ∧ s.keeps t [.hal, .hpc, .sgi, .frb])
  ∧ (∀ (s : State) (m b2 b3 b4 b5 b6 b7 : Byte),
    s.steady →
    s.receives = true →
    s.windowOpen = false →
    (m = 0 ∨ m.toNat = s.number) →
    s.mdc.windowExpired = true →
    ∃ t, exec (.configureClose [m, 0, b2, b3, b4, b5, b6, b7]) s = .next t
      ∧ t.mdc.lasting = { s.mdc.lasting with windowExpired := false }
      ∧ s.keeps t [.mdc])

/-- CONFIGURE_CLOSE and WINDOW_EXPIRY end the window: settings reconciled and frozen, RUN entered in RELEASED. In
CONFIG with drive demand standing and no lane going wrong, a close in the open window, or the expiry at 500 ms,
reconciles and freezes the settings, sets the first escalation point and the effective margin from them, and enters
RUN in RELEASED with the relief time at 0, the line withdrawn, pass-through and a target of 0. With the lanes agreed
the result is that of the inputs as they stand, and unless in BUS OFF a Declaration waits. The expected node count
is checked: more than N_exp − 1 entries, not yet reported, make the NODE advisory with the highest node number, in
CONFIG still (the model's choice, log entry 72); otherwise the banks stay. An expiry leaves the mark for a close
that comes with it (log entry 63). The premise on demand keeps a capture from following in the same command. -/
def Obligations.WindowEndsInRun : Prop :=
  (∀ (s : State) (c : Instr) (m b2 b3 b4 b5 b6 b7 : Byte),
    s.mdc.mode = .config →
    s.demand.isSome = true →
    s.free.laneFault = none →
    ((c = .configureClose [m, 0, b2, b3, b4, b5, b6, b7] ∧ s.receives = true ∧ s.windowOpen = true ∧ (m = 0
      ∨ m.toNat = s.number)) ∨ (c = .windowExpiry ∧ ms 500 ≤ s.mdc.windowTime)) →
    ∃ t, exec c s = .next t
      ∧ (t.inPhase .released = true ∧ t.mdc.frozen = true ∧ t.mdc.settings = s.mdc.settings.reconciled
        ∧ t.mdc.reliefTime = 0)
      ∧ t.mdc.windowExpired = (c == .windowExpiry || s.mdc.windowExpired)
      ∧ t.csu = { s.csu with nextPoint := t.mdc.settings.firstPoint }
      ∧ t.hal.margin = effectiveMargin t.mdc.settings s.drumCounts
      ∧ (t.cpr.regulating = false ∧ t.cpr.valves = .passThrough ∧ t.cpr.target = 0)
      ∧ t.pad.asserted = false
      ∧ (s.hal.lanes = .agreed → t.hal.result = t.laneResult)
      ∧ (s.sgi.bus ≠ .off → ∃ f ∈ t.sgi.list, f.kind = .declaration ∧ f.id = frameId s.number .declaration)
      ∧ (s.windowOpen = true → s.mdc.settings.ok
        → t.mdc.settings.noticeThreshold + t.mdc.settings.escalateInterval ≤ t.mdc.settings.breachThreshold)
      ∧ (s.pvt.expectedReported = true ∨ s.pvt.entries.length ≤ s.mdc.settings.nExp - 1 → t.frb = s.frb
        ∧ t.pvt = s.pvt)
      ∧ (s.pvt.expectedReported = false → s.mdc.settings.nExp - 1 < s.pvt.entries.length
        → t.pvt = { s.pvt with expectedReported := true } ∧ t.frb.responseActive = s.frb.responseActive)
      ∧ (s.pvt.expectedReported = false → s.mdc.settings.nExp - 1 < s.pvt.entries.length → s.tableOk
        → s.frb.banks.node = none → ∃ e ∈ s.pvt.entries, (∀ f ∈ s.pvt.entries, f.node ≤ e.node)
          ∧ t.frb.banks.node.map (fun r => (r.severity, r.cls, r.element, r.activity, r.overflow)) = some (.advisory,
            .consistency, some (.peer e.node), .inMode .config, false))
      ∧ s.keeps t [.csu, .pvt, .hal, .hpc, .cpr, .pad, .sgi, .mdc, .frb])

/-- A wheel sample gives the tracker its new state and each onset its report; a row naming an event does so when it
comes about. In a steady state with the WMT sampling, WHEEL_SAMPLE, and each row that names an event of a sample
when that event comes about at it, leaves the tracker as the sample gives it and, with no anchor held, the banks as
the reports of the sample leave them in their order. A row whose event does not come about leaves everything (log
entry 5). VIR, PVT, CPR, PAD and MDC stay. -/
def Obligations.WheelSampleIsTaken : Prop :=
  (∀ (s : State) (a b : Code) (c : Instr) (happens : Bool),
    s.steady →
    s.wmt.sampling = true →
    (c, happens) ∈ [(.wheelSample a b, true), (.noiseOverrun a b, (s.wheel a b).2.noise), (.amplitudeLoss a b,
      (s.wheel a b).2.amplitude), (.cleanWindowRecovery a b, (s.wheel a b).2.recovered), (.locked a b,
        (s.wheel a b).2.becameLocked), (.lockNotAchieved a b, (s.wheel a b).2.lockNotAchieved),
          (.stationaryAsserted a b, (s.wheel a b).2.becameStationary)] →
    ∃ t, exec c s = .next t
      ∧ (happens = true → t.wmt = (s.wheel a b).1)
      ∧ (happens = true → s.csu.anchor = .absent
        → t.frb = { s.frb with banks := (s.wheel a b).2.reports.foldl (fun k r => k.store r.bank (s.complete r)) s.frb.banks })
      ∧ (happens = false → s.keeps t [])
      ∧ s.keeps t [.wmt, .csu, .glu, .hal, .hpc, .sgi, .frb])

/-- A fourth rejection, a fifth sample outside the amplitude window or a stuck channel loses the position; 10 ms of
clean samples recover it. In a steady state sampling in TRACKING: the fourth rejected code of the sine or the cosine
channel running (NOISE_OVERRUN) and the fifth sample running with A² outside 490,000..4,410,000 (AMPLITUDE_LOSS)
move the tracker to OUTAGE with v 0, φ and the counter as they stand, position, lock, learning and stationary lost
and the gain HIGH but in WATCH; an empty SENSE bank then holds a degraded record. So does the 64th equal raw code of
either channel running when the other channel's accepted codes over the run spread across more than 64 codes; a run,
its spread and the stuck mark are kept at each sample, and another raw code begins a new run. Sampling in STARTING
or OUTAGE, the clean sample that brings the clean samples to 10 ms (CLEAN_WINDOW_RECOVERY) makes TRACKING with
position-valid, v 0, φ a whole count, the gain HIGH but in WATCH and the lock UNLOCKED; the counter is 0 from
STARTING and goes on from OUTAGE, where the gap is indicated. That the noise test, a premise of the overruns, reads
v with the circumference and period now in force, and is made at ±5,000 mm/s too, is the model's choice (log entries
76 and 11). -/
def Obligations.SignalErrorsLosePositionAndRecover : Prop :=
  (∀ (s : State) (a b : Code),
    s.steady →
    s.wmt.sampling = true →
    s.wmt.signal = .tracking →
    s.wmt.fresh = false →
    s.wmt.noiseTested s.mdc.settings.circumference = true →
    256 < (rawSine s.pol a - s.wmt.sine.last).natAbs →
    s.wmt.sine.rejections = 3 →
    ∃ t, exec (.noiseOverrun a b) s = .next t
      ∧ (t.wmt.signal = .outage ∧ t.wmt.v = 0 ∧ t.wmt.phi = s.wmt.phi ∧ t.wmt.position = s.wmt.position
        ∧ t.wmt.positionValid = false)
      ∧ (t.wmt.locked = false ∧ t.wmt.highGain = !s.wmt.slow ∧ t.wmt.learning = none ∧ t.wmt.stationary = false
        ∧ t.wmt.cleanCount = 0)
      ∧ (t.wmt.sine.rejections = 0 ∧ t.wmt.sine.last = rawSine s.pol a)
      ∧ (s.frb.banks.sense = none → t.frb.banks.sense.map (fun r => (r.severity, r.cls, r.element)) = some (.degraded,
        .signal, some .sineChannel)))
  ∧ (∀ (s : State) (a b : Code),
    s.steady →
    s.wmt.sampling = true →
    s.wmt.signal = .tracking →
    s.wmt.amplitudeRun = 4 →
    amplitudeInside (s.wmt.condition s.mdc.settings.circumference (rawSine s.pol a) b.toInt).a2 = false →
    ∃ t, exec (.amplitudeLoss a b) s = .next t
      ∧ (t.wmt.signal = .outage ∧ t.wmt.v = 0 ∧ t.wmt.phi = s.wmt.phi ∧ t.wmt.position = s.wmt.position
        ∧ t.wmt.positionValid = false)
      ∧ (t.wmt.locked = false ∧ t.wmt.highGain = !s.wmt.slow ∧ t.wmt.learning = none ∧ t.wmt.stationary = false
        ∧ t.wmt.amplitudeRun = 5)
      ∧ (s.frb.banks.sense = none → t.frb.banks.sense.map FaultRecord.severity = some .degraded))
  ∧ (∀ (s : State) (a b : Code),
    s.steady →
    s.wmt.sampling = true →
    s.wmt.signal ≠ .tracking →
    (s.wmt.condition s.mdc.settings.circumference (rawSine s.pol a) b.toInt).clean = true →
    ms 10 ≤ (s.wmt.cleanCount + 1) * s.wmt.period →
    ∃ t, exec (.cleanWindowRecovery a b) s = .next t
      ∧ (t.wmt.signal = .tracking ∧ t.wmt.positionValid = true ∧ t.wmt.v = 0 ∧ t.wmt.highGain = !s.wmt.slow)
      ∧ (t.wmt.phi % 65536 = 0 ∧ t.wmt.phi < cycleUnits ∧ t.wmt.locked = false ∧ t.wmt.lockTime = 0)
      ∧ (s.wmt.signal = .starting → t.wmt.position = 0)
      ∧ (s.wmt.signal = .outage → t.wmt.position = s.wmt.position)
      ∧ (s.wheel a b).2.gap = (s.wmt.signal == .outage))
  ∧ (∀ (s : State) (a b : Code),
    s.steady →
    s.wmt.sampling = true →
    s.wmt.signal = .tracking →
    s.wmt.fresh = false →
    rawSine s.pol a = s.wmt.sine.raw →
    s.wmt.sine.stuckRun = 63 →
    64 < max s.wmt.sine.otherHigh b.toInt - min s.wmt.sine.otherLow b.toInt →
    s.wmt.sine.stuck = false →
    b.toInt ≠ s.wmt.cosine.raw →
    ((rawSine s.pol a - s.wmt.sine.last).natAbs ≤ 256 ∧ (b.toInt - s.wmt.cosine.last).natAbs ≤ 256) →
    s.wmt.amplitudeRun < 4 →
    ∃ t, exec (.wheelSample a b) s = .next t
      ∧ (t.wmt.signal = .outage ∧ t.wmt.v = 0 ∧ t.wmt.phi = s.wmt.phi ∧ t.wmt.position = s.wmt.position
        ∧ t.wmt.positionValid = false)
      ∧ (t.wmt.sine.stuck = true ∧ t.wmt.sine.stuckRun = 64 ∧ t.wmt.learning = none ∧ t.wmt.stationary = false)
      ∧ (s.frb.banks.sense = none → t.frb.banks.sense.map (fun r => (r.severity, r.cls, r.element)) = some (.degraded,
        .signal, some .sineChannel)))
  ∧ (∀ (s : State) (a b : Code),
    s.steady →
    s.wmt.sampling = true →
    s.wmt.signal = .tracking →
    s.wmt.fresh = false →
    s.wmt.noiseTested s.mdc.settings.circumference = true →
    256 < (b.toInt - s.wmt.cosine.last).natAbs →
    s.wmt.cosine.rejections = 3 →
    ∃ t, exec (.noiseOverrun a b) s = .next t
      ∧ (t.wmt.signal = .outage ∧ t.wmt.v = 0 ∧ t.wmt.phi = s.wmt.phi ∧ t.wmt.position = s.wmt.position
        ∧ t.wmt.positionValid = false)
      ∧ (t.wmt.locked = false ∧ t.wmt.highGain = !s.wmt.slow ∧ t.wmt.learning = none ∧ t.wmt.stationary = false
        ∧ t.wmt.cleanCount = 0)
      ∧ (t.wmt.cosine.rejections = 0 ∧ t.wmt.cosine.last = b.toInt)
      ∧ (s.frb.banks.sense = none → t.frb.banks.sense.map FaultRecord.severity = some .degraded)
      ∧ (s.frb.banks.sense = none → (rawSine s.pol a - s.wmt.sine.last).natAbs ≤ 256
        → t.frb.banks.sense.map (fun r => (r.severity, r.cls, r.element)) = some (.degraded, .signal,
          some .cosineChannel)))
  ∧ (∀ (s : State) (a b : Code),
    s.steady →
    s.wmt.sampling = true →
    s.wmt.signal = .tracking →
    s.wmt.fresh = false →
    b.toInt = s.wmt.cosine.raw →
    s.wmt.cosine.stuckRun = 63 →
    64 < max s.wmt.cosine.otherHigh (rawSine s.pol a) - min s.wmt.cosine.otherLow (rawSine s.pol a) →
    s.wmt.cosine.stuck = false →
    rawSine s.pol a ≠ s.wmt.sine.raw →
    ((rawSine s.pol a - s.wmt.sine.last).natAbs ≤ 256 ∧ (b.toInt - s.wmt.cosine.last).natAbs ≤ 256) →
    s.wmt.amplitudeRun < 4 →
    ∃ t, exec (.wheelSample a b) s = .next t
      ∧ (t.wmt.signal = .outage ∧ t.wmt.v = 0 ∧ t.wmt.phi = s.wmt.phi ∧ t.wmt.position = s.wmt.position
        ∧ t.wmt.positionValid = false)
      ∧ (t.wmt.cosine.stuck = true ∧ t.wmt.cosine.stuckRun = 64 ∧ t.wmt.learning = none ∧ t.wmt.stationary = false)
      ∧ (s.frb.banks.sense = none → t.frb.banks.sense.map (fun r => (r.severity, r.cls, r.element)) = some (.degraded,
        .signal, some .cosineChannel)))
  ∧ (∀ (ch : Channel) (first : Bool) (raw other : Int),
    let n := min 64 (ch.stuckRun + 1)
    (first = true ∨ raw ≠ ch.raw → (ch.run first raw other).stuckTest =
      { ch with raw := raw, stuckRun := 1, otherLow := other, otherHigh := other, stuck := false })
    ∧ (first = false → raw = ch.raw
      → (ch.run first raw other).stuckTest =
        { ch with stuckRun := n, otherLow := min ch.otherLow other, otherHigh := max ch.otherHigh other, stuck := ch.stuck || decide (64 ≤ n ∧ 64 < max ch.otherHigh other - min ch.otherLow other) }))

/-- A TRACKING sample without an onset advances v, φ and counter by the loop, lock, stationary and lock watch by
their times, and learns the corrections. For every tracker in TRACKING and every sample without an onset, with e the
deviation and the gain chosen from it: v rises by Ki × ε, φ advances by the new v plus Kp × ε modulo the cycle, and
the counter by the change of φ's whole count in −2,048..+2,047; from UNLOCKED the loop is locked exactly when |e| is
at most 204 and 20 ms are full, from LOCKED it stays unless |e| exceeds 2,048; stationary is asserted exactly when
|speed| is below 2 mm/s and 200 ms are full, and then stays exactly while |speed| is below 2 mm/s. The lock watch
times the span of |speed| above 50 mm/s UNLOCKED to 200 ms, and the advisory is the report of the first sample that
fills it. With learning conditions and no rejection a cycle opens at a wrap of φ, sums what R2 leaves of its samples
with their extremes, and at the next wrap in its direction replaces the corrections by R8 (whether the wrap's sample
closes the old cycle or opens the next is free: log entry 18); else it is discarded, the corrections kept. That a
rejected sample at which φ wraps opens no cycle is the model's reading of R7 (log entry 12). -/
def Obligations.TrackingSampleAdvancesLoop : Prop :=
  (∀ (w : Wmt) (pol : Bool) (k : Nat) (a b : Code),
    let q := w.condition k (rawSine pol a) b.toInt
    let e := deviation w.phi q.s q.c q.a2
    w.signal = .tracking →
    w.ok →
    (w.condition k (rawSine pol a) b.toInt).reports = [] →
    (w.sample pol k a b).1.v = w.v + integralStep (w.selectGain e) (angleError e)
    ∧ ((w.sample pol k a b).1.phi : Int) = (w.phi + (w.sample pol k a b).1.v + proportionalStep (w.selectGain e)
      (angleError e)) % cycleUnits
    ∧ (∃ d : Int, -2048 ≤ d ∧ d ≤ 2047 ∧ (w.sample pol k a b).1.position = w.position + BitVec.ofInt 32 d
      ∧ (d - ((((w.sample pol k a b).1.phi / 65536 : Nat) : Int) - ((w.phi / 65536 : Nat) : Int))) % 4096 = 0)
    ∧ (w.locked = false → ((w.sample pol k a b).1.locked = true ↔ e.natAbs ≤ 204 ∧ ms 20 ≤ w.lockTime + w.period))
    ∧ (w.locked = true → ((w.sample pol k a b).1.locked = true ↔ e.natAbs ≤ 2048))
    ∧ (w.stationary = false → ((w.sample pol k a b).1.stationary = true ↔ ((w.sample pol k a b).1.speed k).natAbs < 2
      ∧ ms 200 ≤ w.stationaryTime + w.period))
    ∧ (w.stationary = true → ((w.sample pol k a b).1.stationary = true ↔ ((w.sample pol k a b).1.speed k).natAbs < 2))
    ∧ ((w.sample pol k a b).2.becameLocked = (!w.locked && (w.sample pol k a b).1.locked)
      ∧ (w.sample pol k a b).2.becameStationary = (!w.stationary && (w.sample pol k a b).1.stationary)))
  ∧ (∀ (w : Wmt) (pol : Bool) (k : Nat) (a b : Code),
    let y := w.sample pol k a b
    let span := decide (50 < (y.1.speed k).natAbs) && !y.1.locked
    w.signal = .tracking →
    w.ok →
    (w.condition k (rawSine pol a) b.toInt).reports = [] →
    y.2.lockNotAchieved = (!w.lockReported && span && decide (ms 200 ≤ w.lockWatch + w.period))
    ∧ y.1.lockWatch = (if span then min (ms 200) (w.lockWatch + w.period) else 0)
    ∧ y.1.lockReported = (span && (w.lockReported || decide (ms 200 ≤ w.lockWatch + w.period)))
    ∧ (y.2.reports = (if y.2.lockNotAchieved then [lockReport] else [])
      ∧ (lockReport.bank, lockReport.severity, lockReport.cls, lockReport.element) = (.sense, .advisory, .timing,
        none)))
  ∧ (∀ (w : Wmt) (pol : Bool) (k : Nat) (a b : Code),
    let x := (w.sample pol k a b).1
    w.signal = .tracking →
    w.ok →
    (w.condition k (rawSine pol a) b.toInt).reports = [] →
    (w.slow = true ∨ x.locked = false ∨ (x.speed k).natAbs ≤ 20
      ∨ (w.condition k (rawSine pol a) b.toInt).rejected = true) →
    x.learning = none
    ∧ (x.sineOffset = w.sineOffset ∧ x.cosineOffset = w.cosineOffset ∧ x.gain = w.gain))
  ∧ (∀ (w : Wmt) (pol : Bool) (k : Nat) (a b : Code),
    let x := (w.sample pol k a b).1
    let q := w.condition k (rawSine pol a) b.toInt
    let e := deviation w.phi q.s q.c q.a2
    let adv := w.phi + x.v + proportionalStep (w.selectGain e) (angleError e)
    w.signal = .tracking →
    w.ok →
    (w.condition k (rawSine pol a) b.toInt).reports = [] →
    w.slow = false →
    x.locked = true →
    20 < (x.speed k).natAbs →
    (w.condition k (rawSine pol a) b.toInt).rejected = false →
    (0 ≤ adv ∧ adv < cycleUnits) →
    (x.sineOffset = w.sineOffset ∧ x.cosineOffset = w.cosineOffset ∧ x.gain = w.gain)
    ∧ (w.learning = none → x.learning = none)
    ∧ (∀ l, w.learning = some l → 0 < l.count
      → x.learning = some
        { l with sineSum := l.sineSum + q.usedSine, cosineSum := l.cosineSum + q.usedCosine, count := l.count + 1, sineLow := min l.sineLow q.usedSine, sineHigh := max l.sineHigh q.usedSine, cosineLow := min l.cosineLow q.usedCosine, cosineHigh := max l.cosineHigh q.usedCosine })
    ∧ (∀ l, w.learning = some l → l.count = 0
      → x.learning = some
        { l with sineSum := q.usedSine, cosineSum := q.usedCosine, count := 1, sineLow := q.usedSine, sineHigh := q.usedSine, cosineLow := q.usedCosine, cosineHigh := q.usedCosine }))
  ∧ (∀ (w : Wmt) (pol : Bool) (k : Nat) (a b : Code),
    let x := (w.sample pol k a b).1
    let q := w.condition k (rawSine pol a) b.toInt
    let e := deviation w.phi q.s q.c q.a2
    let adv := w.phi + x.v + proportionalStep (w.selectGain e) (angleError e)
    w.signal = .tracking →
    w.ok →
    (w.condition k (rawSine pol a) b.toInt).reports = [] →
    w.slow = false →
    x.locked = true →
    20 < (x.speed k).natAbs →
    (w.condition k (rawSine pol a) b.toInt).rejected = false →
    (adv < 0 ∨ cycleUnits ≤ adv) →
    (w.learning = none → (∃ l, x.learning = some l ∧ l.forward = decide (0 ≤ adv)) ∧ x.sineOffset = w.sineOffset
      ∧ x.cosineOffset = w.cosineOffset ∧ x.gain = w.gain)
    ∧ (∀ l, w.learning = some l → l.forward ≠ decide (0 ≤ adv) → x.learning = none ∧ x.sineOffset = w.sineOffset
      ∧ x.cosineOffset = w.cosineOffset ∧ x.gain = w.gain)
    ∧ (∀ l, w.learning = some l → l.forward = decide (0 ≤ adv) → (∃ m, x.learning = some m ∧ m.forward = l.forward)
      ∧ ∃ c, (c = l ∨ c = l.take q.usedSine q.usedCosine)
        ∧ x.sineOffset = max (-200) (min 200 (Int.tdiv c.sineSum c.count))
          ∧ x.cosineOffset = max (-200) (min 200 (Int.tdiv c.cosineSum c.count))
            ∧ x.gain = if c.cosineHigh = c.cosineLow then w.gain else max 3277 (min 4915 (Int.tdiv (4096 * (c.sineHigh
              - c.sineLow)) (c.cosineHigh - c.cosineLow)))))

/-- A hold that has rolled at the breach velocity for 100 ms breaches: levels 4 and an Alert of cause breach. In RUN
in a hold phase with an anchor, Breach clear and no lane going wrong, the velocity test of a sample adds its period
to the breach velocity time while speed is valid and the downhill speed (its magnitude under a flat or DEFAULT
grade) is at or above the breach velocity, but in RELEASING under downhill demand; else it returns the time to 0.
That the first such sample adds a whole period is the model's choice (log entry 55). At 100 ms it breaches: Breach
latched, own and node level 4, unless in BUS OFF an Alert of cause breach, level 4 and effective creep, and the
phase as at a breach by distance. Outside a hold phase in RUN, and with Breach latched, the test changes nothing, so
that the time stays (log entry 71). At a sample without reports at which the time reaches 100 ms,
BREACH_VELOCITY_TIME_EXPIRY stays in SECURED with service retained and no drive-away; and in CAPTURING or HOLDING
with the driver at the wheel and no drive demand it ends in SECURING, on a spring-fitted node whose sensor is not
out of range, or with handover failed stays. -/
def Obligations.BreachVelocityRaisesBreach : Prop :=
  (∀ (s : State) (a b : Code),
    s.retaining →
    s.wmt.sampling = true →
    (s.wheel a b).2.reports = [] →
    (s.wheel a b).2.lostStationary = false →
    ({ s with wmt := (s.wheel a b).1 } : State).velocityDue = true →
    ∃ t, exec (.breachVelocityTimeExpiry a b) s = .next t
      ∧ (t.csu.breach = true ∧ t.csu.ownLevel = 4 ∧ t.csu.nodeLevel = 4 ∧ t.inPhase .secured = true
        ∧ t.wmt = (s.wheel a b).1)
      ∧ (s.sgi.bus ≠ .off → ∃ f ∈ t.sgi.list, f.kind = .alert ∧ f.data = encodeAlert .breach 4 t.csu.alertCreep)
      ∧ s.keeps t [.wmt, .csu, .hal, .hpc, .cpr, .sgi, .frb])
  ∧ (∀ (s : State) (a b : Code),
    (s.inPhase .capturing = true ∨ s.inPhase .holding = true) →
    s.attended →
    s.demand = none →
    s.spring = true →
    s.pad.sensor ≠ .outOfRange →
    s.free.laneFault = none →
    s.wmt.sampling = true →
    (s.wheel a b).2.reports = [] →
    (s.wheel a b).2.lostStationary = false →
    ({ s with wmt := (s.wheel a b).1 } : State).velocityDue = true →
    ∃ t, exec (.breachVelocityTimeExpiry a b) s = .next t
      ∧ (t.csu.breach = true ∧ t.csu.ownLevel = 4 ∧ t.csu.nodeLevel = 4 ∧ t.wmt = (s.wheel a b).1)
      ∧ (s.hpc.handoverFailed = false → t.inPhase .securing = true ∧ t.hpc.request = true ∧ t.pad.asserted = true)
      ∧ (s.hpc.handoverFailed = true → t.inPhase s.hpc.phase = true)
      ∧ (s.sgi.bus ≠ .off → ∃ f ∈ t.sgi.list, f.kind = .alert ∧ f.data = encodeAlert .breach 4 t.csu.alertCreep)
      ∧ s.keeps t [.wmt, .csu, .hal, .hpc, .cpr, .pad, .sgi, .frb])
  ∧ (∀ s : State,
    let x := s.wmt.speed s.mdc.settings.circumference
    let d : Int := if s.glu.gradeStatus = .default
      ∨ s.glu.vehicleGrade.natAbs < 20 then x.natAbs else if 0 < s.glu.vehicleGrade then -x else x
    let runs := s.wmt.positionValid && decide ((s.mdc.settings.breachVelocity : Int) ≤ d) && !(s.hpc.phase ==
      .releasing && s.demandDownhill)
    s.inHold = true →
    s.csu.anchor ≠ .absent →
    s.csu.breach = false →
    s.free.laneFault = none →
    (runs = false → s.velocityTest = { s with csu := { s.csu with breachTime := 0 } })
    ∧ (runs = true → s.csu.breachTime + s.wmt.period < 1000
      → s.velocityTest = { s with csu := { s.csu with breachTime := s.csu.breachTime + s.wmt.period } })
    ∧ (runs = true → 1000 ≤ s.csu.breachTime + s.wmt.period → s.velocityTest.csu.breach = true
      ∧ s.velocityTest.csu.ownLevel = 4 ∧ s.velocityTest.csu.nodeLevel = 4)
    ∧ (runs = true → 1000 ≤ s.csu.breachTime + s.wmt.period → s.sgi.bus ≠ .off
      → ∃ f ∈ s.velocityTest.sgi.list, f.kind = .alert ∧ f.data = encodeAlert .breach 4 s.csu.alertCreep)
    ∧ (runs = true → 1000 ≤ s.csu.breachTime + s.wmt.period → s.hpc.phase = .secured
      → s.velocityTest.inPhase .secured = true ∧ s.velocityTest.hpc.retained.isSome = true)
    ∧ (runs = true → 1000 ≤ s.csu.breachTime + s.wmt.period → s.hpc.phase = .capturing ∨ s.hpc.phase = .holding
      → s.hpc.handoverFailed = true → s.velocityTest.hpc.phase = s.hpc.phase)
    ∧ (runs = true → 1000 ≤ s.csu.breachTime + s.wmt.period → s.hpc.phase = .capturing ∨ s.hpc.phase = .holding
      → s.hpc.handoverFailed = false → s.spring = false ∨ s.pad.sensor ≠ .outOfRange
        → s.velocityTest.inPhase .securing = true ∧ s.velocityTest.pad.hpcRequest = .assert)
    ∧ (runs = true → 1000 ≤ s.csu.breachTime + s.wmt.period → s.hpc.phase = .releasing → s.spring = false
      ∨ s.pad.sensor ≠ .outOfRange → s.velocityTest.inPhase .securing = true
        ∧ s.velocityTest.pad.hpcRequest = .assert)
    ∧ (runs = true → 1000 ≤ s.csu.breachTime + s.wmt.period → s.hpc.phase = .securing → ∀ h, s.hpc.handover = some h
      → (h.stage = .confirm ∨ h.stage = .wait → s.velocityTest.inPhase .securing = true
        ∧ s.velocityTest.hpc.handover = some h) ∧ (h.stage = .settle ∨ h.stage = .ramp
          → s.velocityTest.inPhase .secured = true ∧ s.velocityTest.hpc.retained = some h.preHold)))
  ∧ (∀ s : State,
    (s.inHold = false ∨ s.csu.breach = true) →
    s.velocityTest = s)

/-- An accelerometer reading runs the window, history, own grade, vehicle grade and the two fault tests. In a steady
state with the GLU reading: the reading joins the newest 16 when it is inside the window with the wheel stationary,
else the history empties; a full history forms the own grade; a new own grade or a change of grade-valid chooses the
vehicle grade; the window run and the disagreement time follow, and the reading that brings one to its limit makes
its MASS report. The rows ACCELEROMETER_WINDOW_FAULT and GRADE_DISAGREEMENT are such readings when their report is
due, and otherwise leave everything (log entry 5). -/
def Obligations.AccelerometerReadingFormsGrade : Prop :=
  (∀ (s : State) (r : Option Accel) (c : Instr) (happens : Bool),
    let g := s.glu.take r s.wmt.stationary
    let h := if Glu.gradeTaken s.glu g then g.chooseGrade s.pvt.entries else g
    let fault := Glu.windowFault s.glu g
    let k := if fault then s.frb.banks.store .mass (s.complete accelerometerReport) else s.frb.banks
    s.steady →
    s.glu.reading = true →
    (c, happens) ∈ [(.accelerometerReading r, true), (.accelerometerWindowFault r, fault), (.gradeDisagreement r,
      h.disagreementFault)] →
    ∃ t, exec c s = .next t
      ∧ (happens = true → t.glu = { h with disagreement := h.nextDisagreement })
      ∧ (happens = true → t.glu.accelHistory = s.glu.history r s.wmt.stationary
        ∧ t.glu.windowRun = if accelInside r then 0 else min 10 (s.glu.windowRun + 1))
      ∧ (happens = true → (t.glu.gradeValid = true ↔ t.glu.accelHistory.length = 16
        ∧ gradeOf t.glu.accelHistory = some t.glu.ownGrade))
      ∧ (happens = true → t.frb =
        { s.frb with banks := if h.disagreementFault then k.store .mass (s.complete disagreementReport) else k })
      ∧ (happens = true → (h.vehicleGrade ≠ s.glu.vehicleGrade ∨ h.gradeStatus ≠ s.glu.gradeStatus) → t.resultCurrent)
      ∧ (happens = false → s.keeps t [])
      ∧ s.keeps t [.glu, .hal, .hpc, .sgi, .frb])

/-- A load reading forms own load, lifted flag and mass; the fifth out-of-range reading empties the history and is
reported. In a steady state with the GLU reading. In range (250..4,750 mV): the converted load joins the newest 50;
the own load is the mean of the newest 50 when stationary, 10 when not, rounded down; load-known is set, the run 0;
at a change of load or load-known the mass is formed anew, and at one of load or lifted flag the result is current.
Out of range: the run rises, and at 5 the history empties with the MASS report and the own load kept.
LOAD_INPUT_FAULT is that fifth reading and otherwise leaves everything (log entry 5). -/
def Obligations.LoadReadingFormsLoad : Prop :=
  (∀ (s : State) (v : Nat),
    s.steady →
    s.glu.reading = true →
    (250 ≤ v ∧ v ≤ 4750) →
    ∃ t, exec (.loadReading v) s = .next t
      ∧ (t.glu.loadHistory = newest 50 (s.glu.loadHistory ++ [min 25000 ((v - 500) * 25000 / 4000)])
        ∧ t.glu.loadRun = 0 ∧ t.glu.loadKnown = true)
      ∧ t.glu.ownLoad = (newest (if s.wmt.stationary then 50 else 10) t.glu.loadHistory).sum / (newest (if
        s.wmt.stationary then 50 else 10) t.glu.loadHistory).length
      ∧ (t.glu.ownLoad ≠ s.glu.ownLoad ∨ s.glu.loadKnown = false → t.glu.lifted = decide (t.glu.ownLoad < 500)
        ∧ t.glu.mass = massOf t.glu s.mdc.settings s.pvt.entries)
      ∧ (t.glu.ownLoad = s.glu.ownLoad → s.glu.loadKnown = true → t.glu.lifted = s.glu.lifted
        ∧ t.glu.mass = s.glu.mass)
      ∧ (t.glu.ownLoad ≠ s.glu.ownLoad ∨ t.glu.lifted ≠ s.glu.lifted → t.resultCurrent)
      ∧ s.keeps t [.glu, .hal, .hpc])
  ∧ (∀ (s : State) (v : Nat),
    s.steady →
    s.glu.reading = true →
    (v < 250 ∨ 4750 < v) →
    s.glu.loadRun < 4 →
    ∃ t, exec (.loadReading v) s = .next t
      ∧ t.glu = { s.glu with loadRun := s.glu.loadRun + 1 }
      ∧ s.keeps t [.glu])
  ∧ (∀ (s : State) (v : Nat) (c : Instr),
    s.steady →
    s.glu.reading = true →
    (v < 250 ∨ 4750 < v) →
    s.glu.loadRun = 4 →
    (c = .loadReading v ∨ c = .loadInputFault v) →
    ∃ t, exec c s = .next t
      ∧ t.glu = { s.glu with loadRun := 5, loadHistory := [] }
      ∧ t.frb = { s.frb with banks := s.frb.banks.store .mass (s.complete loadReport) }
      ∧ s.keeps t [.glu, .hal, .hpc, .sgi, .frb])
  ∧ (∀ (s : State) (v : Nat),
    s.steady →
    ((250 ≤ v ∧ v ≤ 4750) ∨ s.glu.loadRun ≠ 4) →
    s.glu.loadRun ≤ 5 →
    ∃ t, exec (.loadInputFault v) s = .next t
      ∧ s.keeps t [])

/-- An accepted Declaration creates or updates its entry and is handed to creep, grade, mass and capacity. In a
steady state that takes frames, a well-formed Declaration of a peer makes its entry fresh with age 0 and the
declared fields, creep steady set exactly when two Declarations running carry creep-valid and the same creep with no
expiry between (R64's sentence on an expiry taken over its reason, and its definition over its sentence on a
creation: log entry 60), the last alert kept; the other entries stay. Effective creep, and with the GLU reading
vehicle grade and mass, follow from the new table, and the result is current. A creation beyond N_exp − 1 entries
makes the NODE advisory, before the handings (log entry 61), with hold-compromised clear and release-permitted yes,
which R63 does not give (log entry 28). The levels, VIR, CPR, PAD and WMT stay; that node level takes no peer's
level outside a hold phase in RUN, so in RELEASED, CONFIG and SAFE, is the model's reading of R37 and R41 beside R65
(log entry 22). -/
def Obligations.DeclarationEntersTable : Prop :=
  (∀ (s : State) (n : Nat) (data : List Byte) (d : Declared),
    s.steady →
    s.takesFrom n = true →
    n ≠ s.number →
    decodeDeclaration data = some d →
    ∃ t, exec (.declaration n data) s = .next t
      ∧ entryFor n t.pvt.entries = some
        { node := n, decl := d, age := 0, freshness := .fresh, creepSteady := (entryFor n s.pvt.entries).elim false (fun e => e.freshness != .expired && e.decl.creepValid && d.creepValid && e.decl.creep == d.creep), lastAlert := (entryFor n s.pvt.entries).bind PeerEntry.lastAlert }
      ∧ (∀ m, m ≠ n → entryFor m t.pvt.entries = entryFor m s.pvt.entries)
      ∧ t.csu = s.csu.recompute t.pvt.entries
      ∧ (t.glu = if s.glu.reading then
        { s.glu.chooseGrade t.pvt.entries with mass := massOf s.glu s.mdc.settings t.pvt.entries } else s.glu)
      ∧ t.resultCurrent
      ∧ t.frb = { s.frb with banks := if (entryFor n s.pvt.entries).isNone && s.mdc.settings.nExp - 1 < t.pvt.entries.length then s.frb.banks.store .node (s.complete (expectedReport n)) else s.frb.banks }
      ∧ s.keeps t [.pvt, .csu, .glu, .hal, .hpc, .sgi, .frb])

/-- A malformed frame makes the LINK advisory of its sender and nothing else; an own-number frame is an identity
clash. In a steady state that takes frames, a Declaration, an Alert or a station frame of wrong length or with an
undefined code makes the LINK advisory "malformed" of its sender and changes no entry, record or age. A well-formed
Declaration or Alert under the node's own number starts the span of 300 ms anew and changes no entry; with no span
running and the response flag clear it makes the severe NODE identity record, in a running span none. -/
def Obligations.BadFramesAreReported : Prop :=
  (∀ (s : State) (c : Instr) (e : Element) (n : Nat) (data : List Byte),
    s.steady →
    s.receives = true →
    ((c = .declaration n data ∧ e = .peer n ∧ 1 ≤ n ∧ n ≤ 8 ∧ decodeDeclaration data = none) ∨ (c = .alert n data
      ∧ e = .peer n ∧ 1 ≤ n ∧ n ≤ 8 ∧ decodeAlert data = none) ∨ (c = .cabStatus data ∧ e = .cabStation
        ∧ decodeCab data = none) ∨ (c = .driveDemand data ∧ e = .powertrainStation ∧ decodeDrive data = none)
          ∨ (c = .drumStatus data ∧ e = .drumStation ∧ decodeDrum data = none)) →
    ∃ t, exec c s = .next t
      ∧ t.frb = { s.frb with banks := s.frb.banks.store .link (s.complete (malformedReport e)) }
      ∧ s.keeps t [.hal, .hpc, .sgi, .frb])
  ∧ (∀ (s : State) (c : Instr) (data : List Byte),
    s.steady →
    s.takesFrom s.number = true →
    (s.frb.responseActive = false ∨ s.pvt.clashTime.isSome = true) →
    ((c = .declaration s.number data ∧ (decodeDeclaration data).isSome = true) ∨ (c = .alert s.number data
      ∧ (decodeAlert data).isSome = true)) →
    ∃ t, exec c s = .next t
      ∧ t.pvt = { s.pvt with clashTime := some 0 }
      ∧ (t.frb = if s.pvt.clashTime.isNone then
        { banks := s.frb.banks.store .node (s.complete identityReport), responseActive := true } else s.frb)
      ∧ s.keeps t [.pvt, .hal, .hpc, .sgi, .frb])

/-- PEER_STALE, PEER_EXPIRED and LAST_ALERT_REMOVAL change freshness or last alert of one entry and hand it on. In a
steady state: a fresh entry of 60 ms passes to stale, and effective creep and with the GLU reading the vehicle grade
follow, the mass staying; a stale entry of 300 ms passes to expired and the result is current, with no report; a
last alert of 2 s is removed and nothing else changes. In SECURED with service retained an expiry also makes the
LINK advisory of the peer. -/
def Obligations.PeerAgesAreHandedOn : Prop :=
  (∀ (s : State) (n : Nat),
    s.steady →
    s.entryDue n (ms 60) .fresh = true →
    ∃ t, exec (.peerStale n) s = .next t
      ∧ t.pvt = s.pvt.setFreshness n .stale
      ∧ t.csu = s.csu.recompute t.pvt.entries
      ∧ (t.glu = if s.glu.reading then s.glu.chooseGrade t.pvt.entries else s.glu)
      ∧ t.glu.mass = s.glu.mass
      ∧ s.keeps t [.pvt, .csu, .glu, .hal, .hpc])
  ∧ (∀ (s : State) (n : Nat),
    s.steady →
    s.entryDue n (ms 300) .stale = true →
    ∃ t, exec (.peerExpired n) s = .next t
      ∧ t.pvt = s.pvt.setFreshness n .expired
      ∧ t.resultCurrent
      ∧ s.keeps t [.pvt, .hal, .hpc])
  ∧ (∀ (s : State) (n : Nat),
    s.retaining →
    s.entryDue n (ms 300) .stale = true →
    ∃ t, exec (.peerExpired n) s = .next t
      ∧ t.pvt = s.pvt.setFreshness n .expired
      ∧ t.frb = { s.frb with banks := s.frb.banks.store .link (s.complete (expiryReport n)) }
      ∧ s.keeps t [.pvt, .hal, .hpc, .cpr, .sgi, .frb])
  ∧ (∀ (s : State) (n : Nat),
    s.steady →
    s.alertDue n = true →
    ∃ t, exec (.lastAlertRemoval n) s = .next t
      ∧ t.pvt = s.pvt.dropAlert n
      ∧ (∀ e ∈ t.pvt.entries, e.node = n → e.lastAlert = none)
      ∧ s.keeps t [.pvt])

/-- An accepted Alert is kept as the last alert of its sender's entry, and in a hold a breach or insufficiency
raises node level to 4. A well-formed Alert of a peer replaces the last-alert part of that peer's entry, if there is
one. In a steady state nothing else changes. In SECURED with service retained, of cause breach or insufficient, node
level becomes 4 and own level stays; of cause SAFE entered or parked creep the levels stay. -/
def Obligations.AlertRaisesNodeLevel : Prop :=
  (∀ (s : State) (n : Nat) (data : List Byte) (a : LastAlert),
    s.steady →
    s.takesFrom n = true →
    n ≠ s.number →
    decodeAlert data = some a →
    ∃ t, exec (.alert n data) s = .next t
      ∧ t.pvt = s.pvt.takeAlert n a
      ∧ (∀ e ∈ t.pvt.entries, e.node = n → e.lastAlert = some a)
      ∧ s.keeps t [.pvt])
  ∧ (∀ (s : State) (n : Nat) (data : List Byte) (a : LastAlert),
    s.retaining →
    s.takesFrom n = true →
    n ≠ s.number →
    decodeAlert data = some a →
    ∃ t, exec (.alert n data) s = .next t
      ∧ t.pvt = s.pvt.takeAlert n a
      ∧ t.csu = { s.csu with nodeLevel := if a.cause = .breach ∨ a.cause = .insufficient then 4 else s.csu.nodeLevel }
      ∧ t.inPhase .secured = true
      ∧ s.keeps t [.pvt, .csu, .hal, .hpc, .cpr, .sgi])

/-- A station frame overwrites its record; RECORD_STALE passes it to stale; margin and result follow. In a steady
state that takes frames, a well-formed Cab status, Drive demand or Drum status overwrites its record whole, fresh
with age 0. A record of 200 ms passes to stale at RECORD_STALE. A drive record handed on leaves the result current,
and a drum record the effective margin formed from it, with a current result if it changed (that a drum record in
CONFIG uses the margins accepted so far is the model's choice, log entry 65). The drive rows ask, in RUN, for demand
in the frame or a vehicle not stationary, so that no capture follows in the same command. -/
def Obligations.StationRecordsAreKept : Prop :=
  (∀ (s : State) (data : List Byte) (x : CabFields),
    s.steady →
    s.receives = true →
    decodeCab data = some x →
    ∃ t, exec (.cabStatus data) s = .next t
      ∧ t.vir = { s.vir with cab := some (x, { age := 0, fresh := true }) }
      ∧ s.keeps t [.vir])
  ∧ (∀ (s : State) (data : List Byte) (x : DriveFields),
    s.steady →
    s.receives = true →
    decodeDrive data = some x →
    (s.mdc.mode ≠ .run ∨ (x.gear ≠ .neutral ∧ 0 < x.force) ∨ s.vehicleStationary = false) →
    ∃ t, exec (.driveDemand data) s = .next t
      ∧ t.vir = { s.vir with drive := some (x, { age := 0, fresh := true }) }
      ∧ (t.demand = if x.gear = .neutral ∨ x.force = 0 then none else some (x.gear, 10 * x.force))
      ∧ t.resultCurrent
      ∧ s.keeps t [.vir, .hal, .hpc])
  ∧ (∀ (s : State) (data : List Byte) (x : DrumFields),
    s.steady →
    s.receives = true →
    decodeDrum data = some x →
    ∃ t, exec (.drumStatus data) s = .next t
      ∧ t.vir = { s.vir with drum := some (x, { age := 0, fresh := true }) }
      ∧ t.hal.margin = s.mdc.settings.margin + (if 2 ≤ x.speed.natAbs
        ∨ x.discharge = true then s.mdc.settings.drumMargin else 0)
      ∧ (t.hal.margin ≠ s.hal.margin → t.resultCurrent)
      ∧ s.keeps t [.vir, .hal, .hpc])
  ∧ (∀ (s : State) (x : Station),
    s.steady →
    s.recordDue x = true →
    (x = .drive → s.mdc.mode ≠ .run ∨ s.vehicleStationary = false) →
    ∃ t, exec (.recordStale x) s = .next t
      ∧ t.vir = s.vir.setStale x
      ∧ (∀ a, t.vir.age x = some a → a.fresh = false)
      ∧ (x = .drive → t.demand = none ∧ t.resultCurrent)
      ∧ (x = .drum → t.hal.margin = s.mdc.settings.margin + s.mdc.settings.drumMargin)
      ∧ (x = .cab → t.driverAbsent = true ∧ t.ignition = s.ignition ∧ t.switchAuto = true)
      ∧ s.keeps t [.vir, .hal, .hpc])

/-- The capture conditions for 150 ms, or a peer's Alert, enter CAPTURING with the trapped pressure and a new
episode. In RELEASED with the position valid, the driver at the wheel with the ignition on, settings in range, no
fresh peer in a hold phase and no lane going wrong: CAPTURE_QUALIFYING_EXPIRY after 150 ms of the capture
conditions, and an Alert of a peer with the vehicle stationary and no drive demand, enter CAPTURING. P_cap is the
measured pressure clamped to P_max, P_hold starts there and rises to P_calc alone, the target is P_hold, the valves
leave pass-through, the anchor is the counter with own creep 0 and no flag, and node level is that of R24, the Alert
counted that brings the capture (R38). Without a valid position, stationary by two peers none of which gives creep,
a spring-fitted node (sensor not out of range, response flag clear) finds effective creep blind at the capture: the
anchor pending, both levels 4, SENSE severe, and SECURING in the same command. -/
def Obligations.CaptureEntersCapturing : Prop :=
  (∀ (s : State) (c : Instr) (n : Nat) (data : List Byte),
    s.inPhase .released = true →
    s.attended →
    s.wmt.positionValid = true →
    s.mdc.settings.ok →
    s.anyFreshHold = false →
    s.free.laneFault = none →
    ((c = .captureQualifyingExpiry ∧ s.captureConditions = true ∧ ms 150 ≤ s.hpc.qualifyingTime) ∨ (c = .alert n data
      ∧ s.takesFrom n = true ∧ n ≠ s.number ∧ (decodeAlert data).isSome = true ∧ s.vehicleStationary = true
        ∧ s.demand = none)) →
    ∃ t, exec c s = .next t
      ∧ (t.inPhase .capturing = true ∧ t.hpc.pCap = some (min s.mdc.settings.pMax s.cpr.measured)
        ∧ min s.mdc.settings.pMax s.cpr.measured ≤ t.hpc.pHold)
      ∧ (t.cpr.regulating = true ∧ t.cpr.target = t.hpc.pHold ∧ t.hpc.settleTime = 0 ∧ t.hpc.holdTime = 0)
      ∧ (t.hpc.releaseArmed = true ∧ t.hpc.handoverFailed = false ∧ t.hpc.retained = none)
      ∧ (t.csu.anchor = .held s.wmt.position ∧ t.csu.own = 0 ∧ t.csu.offset = 0 ∧ t.csu.ownValid = true
        ∧ t.csu.ownLevel = 0)
      ∧ (t.csu.notice = false ∧ t.csu.breach = false ∧ t.csu.creepGap = false ∧ t.csu.blind = false
        ∧ t.csu.nextPoint = s.mdc.settings.firstPoint)
      ∧ t.csu.nodeLevel = captureLevel t.pvt.entries
      ∧ (c = .captureQualifyingExpiry → s.hal.lanes = .agreed → t.hal.result = t.laneResult
        ∧ t.hpc.pHold = max (min s.mdc.settings.pMax s.cpr.measured) t.hal.result.pCalc)
      ∧ s.keeps t [.csu, .pvt, .hal, .hpc, .cpr, .sgi])
  ∧ (∀ s : State,
    s.captureConditions = true →
    ms 150 ≤ s.hpc.qualifyingTime →
    s.wmt.positionValid = false →
    (∀ p ∈ s.pvt.entries, p.freshness = .fresh → p.decl.phase.isHold = true → p.decl.creepValid = false) →
    s.spring = true →
    s.pad.sensor ≠ .outOfRange →
    s.frb.responseActive = false →
    s.free.laneFault = none →
    ∃ t, exec .captureQualifyingExpiry s = .next t
      ∧ (t.inPhase .securing = true ∧ t.hpc.pCap = some (min s.mdc.settings.pMax s.cpr.measured)
        ∧ t.hpc.request = true ∧ t.pad.asserted = true)
      ∧ (t.csu.anchor = .pending ∧ t.csu.ownValid = false ∧ t.csu.effective = none ∧ t.csu.blind = true
        ∧ t.csu.ownLevel = 4 ∧ t.csu.nodeLevel = 4)
      ∧ t.frb.responseActive = true
      ∧ (s.frb.banks.sense = none → t.frb.banks.sense.map (fun r => (r.severity, r.cls, r.element)) = some (.severe,
        .signal, some .creep))
      ∧ s.keeps t [.csu, .hal, .hpc, .cpr, .pad, .sgi, .frb])

/-- The settled report or 300 ms end CAPTURING in HOLDING; a settled report in HOLDING makes the pending withdrawal.
Without drive demand, with the driver at the wheel and no lane going wrong: in CAPTURING, CAPTURE_SETTLE_EXPIRY at
300 ms and SETTLED_REPORT at a reading that gives one enter HOLDING, with P_hold raised to the last P_calc and the
target P_hold clamped to P_max. In HOLDING with a withdrawal pending and no MDC request, a settled report withdraws
the line, with the withdraw drive on a spring-fitted node whose line stood. -/
def Obligations.CaptureEndsInHolding : Prop :=
  (∀ (s : State) (c : Instr) (p : Int),
    s.inPhase .capturing = true →
    s.demand = none →
    s.attended →
    s.free.laneFault = none →
    ((c = .captureSettleExpiry ∧ ms 300 ≤ s.hpc.settleTime) ∨ (c = .settledReport p ∧ s.cpr.reading = true
      ∧ (s.cpr.read p).2.settled = true)) →
    ∃ t, exec c s = .next t
      ∧ (t.inPhase .holding = true ∧ t.hpc.pHold = max s.hpc.pHold s.hpc.last.pCalc
        ∧ t.cpr.target = min s.mdc.settings.pMax t.hpc.pHold)
      ∧ (t.hpc.pCap = s.hpc.pCap ∧ t.hpc.holdTime = s.hpc.holdTime)
      ∧ s.keeps t [.hpc, .cpr, .sgi])
  ∧ (∀ (s : State) (p : Int),
    s.inPhase .holding = true →
    s.demand = none →
    s.attended →
    s.free.laneFault = none →
    s.hpc.withdrawalPending = true →
    s.pad.mdcRequest = false →
    s.cpr.reading = true →
    (s.cpr.read p).2.settled = true →
    ∃ t, exec (.settledReport p) s = .next t
      ∧ (t.inPhase .holding = true ∧ t.hpc.withdrawalPending = false ∧ t.pad.hpcRequest = .withdraw
        ∧ t.pad.asserted = false)
      ∧ (s.pad.asserted = true → s.spring = true → t.pad.drive = .withdraw ∧ t.pad.driveTime = 0
        ∧ t.pad.watch = .idle)
      ∧ t.cpr = (s.cpr.read p).1
      ∧ s.keeps t [.hpc, .cpr, .pad])

/-- A drive demand on the release conditions enters RELEASING; each 2.5 ms lowers the target to its goal; complete
is RELEASED, 4 s HOLDING. The release conditions are those of R107. In HOLDING with the driver at the wheel, the
lanes agreed, none going wrong and the conditions met but for the demand, a DRIVE_DEMAND that meets F_grav or is not
uphill enters RELEASING: the release record with the P_hold of that moment, the position if valid, travel and times
0 and the goal min(target, P_rel); the request WITHDRAW, the line as the MDC asks, insufficiency time 0, and unless
in BUS OFF a Declaration. In RELEASING with drive demand, an available release result and no lane going wrong,
RELEASE_RAMP_STEP takes 2.5 ms of the release time and lowers the target by 1 kPa unless it is at the goal. With the
new target at or below P_push and either a travel of 50 mm or a target of 0 the node is RELEASED in pass-through
with target 0, P_cap none and the episode ended; otherwise it stays in RELEASING at the new target. With the driver
at the wheel, RELEASE_TIME_EXPIRY at 4 s discards the record and enters HOLDING with P_hold the pre-release P_hold
raised to the last P_calc, the target P_hold clamped to P_max, and release armed clear while drive demand stands. -/
def Obligations.ReleaseRampsDownOrAborts : Prop :=
  (∀ (s : State) (r : ReleaseRecord),
    let v := if r.goal < s.cpr.target then s.cpr.target - 1 else s.cpr.target
    let done := v ≤ s.mdc.settings.pPush ∧ ((r.origin.isSome = true ∧ 50 ≤ r.travel) ∨ v = 0)
    s.inPhase .releasing = true →
    s.hpc.release = some r →
    25 ≤ r.rampTime →
    s.demand.isSome = true →
    s.hpc.last.release.isSome = true →
    s.free.laneFault = none →
    s.cpr.target ≤ s.mdc.settings.pMax →
    ∃ t, exec .releaseRampStep s = .next t
      ∧ (done → t.inPhase .released = true ∧ t.hpc.release = none ∧ t.hpc.pCap = none ∧ t.hpc.holdTime = 0
        ∧ t.cpr.regulating = false ∧ t.cpr.valves = .passThrough ∧ t.cpr.target = 0 ∧ t.csu.anchor = .absent
          ∧ t.csu.notice = false ∧ t.csu.nodeLevel = s.csu.nodeLevel ∧ t.resultCurrent)
      ∧ (¬ done → t.inPhase .releasing = true ∧ t.cpr.target = v
        ∧ t.hpc.release = some { r with rampTime := r.rampTime - 25 } ∧ t.csu = s.csu ∧ t.sgi = s.sgi)
      ∧ s.keeps t [.csu, .hal, .hpc, .cpr, .sgi])
  ∧ (∀ (s : State) (r : ReleaseRecord),
    s.inPhase .releasing = true →
    s.hpc.release = some r →
    sec 4 ≤ r.time →
    s.attended →
    s.free.laneFault = none →
    ∃ t, exec .releaseTimeExpiry s = .next t
      ∧ (t.inPhase .holding = true ∧ t.hpc.release = none ∧ t.hpc.pHold = max r.preHold s.hpc.last.pCalc
        ∧ t.cpr.target = min s.mdc.settings.pMax t.hpc.pHold)
      ∧ (t.hpc.releaseArmed = s.demand.isNone ∧ t.hpc.holdTime = s.hpc.holdTime)
      ∧ s.keeps t [.hpc, .cpr, .sgi])
  ∧ (∀ s : State,
    (s.releaseConditions = true ↔ (∃ g f, s.demand = some (g, f) ∧ (s.glu.uphill g = false
      ∨ s.hpc.last.fGrav ≤ 10 * f)) ∧ s.hpc.last.release.isSome = true ∧ s.csu.notice = false ∧ s.csu.nodeLevel ≤ 2
        ∧ s.rearControl = false ∧ s.frb.banks.releasePermitted = true ∧ (∀ p ∈ s.pvt.entries, p.freshness = .fresh
          → p.decl.releasePermitted = true) ∧ (∀ p ∈ s.pvt.entries, p.lastAlert = none) ∧ s.hpc.releaseArmed = true
            ∧ s.hpc.withdrawalPending = false))
  ∧ (∀ (s : State) (data : List Byte) (x : DriveFields),
    let r := ({ s with vir := { s.vir with drive := some (x, { age := 0, fresh := true }) } } : State).laneResult
    s.inPhase .holding = true →
    s.attended →
    s.free.laneFault = none →
    s.hal.lanes = .agreed →
    s.hpc.last.release = none →
    s.receives = true →
    decodeDrive data = some x →
    x.gear ≠ .neutral →
    0 < x.force →
    (s.glu.uphill x.gear = false ∨ r.fGrav ≤ 10 * (10 * x.force)) →
    s.csu.notice = false →
    s.csu.nodeLevel ≤ 2 →
    s.frb.banks.releasePermitted = true →
    (∀ p ∈ s.pvt.entries, (p.freshness = .fresh → p.decl.releasePermitted = true) ∧ p.lastAlert = none) →
    s.hpc.releaseArmed = true →
    s.hpc.withdrawalPending = false →
    s.cpr.target = min s.mdc.settings.pMax s.hpc.pHold →
    0 < s.cpr.target →
    ∃ t, exec (.driveDemand data) s = .next t
      ∧ (t.inPhase .releasing = true ∧ t.hpc.last = deliveryOf r ∧ t.hpc.pHold = max s.hpc.pHold r.pCalc
        ∧ t.cpr.target = min s.mdc.settings.pMax t.hpc.pHold)
      ∧ t.hpc.release = some
        { preHold := t.hpc.pHold, origin := if s.wmt.positionValid then some s.wmt.position else none, travel := 0, time := 0, rampTime := 0, goal := min t.cpr.target ((r.release.map ReleaseResult.pressure).getD 0) }
      ∧ (t.hpc.request = false ∧ t.pad.hpcRequest = .withdraw ∧ t.pad.asserted = s.pad.mdcRequest
        ∧ t.hpc.insufficiencyTime = 0 ∧ t.hpc.pCap = s.hpc.pCap)
      ∧ (s.spring = true → s.pad.asserted = true → s.pad.mdcRequest = false → t.pad.drive = .withdraw
        ∧ t.pad.driveTime = 0)
      ∧ (s.sgi.bus ≠ .off → ∃ f ∈ t.sgi.list, f.kind = .declaration)
      ∧ s.keeps t [.vir, .hal, .hpc, .cpr, .pad, .sgi])

/-- T_sec, 10 s of driver absence and 500 ms of insufficiency enter SECURING and assert the Park-Apply line. In
CAPTURING or HOLDING with handover failed clear and no lane going wrong, each of the three expiries at its limit
enters SECURING: the handover record with the pre-handover P_hold and stage CONFIRM on a spring-fitted node, WAIT on
another; the line asserted; target and P_hold kept; Notice re-armed; insufficiency placing its Alert. On a
spring-fitted node (sensor not out of range) a new assertion starts the apply drive and the confirm watch; on
another (a fresh spring-fitted peer not yet SECURED) no coil is driven. With handover failed set and no drive demand
the phase, its targets and the line stay, and insufficiency places its Alert all the same; that every
INSUFFICIENCY_TIME_EXPIRY sent while its time stands at 500 ms does so is the model's choice (log entry 30). -/
def Obligations.SecureTriggersHandOver : Prop :=
  (∀ (s : State) (c : Instr),
    (s.inPhase .capturing = true ∨ s.inPhase .holding = true) →
    s.hpc.handoverFailed = false →
    s.free.laneFault = none →
    s.spring = true →
    s.pad.sensor ≠ .outOfRange →
    ((c = .secureTimeExpiry ∧ sec s.mdc.settings.tSec ≤ s.hpc.holdTime) ∨ (c = .driverAbsentTimeExpiry
      ∧ s.driverAbsent = true ∧ sec 10 ≤ s.hpc.driverAbsentTime) ∨ (c = .insufficiencyTimeExpiry
        ∧ s.hpc.last.insufficient = true ∧ ms 500 ≤ s.hpc.insufficiencyTime)) →
    ∃ t, exec c s = .next t
      ∧ (t.inPhase .securing = true ∧ t.hpc.handover = some
        { preHold := s.hpc.pHold, stage := .confirm, stageTime := 0, noSpringReported := false })
      ∧ (t.hpc.holdTime = 0 ∧ t.hpc.insufficiencyTime = 0 ∧ t.hpc.releaseArmed = true
        ∧ t.hpc.withdrawalPending = false)
      ∧ (t.pad.hpcRequest = .assert ∧ t.pad.asserted = true ∧ t.hpc.pHold = s.hpc.pHold ∧ t.cpr = s.cpr)
      ∧ t.csu = { s.csu with notice := false, noticeBase := max 0 s.csu.alertCreep }
      ∧ (c = .insufficiencyTimeExpiry → s.sgi.bus ≠ .off → ∃ f ∈ t.sgi.list, f.kind = .alert
        ∧ f.data = encodeAlert .insufficient s.csu.nodeLevel s.csu.alertCreep)
      ∧ (s.pad.asserted = false → t.pad.drive = .apply ∧ t.pad.driveTime = 0 ∧ t.pad.watch = .waiting
        ∧ t.pad.confirmTime = 0)
      ∧ s.keeps t [.csu, .hpc, .pad, .sgi])
  ∧ (∀ (s : State) (c : Instr),
    (s.inPhase .capturing = true ∨ s.inPhase .holding = true) →
    s.hpc.handoverFailed = false →
    s.free.laneFault = none →
    s.spring = false →
    s.springPeers.any (fun e => e.decl.phase != .phase .secured) = true →
    ((c = .secureTimeExpiry ∧ sec s.mdc.settings.tSec ≤ s.hpc.holdTime) ∨ (c = .driverAbsentTimeExpiry
      ∧ s.driverAbsent = true ∧ sec 10 ≤ s.hpc.driverAbsentTime) ∨ (c = .insufficiencyTimeExpiry
        ∧ s.hpc.last.insufficient = true ∧ ms 500 ≤ s.hpc.insufficiencyTime)) →
    ∃ t, exec c s = .next t
      ∧ (t.inPhase .securing = true ∧ t.hpc.handover = some
        { preHold := s.hpc.pHold, stage := .wait, stageTime := 0, noSpringReported := false })
      ∧ (t.hpc.holdTime = 0 ∧ t.hpc.insufficiencyTime = 0 ∧ t.hpc.releaseArmed = true
        ∧ t.hpc.withdrawalPending = false)
      ∧ (t.pad.hpcRequest = .assert ∧ t.pad.asserted = true ∧ t.hpc.pHold = s.hpc.pHold ∧ t.cpr = s.cpr)
      ∧ t.csu = { s.csu with notice := false, noticeBase := max 0 s.csu.alertCreep }
      ∧ (c = .insufficiencyTimeExpiry → s.sgi.bus ≠ .off → ∃ f ∈ t.sgi.list, f.kind = .alert
        ∧ f.data = encodeAlert .insufficient s.csu.nodeLevel s.csu.alertCreep)
      ∧ (t.pad.drive = s.pad.drive ∧ t.pad.watch = s.pad.watch)
      ∧ s.keeps t [.csu, .hpc, .pad, .sgi])
  ∧ (∀ (s : State) (c : Instr),
    (s.inPhase .capturing = true ∨ s.inPhase .holding = true) →
    s.hpc.handoverFailed = true →
    s.demand = none →
    ((c = .secureTimeExpiry ∧ sec s.mdc.settings.tSec ≤ s.hpc.holdTime) ∨ (c = .driverAbsentTimeExpiry
      ∧ s.driverAbsent = true ∧ sec 10 ≤ s.hpc.driverAbsentTime) ∨ (c = .insufficiencyTimeExpiry
        ∧ s.hpc.last.insufficient = true ∧ ms 500 ≤ s.hpc.insufficiencyTime)) →
    ∃ t, exec c s = .next t
      ∧ (t.hpc.phase = s.hpc.phase ∧ t.hpc.handoverFailed = true ∧ t.hpc.pHold = s.hpc.pHold
        ∧ t.hpc.handover = s.hpc.handover)
      ∧ (c = .insufficiencyTimeExpiry → s.sgi.bus ≠ .off → ∃ f ∈ t.sgi.list, f.kind = .alert
        ∧ f.data = encodeAlert .insufficient s.csu.nodeLevel s.csu.alertCreep)
      ∧ s.keeps t [.hpc, .sgi])

/-- The handover goes through SETTLE or WAIT and RAMP to SECURED; a confirm timeout ends it, and a drive demand it
or SECURED, in HOLDING. In SECURING with ignition on, no drive-away and no lane going wrong. A spring chamber below
50 kPa in CONFIRM begins SETTLE with Notice re-armed. SETTLE of 1,000 ms ends in RAMP, or in SECURED with P_hold at
or below P_push. Each 5 ms of RAMP lowers the target by 1 kPa until it is at P_push, where SECURED is entered with
the target P_push, or the retained target. CONFIRM_TIMEOUT at 1,500 ms (no drive demand, response flag clear, SPRING
bank empty) returns to HOLDING at the pre-handover P_hold with handover failed and the line kept. A drive demand
that comes with the driver at the wheel aborts SECURING at any stage, and ends SECURED, in HOLDING: P_hold the
pre-handover P_hold raised to the P_calc delivered since, the target P_hold, hold time 0, retained none, the line
kept with its withdrawal pending. WAIT ends, Notice re-armed, when a fresh spring-fitted peer stands and each shows
SECURED; with none the SPRING advisory is made once. -/
def Obligations.HandoverRunsThroughItsStages : Prop :=
  (∀ (s : State) (h : HandoverRecord),
    s.inPhase .securing = true →
    s.hpc.handover = some h →
    h.stage = .settle →
    ms 1000 ≤ h.stageTime →
    s.ignition = true →
    s.driveAway = false →
    ∃ t, exec .handoverSettleExpiry s = .next t
      ∧ (s.mdc.settings.pPush < h.preHold → t.inPhase .securing = true
        ∧ t.hpc.handover = some { h with stage := .ramp, stageTime := 0 } ∧ t.cpr = s.cpr ∧ t.csu = s.csu)
      ∧ (h.preHold ≤ s.mdc.settings.pPush → t.inPhase .secured = true ∧ t.hpc.handover = none
        ∧ t.cpr.target = min s.mdc.settings.pMax (s.hpc.retained.getD s.mdc.settings.pPush) ∧ t.csu.notice = false)
      ∧ (t.hpc.pHold = s.hpc.pHold ∧ t.hpc.request = s.hpc.request)
      ∧ s.keeps t [.csu, .hpc, .cpr, .sgi])
  ∧ (∀ (s : State) (h : HandoverRecord),
    s.inPhase .securing = true →
    s.hpc.handover = some h →
    h.stage = .ramp →
    ms 5 ≤ h.stageTime →
    s.ignition = true →
    s.driveAway = false →
    s.cpr.target ≤ s.mdc.settings.pMax →
    ∃ t, exec .handoverRampStep s = .next t
      ∧ (s.mdc.settings.pPush < s.cpr.target - 1 → t.inPhase .securing = true
        ∧ t.hpc.handover = some { h with stageTime := h.stageTime - ms 5 } ∧ t.cpr.target = s.cpr.target - 1
          ∧ t.csu = s.csu)
      ∧ (s.cpr.target - 1 ≤ s.mdc.settings.pPush → t.inPhase .secured = true ∧ t.hpc.handover = none
        ∧ t.cpr.target = min s.mdc.settings.pMax (s.hpc.retained.getD s.mdc.settings.pPush) ∧ t.csu.notice = false)
      ∧ (t.hpc.pHold = s.hpc.pHold ∧ t.hpc.request = s.hpc.request)
      ∧ s.keeps t [.csu, .hpc, .cpr, .sgi])
  ∧ (∀ (s : State) (h : HandoverRecord) (p : Int),
    s.inPhase .securing = true →
    s.hpc.handover = some h →
    h.stage = .confirm →
    s.spring = true →
    s.pad.reading = true →
    s.pad.watch = .waiting →
    (-20 ≤ p ∧ p < 50) →
    ∃ t, exec (.springReading p) s = .next t
      ∧ (t.inPhase .securing = true ∧ t.hpc.handover = some { h with stage := .settle, stageTime := 0 }
        ∧ t.pad.watch = .confirmed ∧ t.csu.notice = false ∧ t.pad.asserted = s.pad.asserted)
      ∧ t.frb = s.frb
      ∧ s.keeps t [.csu, .hpc, .pad])
  ∧ (∀ (s : State) (h : HandoverRecord),
    s.inPhase .securing = true →
    s.hpc.handover = some h →
    h.stage = .confirm →
    s.spring = true →
    s.pad.watch = .waiting →
    ms 1500 ≤ s.pad.confirmTime →
    s.demand = none →
    s.free.laneFault = none →
    s.frb.responseActive = false →
    s.frb.banks.spring = none →
    ∃ t, exec .confirmTimeout s = .next t
      ∧ (t.inPhase .holding = true ∧ t.hpc.handoverFailed = true ∧ t.hpc.handover = none ∧ t.hpc.holdTime = 0
        ∧ t.hpc.request = s.hpc.request)
      ∧ (t.hpc.pHold = max h.preHold s.hpc.last.pCalc ∧ t.cpr.target = min s.mdc.settings.pMax t.hpc.pHold)
      ∧ t.pad = { s.pad with watch := .timedOut }
      ∧ t.frb = { banks := s.frb.banks.store .spring (s.complete confirmTimeoutReport), responseActive := true }
      ∧ s.keeps t [.hpc, .cpr, .pad, .sgi, .frb])
  ∧ (∀ (s : State) (data : List Byte) (x : DriveFields) (h : HandoverRecord),
    s.inPhase .securing = true →
    s.hpc.handover = some h →
    s.attended →
    s.demand = none →
    s.free.laneFault = none →
    s.receives = true →
    decodeDrive data = some x →
    x.gear ≠ .neutral →
    0 < x.force →
    s.cpr.regulating = true →
    ∃ t, exec (.driveDemand data) s = .next t
      ∧ (t.inPhase .holding = true ∧ t.hpc.handover = none ∧ t.hpc.holdTime = 0 ∧ t.hpc.withdrawalPending = true
        ∧ t.hpc.request = s.hpc.request)
      ∧ (t.hpc.pHold = max h.preHold t.hpc.last.pCalc
        ∨ t.hpc.pHold = max (max h.preHold s.hpc.last.pCalc) t.hpc.last.pCalc)
      ∧ (t.cpr.target = min s.mdc.settings.pMax t.hpc.pHold ∧ t.cpr.settleOwed = true)
      ∧ (s.hal.lanes = .agreed → t.hpc.last = deliveryOf t.laneResult)
      ∧ s.keeps t [.vir, .hal, .hpc, .cpr, .sgi])
  ∧ (∀ (s : State) (data : List Byte) (x : DriveFields),
    s.inPhase .secured = true →
    s.attended →
    s.demand = none →
    s.free.laneFault = none →
    s.receives = true →
    decodeDrive data = some x →
    x.gear ≠ .neutral →
    0 < x.force →
    s.cpr.regulating = true →
    ∃ t, exec (.driveDemand data) s = .next t
      ∧ (t.inPhase .holding = true ∧ t.hpc.handover = none ∧ t.hpc.holdTime = 0 ∧ t.hpc.withdrawalPending = true
        ∧ t.hpc.request = s.hpc.request)
      ∧ (t.hpc.pHold = max s.hpc.pHold t.hpc.last.pCalc
        ∨ t.hpc.pHold = max (max s.hpc.pHold s.hpc.last.pCalc) t.hpc.last.pCalc)
      ∧ (t.cpr.target = min s.mdc.settings.pMax t.hpc.pHold ∧ t.cpr.settleOwed = true)
      ∧ (s.hal.lanes = .agreed → t.hpc.last = deliveryOf t.laneResult)
      ∧ t.hpc.retained = none
      ∧ s.keeps t [.vir, .hal, .hpc, .cpr, .sgi])
  ∧ (∀ (s : State) (h : HandoverRecord),
    let peers := s.pvt.entries.filter (fun p => p.freshness == .fresh && p.decl.springFitted)
    s.inPhase .securing = true →
    s.hpc.handover = some h →
    h.stage = .wait →
    (peers = [] → h.noSpringReported = true → s.judgeWait h = s)
    ∧ (peers = [] → h.noSpringReported = false → s.free.laneFault = none
      → (s.judgeWait h).hpc.handover = some { h with noSpringReported := true }
        ∧ (s.judgeWait h).frb = { s.frb with banks := s.frb.banks.store .spring (s.complete noSpringReport) }
          ∧ (s.judgeWait h).hpc.phase = .securing)
    ∧ (peers ≠ [] → ¬ (∀ p ∈ peers, p.decl.phase = .phase .secured) → s.judgeWait h = s)
    ∧ (peers ≠ [] → (∀ p ∈ peers, p.decl.phase = .phase .secured) → s.mdc.settings.pPush < h.preHold
      → s.judgeWait h =
        { s with hpc := { s.hpc with handover := some { h with stage := .ramp, stageTime := 0 } }, csu := { s.csu with notice := false, noticeBase := max 0 (s.csu.effective.getD s.csu.lastEffective) } })
    ∧ (peers ≠ [] → (∀ p ∈ peers, p.decl.phase = .phase .secured) → h.preHold ≤ s.mdc.settings.pPush
      → (s.judgeWait h).inPhase .secured = true ∧ (s.judgeWait h).hpc.handover = none
        ∧ (s.judgeWait h).cpr.target = min s.mdc.settings.pMax (s.hpc.retained.getD s.mdc.settings.pPush)))

/-- At 1 s after a wake a pending WATCH request is granted, or stays pending while position or Notice refuses it. In
SECURED with service retained clear and ignition off, WAKE_HOLD_EXPIRY at 1 s of wake hold: with the position valid,
Notice clear and effective creep below the Notice point the node enters WATCH, the sample period 1 ms with v times
ten and LOW gain, the CPR in pass-through, CPR and GLU stopped, the transmit list empty, the controller STOPPED, the
line kept. Otherwise the request stays pending, its first refusal making the NODE advisory. Premise on the lanes for
the refusal. That the request is taken as pending while its grounds stand is the model's choice (log entry 38). -/
def Obligations.WatchRequestIsAnswered : Prop :=
  (∀ s : State,
    s.wakeHoldOver = true →
    s.requestsWatch = true →
    s.wmt.positionValid = true →
    s.csu.notice = false →
    s.csu.noticeReached s.mdc.settings = false →
    s.lineOk →
    s.pad.mdcRequest = false →
    ∃ t, exec .wakeHoldExpiry s = .next t
      ∧ (t.mdc.mode = .watch ∧ t.hpc.phase = .secured ∧ t.mdc.watchRequest = none)
      ∧ (t.wmt.slow = true ∧ t.wmt.v = s.wmt.v * 10 ∧ t.wmt.highGain = false ∧ t.wmt.learning = none
        ∧ t.wmt.position = s.wmt.position ∧ t.wmt.positionValid = true)
      ∧ (t.cpr.regulating = false ∧ t.cpr.valves = .passThrough ∧ t.cpr.reading = false ∧ t.cpr.sensor = .noReading
        ∧ t.cpr.measured = s.cpr.measured)
      ∧ (t.glu.reading = false ∧ t.glu.accelHistory = [] ∧ t.glu.loadHistory = []
        ∧ t.glu.vehicleGrade = s.glu.vehicleGrade ∧ t.glu.mass = s.glu.mass)
      ∧ (t.pad.asserted = s.pad.asserted ∧ t.pad.reading = false ∧ t.pad.drive = s.pad.drive)
      ∧ (t.sgi.list = [] ∧ t.sgi.inProgress = none ∧ t.sgi.bus = .stopped ∧ t.sgi.recovery = 0 ∧ t.sgi.rouseCount = 0)
      ∧ s.keeps t [.wmt, .glu, .hpc, .cpr, .pad, .sgi, .mdc])
  ∧ (∀ s : State,
    s.wakeHoldOver = true →
    s.requestsWatch = true →
    (s.wmt.positionValid = false ∨ s.csu.notice = true) →
    s.free.laneFault = none →
    ∃ t, exec .wakeHoldExpiry s = .next t
      ∧ (t.inPhase .secured = true ∧ t.mdc.watchRequest = some true)
      ∧ (s.mdc.watchRequest = some true → t.frb = s.frb)
      ∧ (s.mdc.watchRequest ≠ some true
        → t.frb = { s.frb with banks := s.frb.banks.store .node (s.complete watchRefusedReport) })
      ∧ s.keeps t [.hal, .hpc, .cpr, .sgi, .mdc, .frb])

/-- A chamber pressure reading is clamped and kept; the fifth out-of-range one running makes the severe VALVE
report. In a steady state with the CPR reading in pass-through and the response flag clear: a reading in −20..+1,050
kPa is kept clamped to 0..1,000, the run 0, the sensor VALID; another raises the run and keeps the measured
pressure; the one that brings the run to 5 makes the sensor OUT OF RANGE and the VALVE record, which with the bank
empty makes the declared capacity 0. CHAMBER_SENSOR_OUT_OF_RANGE is that reading and otherwise leaves everything
(log entry 5). -/
def Obligations.PressureReadingIsTaken : Prop :=
  (∀ (s : State) (p : Int),
    s.steady →
    s.cpr.reading = true →
    s.cpr.regulating = false →
    (-20 ≤ p ∧ p ≤ 1050) →
    ∃ t, exec (.pressureReading p) s = .next t
      ∧ t.cpr = { s.cpr with measured := (max 0 (min 1000 p)).toNat, rangeRun := 0, sensor := .valid }
      ∧ s.keeps t [.cpr])
  ∧ (∀ (s : State) (p : Int),
    s.steady →
    s.cpr.reading = true →
    s.cpr.regulating = false →
    (p < -20 ∨ 1050 < p) →
    s.cpr.rangeRun < 4 →
    ∃ t, exec (.pressureReading p) s = .next t
      ∧ t.cpr = { s.cpr with rangeRun := s.cpr.rangeRun + 1 }
      ∧ s.keeps t [.cpr])
  ∧ (∀ (s : State) (p : Int) (c : Instr),
    s.steady →
    s.cpr.reading = true →
    s.cpr.regulating = false →
    s.frb.responseActive = false →
    (p < -20 ∨ 1050 < p) →
    s.cpr.rangeRun = 4 →
    s.cpr.sensor ≠ .outOfRange →
    (c = .pressureReading p ∨ c = .chamberSensorOutOfRange p) →
    ∃ t, exec c s = .next t
      ∧ t.cpr = { s.cpr with rangeRun := 5, sensor := .outOfRange, settleTime := 0 }
      ∧ t.frb = { banks := s.frb.banks.store .valve (s.complete chamberSensorReport), responseActive := true }
      ∧ (s.frb.banks.valve = none → t.declaredCapacity = 0)
      ∧ s.keeps t [.hal, .hpc, .cpr, .sgi, .frb])
  ∧ (∀ (s : State) (p : Int),
    s.steady →
    s.cpr.regulating = false →
    ((-20 ≤ p ∧ p ≤ 1050) ∨ s.cpr.rangeRun ≠ 4 ∨ s.cpr.sensor = .outOfRange) →
    s.cpr.rangeRun ≤ 5 →
    (s.cpr.rangeRun = 5 → s.cpr.sensor = .outOfRange) →
    ∃ t, exec (.chamberSensorOutOfRange p) s = .next t
      ∧ s.keeps t [])

/-- A reading in REGULATING drives the chamber toward the band of its target, settles it after 50 ms, and times out
after 800 ms. For a CPR REGULATING with abandoned clear and an in-range reading: below the band it drives the apply
valve, above it the vent valve, with the time of an operation of that direction one reading on, one begun at this
reading at 1 (log entry 41) and a reversed one at 0. But where an operation of that direction has 799 ms or more, it
ends: hold-only, no operation, abandoned set, the timeout of its direction handed on and its report made unless made
before. Inside the band an operation present goes hold-only, and a settled report is given exactly when 50 ms are
full with one owed, which ends the operation. The fifth out-of-range reading running ends the operation hold-only,
with the severe report. The target stays. -/
def Obligations.RegulatedReadingDrivesToBand : Prop :=
  (∀ (k : Cpr) (p : Int),
    let m := (max 0 (min 1000 p)).toNat
    let dir := k.operation.map Operation.direction
    let time := (k.operation.map Operation.time).getD 0
    k.regulating = true →
    k.abandoned = false →
    (-20 ≤ p ∧ p ≤ 1050) →
    ((k.read p).1.measured = m ∧ (k.read p).1.sensor = .valid ∧ (k.read p).1.target = k.target
      ∧ (k.read p).1.regulating = true)
    ∧ (m + 15 < k.target → dir = some .apply → 799 ≤ time → (k.read p).2.applyTimeout = true
      ∧ (k.read p).1.valves = .holdOnly ∧ (k.read p).1.operation = none ∧ (k.read p).1.abandoned = true
        ∧ (k.read p).1.applyReported = true
          ∧ (k.read p).2.reports = (if k.applyReported then [] else [applyTimeoutReport]))
    ∧ (m + 15 < k.target → dir ≠ some .apply ∨ time < 799 → (k.read p).2.applyTimeout = false
      ∧ (k.read p).1.valves = .applying
        ∧ (k.read p).1.operation = some
          { direction := .apply, time := if dir = some .apply then time + 1 else if dir = none then 1 else 0 }
            ∧ (k.read p).1.abandoned = false ∧ (k.read p).2.reports = [])
    ∧ (m + 15 < k.target → (k.read p).2.ventTimeout = false ∧ (k.read p).2.settled = false
      ∧ (k.read p).1.settleTime = 0)
    ∧ (k.target + 15 < m → dir = some .vent → 799 ≤ time → (k.read p).2.ventTimeout = true
      ∧ (k.read p).1.valves = .holdOnly ∧ (k.read p).1.operation = none ∧ (k.read p).1.abandoned = true
        ∧ (k.read p).1.ventReported = true
          ∧ (k.read p).2.reports = (if k.ventReported then [] else [ventTimeoutReport]))
    ∧ (k.target + 15 < m → dir ≠ some .vent ∨ time < 799 → (k.read p).2.ventTimeout = false
      ∧ (k.read p).1.valves = .venting
        ∧ (k.read p).1.operation = some
          { direction := .vent, time := if dir = some .vent then time + 1 else if dir = none then 1 else 0 }
            ∧ (k.read p).1.abandoned = false ∧ (k.read p).2.reports = [])
    ∧ (k.target + 15 < m → (k.read p).2.applyTimeout = false ∧ (k.read p).2.settled = false
      ∧ (k.read p).1.settleTime = 0)
    ∧ (k.target ≤ m + 15 → m ≤ k.target + 15 → (k.operation.isSome = true → (k.read p).1.valves = .holdOnly)
      ∧ ((k.read p).2.settled = true ↔ 50 ≤ k.settleTime + 1 ∧ (k.settleOwed = true ∨ k.sensor = .outOfRange))
        ∧ (k.read p).2.applyTimeout = false ∧ (k.read p).2.ventTimeout = false)
    ∧ ((k.read p).2.settled = true → (k.read p).1.operation = none ∧ (k.read p).1.valves = .holdOnly
      ∧ (k.read p).1.settleOwed = false))
  ∧ (∀ (k : Cpr) (p : Int),
    k.regulating = true →
    (p < -20 ∨ 1050 < p) →
    4 ≤ k.rangeRun →
    k.sensor ≠ .outOfRange →
    ((k.read p).1.valves = .holdOnly ∧ (k.read p).1.operation = none ∧ (k.read p).1.sensor = .outOfRange
      ∧ (k.read p).1.measured = k.measured ∧ (k.read p).2.reports = [chamberSensorReport]))

/-- An apply timeout in HOLDING ends a pending withdrawal with the line kept; a vent timeout withholds release. In
HOLDING with the driver at the wheel, no drive demand, P_hold at P_max or above, the VALVE bank empty, the response
flag clear and no lane going wrong: APPLY_TIMEOUT at the reading that times out ends a pending withdrawal, keeps
request and line, and makes the severe VALVE record with hold-compromised; VENT_TIMEOUT leaves the withdrawal
pending and makes the degraded one, so that release-permitted is no. Each is reported at the first timeout of its
direction. -/
def Obligations.TimeoutsAreAnsweredInHolding : Prop :=
  (∀ (s : State) (p : Int),
    s.inPhase .holding = true →
    s.attended →
    s.demand = none →
    s.free.laneFault = none →
    s.mdc.settings.pMax ≤ s.hpc.pHold →
    s.frb.banks.valve = none →
    s.frb.responseActive = false →
    s.cpr.reading = true →
    s.cpr.applyReported = false →
    (s.cpr.read p).2.applyTimeout = true →
    ∃ t, exec (.applyTimeout p) s = .next t
      ∧ (t.inPhase .holding = true ∧ t.hpc.withdrawalPending = false ∧ t.hpc.request = s.hpc.request ∧ t.pad = s.pad)
      ∧ (t.cpr = (s.cpr.read p).1 ∧ t.cpr.valves = .holdOnly ∧ t.cpr.operation = none ∧ t.cpr.abandoned = true
        ∧ t.cpr.applyReported = true)
      ∧ t.frb = { banks := s.frb.banks.store .valve (s.complete applyTimeoutReport), responseActive := true }
      ∧ t.declaredCapacity = 0
      ∧ s.keeps t [.hal, .hpc, .cpr, .sgi, .frb])
  ∧ (∀ (s : State) (p : Int),
    s.inPhase .holding = true →
    s.attended →
    s.demand = none →
    s.free.laneFault = none →
    s.frb.banks.valve = none →
    s.cpr.reading = true →
    s.cpr.ventReported = false →
    (s.cpr.read p).2.ventTimeout = true →
    ∃ t, exec (.ventTimeout p) s = .next t
      ∧ (t.inPhase .holding = true ∧ t.hpc.withdrawalPending = s.hpc.withdrawalPending ∧ t.pad = s.pad)
      ∧ (t.cpr = (s.cpr.read p).1 ∧ t.cpr.valves = .holdOnly ∧ t.cpr.abandoned = true ∧ t.cpr.ventReported = true)
      ∧ t.frb = { s.frb with banks := s.frb.banks.store .valve (s.complete ventTimeoutReport) }
      ∧ t.declared.releasePermitted = false
      ∧ s.keeps t [.hpc, .cpr, .sgi, .frb])

/-- A readback that differs from its latch for 20 ms is reported once, for each of the three valves. In a steady
state or in INIT, with the response flag clear and at most one valve due at the sample: each mismatch time rises by
1 ms while readback and latch differ, to 20, and is 0 with the mark cleared when they agree. Due is a valve whose
readback differs, whose time reaches 20 ms and which has not been reported in this mismatch: it alone is marked
reported and makes the severe VALVE record of its element; a valve reported before, below 20 ms or in agreement
makes none. READBACK_SAMPLE always is such a sample; READBACK_MISMATCH is one at which a valve is due, and otherwise
leaves everything (log entry 5). The valves stay as they are driven. -/
def Obligations.ReadbackMismatchIsReported : Prop :=
  (∀ (s : State) (h a v : Bool) (c : Instr) (happens : Bool),
    let miss : Readback → Bool → Bool → Bool := fun r x l => x != l && !r.reported && decide (19 ≤ r.mismatch)
    let watch : Readback → Bool → Bool
      → Readback := fun r x l => if x = l then { current := x, mismatch := 0, reported := false } else
        { current := x, mismatch := min 20 (r.mismatch + 1), reported := r.reported || decide (19 ≤ r.mismatch) }
    let due : List Element := (if miss s.cpr.holdBack h s.cpr.valves.hold then [.holdValve] else []) ++ (if miss
      s.cpr.applyBack a s.cpr.valves.apply then [.applyValve] else []) ++ (if miss s.cpr.ventBack v s.cpr.valves.vent
        then [.ventValve] else [])
    (s.steady ∨ s.mdc.mode = .init) →
    s.frb.responseActive = false →
    due.length ≤ 1 →
    (c, happens) ∈ [(.readbackSample h a v, true), (.readbackMismatch h a v, !due.isEmpty)] →
    ∃ t, exec c s = .next t
      ∧ (happens = true → t.cpr =
        { s.cpr with holdBack := watch s.cpr.holdBack h s.cpr.valves.hold, applyBack := watch s.cpr.applyBack a s.cpr.valves.apply, ventBack := watch s.cpr.ventBack v s.cpr.valves.vent })
      ∧ (happens = true → due = [] → t.frb = s.frb)
      ∧ (happens = true → ∀ e ∈ due, t.frb =
        { banks := s.frb.banks.store .valve (s.complete { bank := .valve, severity := .severe, cls := .consistency, element := some e, holdCompromised := true, releasePermitted := false }), responseActive := true })
      ∧ (happens = false → s.keeps t [])
      ∧ s.keeps t [.hal, .hpc, .cpr, .sgi, .frb])

/-- DRIVE_TIME, SAFE_DWELL, RELIEF_TIME and ROUSE_WINDOW expiries and the key line change their own field alone. A
coil drive of 100 ms ends; a SAFE dwell of 2 s is done; a relief time of 120 s lowers the restart counter by one,
not below 0, and starts again; a rouse window of 2 ms in WATCH returns the count to 0, and a first or second
dominant phase raises it, the first starting the window; an edge of the key line is its new level, in SAFE also
where the edge is disregarded. Nothing else changes. That the ended drive's time and the ended window are 0 is the
model's choice (log entries 67 and 68). -/
def Obligations.TimesRunOutAtTheirLimits : Prop :=
  (∀ s : State,
    s.steady →
    s.pad.drive ≠ .idle →
    ms 100 ≤ s.pad.driveTime →
    ∃ t, exec .driveTimeExpiry s = .next t
      ∧ t.pad = { s.pad with drive := .idle, driveTime := 0 }
      ∧ s.keeps t [.pad])
  ∧ (∀ s : State,
    s.steady →
    s.mdc.mode = .safe →
    sec 2 ≤ s.mdc.dwellTime →
    ∃ t, exec .safeDwellExpiry s = .next t
      ∧ t.mdc.lasting = { s.mdc.lasting with dwellDone := true }
      ∧ s.keeps t [.mdc])
  ∧ (∀ s : State,
    s.steady →
    s.mdc.mode = .run →
    sec 120 ≤ s.mdc.reliefTime →
    ∃ t, exec .reliefTimeExpiry s = .next t
      ∧ t.mdc.lasting = { s.mdc.lasting with restartCounter := s.mdc.restartCounter - 1, reliefTime := 0 }
      ∧ s.keeps t [.mdc])
  ∧ (∀ s : State,
    s.mdc.mode = .watch →
    s.csu.noticeReached s.mdc.settings = false →
    0 < s.sgi.rouseCount →
    ms 2 ≤ s.sgi.rouseWindow →
    ∃ t, exec .rouseWindowExpiry s = .next t
      ∧ t.sgi = { s.sgi with rouseCount := 0, rouseWindow := 0 }
      ∧ s.keeps t [.sgi])
  ∧ (∀ s : State,
    s.mdc.mode = .watch →
    s.csu.noticeReached s.mdc.settings = false →
    s.sgi.rouseCount < 2 →
    ∃ t, exec .qualifyingDominantPhase s = .next t
      ∧ t.sgi = { s.sgi with rouseCount := s.sgi.rouseCount + 1, rouseWindow := if s.sgi.rouseCount = 0 then 0 else s.sgi.rouseWindow }
      ∧ s.keeps t [.sgi])
  ∧ (∀ s : State,
    (s.steady ∨ (s.mdc.mode = .watch ∧ s.csu.noticeReached s.mdc.settings = false)) →
    ∃ t, exec .keyLineFallingEdge s = .next t
      ∧ t.mdc.lasting = { s.mdc.lasting with key := false }
      ∧ s.keeps t [.mdc])
  ∧ (∀ s : State,
    s.steady →
    (s.mdc.mode = .safe → s.mdc.dwellDone = false ∨ s.frb.banks.anySevere = true) →
    ∃ t, exec .keyLineEdge s = .next t
      ∧ t.mdc.lasting = { s.mdc.lasting with key := true }
      ∧ s.keeps t [.mdc])

/-- A spring chamber reading is kept, confirms a waiting watch below 50 kPa, and reports range, confirm timeout and
confirm lost. In a steady state of a spring-fitted node with the PAD reading and the response flag clear: an
in-range reading is kept clamped, run 0, sensor VALID, confirms a WAITING watch below 50 kPa, and with a confirmed
watch and the line standing adds 10 ms to the confirm-lost time at 100 kPa or more, to 500, and returns it to 0
below; the reading that brings it to 500 first makes CONFIRM LOST. Out of range: below the fifth the run rises
alone; the fifth makes the sensor OUT OF RANGE, the lost time 0 and a WAITING watch TIMED OUT; later ones change
nothing. Range (degraded), timeout (severe) and loss (degraded) make their SPRING reports in this order.
SPRING_SENSOR_OUT_OF_RANGE and CONFIRM_LOST are such readings when their report is due, and otherwise leave
everything (log entry 5). CONFIRM_TIMEOUT at 1,500 ms makes the severe report. Line and drive stay. -/
def Obligations.SpringReadingIsTaken : Prop :=
  (∀ (s : State) (p : Int) (c : Instr) (happens : Bool),
    let inside := decide (-20 ≤ p) && decide (p ≤ 1050)
    let m := (max 0 (min 1000 p)).toNat
    let watch := if inside = true ∧ s.pad.watch = .waiting ∧ m < 50 then Watch.confirmed else s.pad.watch
    let onset := !inside && decide (4 ≤ s.pad.rangeRun) && s.pad.sensor != .outOfRange
    let timed := onset && s.pad.watch == .waiting
    let lost := inside && watch == .confirmed && s.pad.asserted && decide (100 ≤ m) && decide (490 ≤ s.pad.lostTime)
      && !s.pad.lostReported
    let reps := (if onset then [springSensorReport] else []) ++ (if timed then [confirmTimeoutReport] else []) ++ (if
      lost then [confirmLostReport] else [])
    s.steady →
    s.spring = true →
    s.pad.reading = true →
    s.frb.responseActive = false →
    (c, happens) ∈ [(.springReading p, true), (.springSensorOutOfRange p, onset), (.confirmLost p, lost)] →
    ∃ t, exec c s = .next t
      ∧ (happens = true → inside = true
        → t.pad = { s.pad with pressure := m, rangeRun := 0, sensor := .valid, watch := watch, lostTime := if watch = .confirmed ∧ s.pad.asserted = true then (if 100 ≤ m then min 500 (s.pad.lostTime + 10) else 0) else s.pad.lostTime, lostReported := s.pad.lostReported || lost })
      ∧ (happens = true → inside = false → s.pad.rangeRun < 4 → t.pad = { s.pad with rangeRun := s.pad.rangeRun + 1 })
      ∧ (happens = true → onset = true
        → t.pad = { s.pad with sensor := .outOfRange, rangeRun := 5, lostTime := 0, watch := if s.pad.watch = .waiting then .timedOut else s.pad.watch })
      ∧ (happens = true → inside = false → 4 ≤ s.pad.rangeRun → onset = false → t.pad = s.pad)
      ∧ (happens = true → t.frb =
        { banks := reps.foldl (fun k r => k.store .spring (s.complete r)) s.frb.banks, responseActive := timed })
      ∧ ((springSensorReport.severity, springSensorReport.cls, springSensorReport.element) = (.degraded, .range,
        some .springSensor) ∧ (confirmTimeoutReport.severity, confirmTimeoutReport.cls,
          confirmTimeoutReport.element) = (.severe, .timing, some .parkApplyValve)
            ∧ (confirmLostReport.severity, confirmLostReport.cls, confirmLostReport.element) = (.degraded,
              .consistency, some .parkApplyValve))
      ∧ (happens = false → s.keeps t [])
      ∧ s.keeps t [.hal, .hpc, .pad, .sgi, .frb])
  ∧ (∀ s : State,
    s.steady →
    s.spring = true →
    s.pad.watch = .waiting →
    ms 1500 ≤ s.pad.confirmTime →
    s.frb.responseActive = false →
    ∃ t, exec .confirmTimeout s = .next t
      ∧ t.pad = { s.pad with watch := .timedOut }
      ∧ t.frb = { banks := s.frb.banks.store .spring (s.complete confirmTimeoutReport), responseActive := true }
      ∧ s.keeps t [.hal, .hpc, .pad, .sgi, .frb])

/-- The first frame of the list is offered, kept at a loss, removed at a success unless replaced; the timer places a
Declaration. In a steady state: FRAME_OFFER makes the first frame of the list the transmission in progress;
ARBITRATION_LOST ends it with the list as it stands; TRANSMIT_SUCCESS ends it with the transmit error count one
lower, not below 0, and the frame removed unless it was replaced; DECLARATION_TIMER_EXPIRY at 20 ms in RUN or SAFE
leaves, unless in BUS OFF, a Declaration of the fields as their owners hold them, and the timer at 0. That the timer
starts again in BUS OFF too is the model's choice (log entry 27). -/
def Obligations.TransmissionFollowsTheList : Prop :=
  (∀ (s : State) (f : TxFrame) (l : List TxFrame),
    s.steady →
    s.sgi.joined = true →
    s.sgi.list = f :: l →
    s.sgi.inProgress = none →
    ∃ t, exec .frameOffer s = .next t
      ∧ t.sgi = { s.sgi with inProgress := some { frame := f, replaced := false } }
      ∧ s.keeps t [.sgi])
  ∧ (∀ s : State,
    s.steady →
    ∃ t, exec .arbitrationLost s = .next t
      ∧ t.sgi = { s.sgi with inProgress := none }
      ∧ s.keeps t [.sgi])
  ∧ (∀ (s : State) (x : Transmission),
    s.steady →
    s.sgi.joined = true →
    s.sgi.countsOk →
    s.sgi.inProgress = some x →
    ∃ t, exec .transmitSuccess s = .next t
      ∧ (t.sgi.inProgress = none ∧ t.sgi.txErrors = s.sgi.txErrors - 1 ∧ t.sgi.rxErrors = s.sgi.rxErrors)
      ∧ (t.sgi.list = if x.replaced then s.sgi.list else s.sgi.list.eraseP (fun f => f.kind == x.frame.kind))
      ∧ (t.sgi.bus = if t.sgi.txErrors < 128 ∧ t.sgi.rxErrors < 128 then .active else .passive)
      ∧ s.keeps t [.sgi])
  ∧ (∀ s : State,
    s.steady →
    s.mdc.mode ≠ .config →
    ms 20 ≤ s.sgi.declarationTimer →
    ∃ t, exec .declarationTimerExpiry s = .next t
      ∧ t.sgi.declarationTimer = 0
      ∧ (s.sgi.bus ≠ .off → ∃ f ∈ t.sgi.list, f.kind = .declaration ∧ f.id = frameId s.number .declaration
        ∧ f.data = encodeDeclaration s.declared s.pad.asserted)
      ∧ (s.sgi.bus = .off → t.sgi.list = s.sgi.list)
      ∧ s.keeps t [.sgi])

/-- Errors and successes move the counts, the counts the bus state, and runs of recessive bits the joining and the
recovery. In a steady state with the bus state as the counts give it: TRANSMIT_ERROR ends the attempt with the
transmit count 8 higher, above 255 in BUS OFF with the list empty and the LINK degraded report; RECEIVE_ERROR raises
the receive count by 1 to at most 255 and SUCCESSFUL_RECEPTION lowers it; an entry into ERROR PASSIVE makes the LINK
advisory. RECESSIVE_RUN joins a STOPPED controller with counts 0, counts in BUS OFF, at 128 recovering with counts 0
and, in RUN or SAFE, a Declaration, and is nothing in the other states. -/
def Obligations.ErrorCountsDriveBusState : Prop :=
  (∀ (s : State) (c : Instr) (tx rx : Nat),
    s.steady →
    s.sgi.countsOk →
    ((c = .transmitError ∧ s.sgi.joined = true ∧ s.sgi.inProgress.isSome = true ∧ tx = s.sgi.txErrors + 8 ∧ tx ≤ 255
      ∧ rx = s.sgi.rxErrors) ∨ (c = .receiveError ∧ s.receives = true ∧ tx = s.sgi.txErrors
        ∧ rx = min 255 (s.sgi.rxErrors + 1)) ∨ (c = .successfulReception ∧ s.receives = true ∧ tx = s.sgi.txErrors
          ∧ rx = s.sgi.rxErrors - 1)) →
    ∃ t, exec c s = .next t
      ∧ (t.sgi.txErrors = tx ∧ t.sgi.rxErrors = rx)
      ∧ (t.sgi.bus = if tx < 128 ∧ rx < 128 then .active else .passive)
      ∧ t.frb = { s.frb with banks := if s.sgi.bus = .active ∧ ¬ (tx < 128 ∧ rx < 128) then s.frb.banks.store .link (s.complete errorPassiveReport) else s.frb.banks }
      ∧ (c = .transmitError → t.sgi.inProgress = none)
      ∧ s.keeps t [.hal, .hpc, .sgi, .frb])
  ∧ (∀ s : State,
    s.steady →
    s.sgi.joined = true →
    s.sgi.inProgress.isSome = true →
    247 < s.sgi.txErrors →
    ∃ t, exec .transmitError s = .next t
      ∧ (t.sgi.bus = .off ∧ t.sgi.list = [] ∧ t.sgi.inProgress = none ∧ t.sgi.recovery = 0 ∧ 255 < t.sgi.txErrors)
      ∧ t.frb = { s.frb with banks := s.frb.banks.store .link (s.complete busOffReport) }
      ∧ s.keeps t [.hal, .hpc, .sgi, .frb])
  ∧ (∀ s : State,
    s.steady →
    ∃ t, exec .recessiveRun s = .next t
      ∧ (s.sgi.bus = .stopped → t.sgi = { s.sgi with bus := .active, txErrors := 0, rxErrors := 0, recovery := 0 })
      ∧ (s.sgi.bus = .off → s.sgi.recovery < 127 → t.sgi = { s.sgi with recovery := s.sgi.recovery + 1 })
      ∧ (s.sgi.bus = .off → 127 ≤ s.sgi.recovery → t.sgi.bus = .active ∧ t.sgi.txErrors = 0 ∧ t.sgi.rxErrors = 0
        ∧ t.sgi.recovery = 0 ∧ (s.mdc.mode ≠ .config → ∃ f ∈ t.sgi.list, f.kind = .declaration))
      ∧ (s.sgi.bus = .active ∨ s.sgi.bus = .passive → t.sgi = s.sgi)
      ∧ s.keeps t [.sgi])

/-- A rouse, a rising key line or parked creep returns WATCH to RUN in SECURED, with a Rouse and a Declaration
placed. In WATCH with the line standing, effective creep present below the Notice point, no drive-away and no lane
going wrong: a rising edge of the key line, and the third qualifying dominant phase in the window, return to RUN in
SECURED with wake hold and relief time 0, the sample period 100 µs and v divided by ten, the CPR REGULATING and
reading at the target of SECURED, GLU and PAD reading, the line kept, and unless in BUS OFF a Rouse of eight zero
bytes and a Declaration on the list. A wheel sample in WATCH (GLU stopped) at which effective creep reaches the
Notice point is parked creep: Notice latched, both levels 4, the return as for a wake but with P_max retained as the
target, and, on the list that WATCH left empty, an Alert of cause parked creep, level 4 and effective creep. A rouse
or a rising key line that finds effective creep blind, with an anchor and the response flag clear, is an onset of
blind creep: blind, both levels 4, SENSE severe, SECURED kept (R29; log entry 23). -/
def Obligations.WakeReturnsToSecured : Prop :=
  (∀ (s : State) (c : Instr),
    s.wakes →
    (c = .keyLineEdge ∨ (c = .qualifyingDominantPhase ∧ 2 ≤ s.sgi.rouseCount)) →
    ∃ t, exec c s = .next t
      ∧ (t.inPhase .secured = true ∧ t.mdc.wakeHold = 0 ∧ t.mdc.woken = true ∧ t.mdc.reliefTime = 0)
      ∧ t.wmt = { s.wmt.changePeriod false with v := Int.tdiv s.wmt.v 10, highGain := false }
      ∧ (t.cpr.regulating = true ∧ t.cpr.reading = true ∧ t.glu.reading = true ∧ t.pad.reading = true
        ∧ t.pad.asserted = s.pad.asserted ∧ t.pad.drive = s.pad.drive)
      ∧ (s.hpc.retained = none → t.cpr.target = min s.mdc.settings.pMax s.mdc.settings.pPush)
      ∧ t.hal.margin = effectiveMargin s.mdc.settings s.drumCounts
      ∧ (s.sgi.bus ≠ .off → (∃ f ∈ t.sgi.list, f.kind = .rouse ∧ f.id = 0 ∧ f.data = List.replicate 8 0#8)
        ∧ ∃ f ∈ t.sgi.list, f.kind = .declaration)
      ∧ s.keeps t [.wmt, .glu, .hal, .hpc, .cpr, .pad, .sgi, .mdc, .frb])
  ∧ (∀ (s : State) (a b : Code),
    let u := (s.csu.sampleCreep (s.wheel a b).1 s.glu s.mdc.settings (s.wheel a b).2.gap).recompute s.pvt.entries
    s.mdc.mode = .watch →
    s.hpc.phase = .secured →
    s.lineOk →
    s.pad.mdcRequest = false →
    s.driveAway = false →
    s.free.laneFault = none →
    s.mdc.settings.ok →
    s.glu.reading = false →
    s.wmt.sampling = true →
    s.csu.anchor ≠ .absent →
    (s.wheel a b).2.reports = [] →
    (s.wheel a b).1.positionValid = true →
    u.noticeReached s.mdc.settings = true →
    ∃ t, exec (.wheelSample a b) s = .next t
      ∧ (t.inPhase .secured = true ∧ t.hpc.retained = some s.mdc.settings.pMax ∧ t.cpr.target = s.mdc.settings.pMax
        ∧ t.cpr.regulating = true ∧ t.mdc.wakeHold = 0 ∧ t.mdc.woken = true ∧ t.mdc.reliefTime = 0)
      ∧ t.csu = { u with notice := true, ownLevel := 4, nodeLevel := 4 }
      ∧ (t.wmt = { (s.wheel a b).1.changePeriod false with v := Int.tdiv (s.wheel a b).1.v 10, highGain := false }
        ∧ t.cpr.reading = true ∧ t.glu.reading = true ∧ t.pad.reading = true ∧ t.pad.asserted = s.pad.asserted)
      ∧ (s.sgi.bus ≠ .off → s.sgi.list = [] → (∃ f ∈ t.sgi.list, f.kind = .rouse)
        ∧ (∃ f ∈ t.sgi.list, f.kind = .declaration) ∧ ∃ f ∈ t.sgi.list, f.kind = .alert
          ∧ f.data = encodeAlert .parkedCreep 4 u.alertCreep)
      ∧ s.keeps t [.wmt, .csu, .glu, .hal, .hpc, .cpr, .pad, .sgi, .mdc, .frb])
  ∧ (∀ (s : State) (c : Instr),
    s.mdc.mode = .watch →
    s.hpc.phase = .secured →
    s.lineOk →
    s.pad.mdcRequest = false →
    s.driveAway = false →
    s.free.laneFault = none →
    s.csu.anchor ≠ .absent →
    s.csu.effective = none →
    s.frb.responseActive = false →
    (c = .keyLineEdge ∨ (c = .qualifyingDominantPhase ∧ 2 ≤ s.sgi.rouseCount)) →
    ∃ t, exec c s = .next t
      ∧ (t.inPhase .secured = true ∧ t.mdc.wakeHold = 0 ∧ t.mdc.woken = true ∧ t.pad.asserted = s.pad.asserted)
      ∧ t.csu = { s.csu with blind := true, ownLevel := 4, nodeLevel := 4 }
      ∧ t.frb.responseActive = true
      ∧ (s.frb.banks.sense = none → t.frb.banks.sense.map (fun r => (r.severity, r.cls, r.element,
        r.activity)) = some (.severe, .signal, some .creep, .inPhase .secured))
      ∧ s.keeps t [.wmt, .csu, .glu, .hal, .hpc, .cpr, .pad, .sgi, .mdc, .frb])

/-- READ STATUS, READ BANK, READ PEER and an undefined command are answered by one reply in its place; a fourth is
discarded. In a steady state that receives, with fewer than three replies pending, a request to the own number is
answered at its arrival by one reply, placed behind the earlier ones and echoing command and argument: READ STATUS
with the status payload; READ BANK with the bank's record, or zeros; READ PEER with the part of the entry, or zeros,
its high bits 0; a bank above 5, a peer number that is 0, above 8 or the own, a part 3, and a command outside 1..6
with BAD ARGUMENT and zeros. With three pending every request of the seven rows makes the LINK advisory "service
overrun" alone. Nothing else changes. -/
def Obligations.ServiceRequestsAreAnswered : Prop :=
  (∀ (s : State) (a : Byte),
    s.steady →
    s.receives = true →
    s.sgi.replies < 3 →
    ∃ t, exec (.readStatus s.number [1, a]) s = .next t
      ∧ t.sgi = { s.sgi with list := insertFrame { kind := .reply, id := frameId s.number .reply, data := 0 :: 1 :: a :: s.statusPayload } s.sgi.list }
      ∧ s.keeps t [.sgi])
  ∧ (∀ (s : State) (a : Byte),
    s.steady →
    s.receives = true →
    s.sgi.replies < 3 →
    ∃ t, exec (.readBank s.number [2, a]) s = .next t
      ∧ (∀ b, bankOfCode a.toNat = some b
        → t.sgi = { s.sgi with list := insertFrame { kind := .reply, id := frameId s.number .reply, data := 0 :: 2 :: a :: bankPayload (s.frb.banks.get b) } s.sgi.list })
      ∧ (bankOfCode a.toNat = none → t.sgi =
        { s.sgi with list := insertFrame { kind := .reply, id := frameId s.number .reply, data := [2, 2, a, 0, 0, 0, 0, 0] } s.sgi.list })
      ∧ (bankOfCode a.toNat = none ↔ 5 < a.toNat)
      ∧ s.keeps t [.sgi])
  ∧ (∀ (s : State) (n part : Nat),
    s.steady →
    s.receives = true →
    s.sgi.replies < 3 →
    (1 ≤ n ∧ n ≤ 8) →
    n ≠ s.number →
    part ≤ 2 →
    ∃ t, exec (.readPeer s.number [5, byte (n + 16 * part)]) s = .next t
      ∧ t.sgi = { s.sgi with list := insertFrame { kind := .reply, id := frameId s.number .reply, data := 0 :: 5 :: byte (n + 16 * part) :: (entryFor n s.pvt.entries).elim zeroPayload (fun e => peerPayload e part) } s.sgi.list }
      ∧ s.keeps t [.sgi])
  ∧ (∀ (s : State) (a : Byte),
    s.steady →
    s.receives = true →
    s.sgi.replies < 3 →
    (a.toNat % 16 = 0 ∨ 8 < a.toNat % 16 ∨ a.toNat % 16 = s.number ∨ a.toNat / 16 % 4 = 3) →
    ∃ t, exec (.readPeer s.number [5, a]) s = .next t
      ∧ t.sgi = { s.sgi with list := insertFrame { kind := .reply, id := frameId s.number .reply, data := [2, 5, a, 0, 0, 0, 0, 0] } s.sgi.list }
      ∧ s.keeps t [.sgi])
  ∧ (∀ (s : State) (x a : Byte),
    s.steady →
    s.receives = true →
    s.sgi.replies < 3 →
    (x = 0 ∨ 6 < x.toNat) →
    ∃ t, exec (.undefinedServiceCommand s.number [x, a]) s = .next t
      ∧ t.sgi = { s.sgi with list := insertFrame { kind := .reply, id := frameId s.number .reply, data := [2, x, a, 0, 0, 0, 0, 0] } s.sgi.list }
      ∧ s.keeps t [.sgi])
  ∧ (∀ (s : State) (c : Instr) (x a : Byte),
    s.steady →
    s.receives = true →
    3 ≤ s.sgi.replies →
    ((x = 1 ∧ c = .readStatus s.number [x, a]) ∨ (x = 2 ∧ c = .readBank s.number [x, a]) ∨ (x = 3
      ∧ c = .clearBank s.number [x, a]) ∨ (x = 4 ∧ c = .clearAll s.number [x, a]) ∨ (x = 5
        ∧ c = .readPeer s.number [x, a]) ∨ (x = 6 ∧ c = .restart s.number [x, a]) ∨ ((x = 0 ∨ 6 < x.toNat)
          ∧ c = .undefinedServiceCommand s.number [x, a])) →
    ∃ t, exec c s = .next t
      ∧ t.frb = { s.frb with banks := s.frb.banks.store .link (s.complete overrunReport) }
      ∧ t.sgi.replies = s.sgi.replies
      ∧ s.keeps t [.hal, .hpc, .sgi, .frb])

/-- CLEAR BANK empties one bank and keeps the flag, CLEAR ALL empties every bank and clears it, each with its reply.
In a steady state that receives, with fewer than three replies pending: CLEAR BANK b leaves bank b empty, the others
and fault-response-active as they are; CLEAR ALL leaves every bank empty and the flag clear; each places the reply
OK with payload 0. A change of hold-compromised leaves the result current, and a change of declared severity or
release-permitted in RUN or SAFE leaves a Declaration on the list. A bank above 5 is answered BAD ARGUMENT and
clears nothing. -/
def Obligations.ClearsEmptyTheBanks : Prop :=
  (∀ (s : State) (c : Instr) (x a : Byte) (z : Frb),
    s.steady →
    s.receives = true →
    s.sgi.replies < 3 →
    ((x = 3 ∧ c = .clearBank s.number [x, a] ∧ ∃ b, bankOfCode a.toNat = some b
      ∧ z = { s.frb with banks := s.frb.banks.put b none }) ∨ (x = 4 ∧ c = .clearAll s.number [x, a]
        ∧ z = { banks := Banks.empty, responseActive := false })) →
    ∃ t, exec c s = .next t
      ∧ t.frb = z
      ∧ (∃ f ∈ t.sgi.list, f.kind = .reply ∧ f.data = [0, x, a, 0, 0, 0, 0, 0])
      ∧ (z.banks.holdCompromised ≠ s.frb.banks.holdCompromised → t.resultCurrent)
      ∧ (s.mdc.mode ≠ .config → z.banks.severity ≠ s.frb.banks.severity
        ∨ z.banks.releasePermitted ≠ s.frb.banks.releasePermitted → ∃ f ∈ t.sgi.list, f.kind = .declaration)
      ∧ s.keeps t [.hal, .hpc, .sgi, .frb])
  ∧ (∀ (s : State) (a : Byte),
    s.steady →
    s.receives = true →
    s.sgi.replies < 3 →
    5 < a.toNat →
    ∃ t, exec (.clearBank s.number [3, a]) s = .next t
      ∧ t.sgi = { s.sgi with list := insertFrame { kind := .reply, id := frameId s.number .reply, data := [2, 3, a, 0, 0, 0, 0, 0] } s.sgi.list }
      ∧ s.keeps t [.sgi])

/-- Service RESTART, a brown-out and the key line in SAFE enter RESTART; a brown-out at the limit SAFE, whose line
is asked for a hold or once stationary. Service RESTART in RELEASED with the vehicle stationary, fewer than three
replies pending, enters RESTART uncounted with its reply owed; elsewhere in a steady state it is answered BUSY. A
brown-out in RUN or WATCH below the limit (NODE bank empty, an assertion not timing out at once) counts one and
enters RESTART with the resume record of the hold; at the limit the node is in SAFE with the severe NODE record, the
line asked for a hold or a vehicle found stationary, and unless in BUS OFF a Declaration and an Alert of cause SAFE
entered with node level and own creep, but for a pending Alert of cause breach or insufficient, which stays; in INIT
and SAFE it is recorded alone. At a wheel sample in SAFE without reports, the first moment stationary, by the own
indication or, without a valid position, by two fresh peers, asks for the line. A rising key line in SAFE, dwelt 2 s
and without a severe record, enters RESTART uncounted with no hold. At each entry the blocks start anew,
pass-through is driven, the list is empty, and the line stands for a stored hold or as it stood. -/
def Obligations.RestartIsEntered : Prop :=
  (∀ (s : State) (a : Byte),
    s.inPhase .released = true →
    s.vehicleStationary = true →
    s.receives = true →
    s.sgi.replies < 3 →
    ∃ t, exec (.restart s.number [6, a]) s = .next t
      ∧ (t.mdc.mode = .restart ∧ t.hpc.resume = none ∧ t.sgi.restartOwed = some a
        ∧ t.mdc.restartCounter = s.mdc.restartCounter ∧ t.frb = s.frb ∧ t.pad.asserted = s.pad.asserted)
      ∧ (t.wmt = .initial ∧ t.csu = .initial s.mdc.settings.firstPoint ∧ t.pvt.entries = [] ∧ t.vir = .initial
        ∧ t.sgi.list = [] ∧ t.sgi.bus = .stopped ∧ t.sgi.txErrors = 0 ∧ t.sgi.rxErrors = 0 ∧ t.cpr.regulating = false
          ∧ t.cpr.valves = .passThrough ∧ t.cpr.target = 0 ∧ t.glu.reading = false ∧ t.mdc.reinitTime = 0
            ∧ t.mdc.restartTimer = 0)
      ∧ (t.mdc.settings = s.mdc.settings ∧ t.mdc.straps = s.mdc.straps ∧ t.hpc.pHold = s.hpc.pHold)
      ∧ s.keeps t [.wmt, .csu, .glu, .pvt, .vir, .hal, .hpc, .cpr, .pad, .sgi, .mdc])
  ∧ (∀ (s : State) (a : Byte),
    s.steady →
    s.receives = true →
    s.sgi.replies < 3 →
    (s.inPhase .released = false ∨ s.vehicleStationary = false) →
    ∃ t, exec (.restart s.number [6, a]) s = .next t
      ∧ t.sgi = { s.sgi with list := insertFrame { kind := .reply, id := frameId s.number .reply, data := [1, 6, a, 0, 0, 0, 0, 0] } s.sgi.list }
      ∧ s.keeps t [.sgi])
  ∧ (∀ s : State,
    (s.mdc.mode = .run ∨ s.mdc.mode = .watch) →
    s.mdc.restartCounter < s.mdc.settings.restartLimit →
    s.frb.banks.node = none →
    (s.spring = false ∨ s.pad.sensor ≠ .outOfRange) →
    ∃ t, exec .brownOut s = .next t
      ∧ (t.mdc.mode = .restart ∧ t.mdc.restartCounter = s.mdc.restartCounter + 1 ∧ t.mdc.brownOut = true)
      ∧ (t.hpc.resume = if s.hpc.phase = .released
        ∨ s.hpc.phase = .releasing then none else some
          { phase := s.hpc.phase, level := s.csu.nodeLevel, pressure := max s.hpc.pHold s.cpr.target, creep := s.csu.lastValidOwn })
      ∧ t.pad.asserted = (t.hpc.resume.isSome || s.pad.asserted)
      ∧ t.frb = { s.frb with banks := s.frb.banks.store .node (s.complete brownOutReport) }
      ∧ (t.wmt = .initial ∧ t.csu = .initial s.mdc.settings.firstPoint ∧ t.pvt.entries = [] ∧ t.vir = .initial
        ∧ t.sgi.list = [] ∧ t.sgi.bus = .stopped ∧ t.sgi.txErrors = 0 ∧ t.sgi.rxErrors = 0 ∧ t.cpr.regulating = false
          ∧ t.cpr.valves = .passThrough ∧ t.cpr.target = 0 ∧ t.glu.reading = false ∧ t.mdc.reinitTime = 0
            ∧ t.mdc.restartTimer = 0)
      ∧ (t.mdc.settings = s.mdc.settings ∧ t.mdc.straps = s.mdc.straps ∧ t.hpc.pHold = s.hpc.pHold))
  ∧ (∀ s : State,
    (s.mdc.mode = .run ∨ s.mdc.mode = .watch) →
    s.mdc.settings.restartLimit ≤ s.mdc.restartCounter →
    s.frb.banks.node = none →
    ∃ t, exec .brownOut s = .next t
      ∧ (t.mdc.mode = .safe ∧ t.mdc.restartCounter = s.mdc.restartCounter ∧ t.cpr.valves = .passThrough)
      ∧ t.frb.banks.node.map (fun r => (r.severity, r.cls, r.element, r.overflow)) = some (.severe, .consistency,
        none, true)
      ∧ (s.hpc.phase.isHold = true → t.pad.mdcRequest = true)
      ∧ (t.pad.hpcRequest = .lapsed ∧ t.pad.mdcRequest = (s.hpc.phase.isHold || t.mdc.safeStationary)
        ∧ t.pad.asserted = t.pad.mdcRequest ∧ t.mdc.safeStationary = t.vehicleStationary ∧ t.mdc.dwellTime = 0)
      ∧ t.csu = s.csu
      ∧ (s.sgi.bus ≠ .off → ∃ f ∈ t.sgi.list, f.kind = .declaration)
      ∧ (s.sgi.bus ≠ .off → (∀ f ∈ s.sgi.list, f.kind ≠ .alert) → ∃ f ∈ t.sgi.list, f.kind = .alert
        ∧ f.data = encodeAlert .safeEntered s.csu.nodeLevel (if s.csu.ownValid then s.csu.own else 0))
      ∧ (∀ f ∈ s.sgi.list, f.kind = .alert → f.data.head? = some 1#8 ∨ f.data.head? = some 2#8 → f ∈ t.sgi.list))
  ∧ (∀ s : State,
    (s.mdc.mode = .init ∨ (s.mdc.mode = .safe ∧ s.mdc.safeStationary = true)) →
    ∃ t, exec .brownOut s = .next t
      ∧ t.mdc.lasting = { s.mdc.lasting with brownOut := true }
      ∧ t.frb = { s.frb with banks := s.frb.banks.store .node (s.complete brownOutReport) }
      ∧ s.keeps t [.mdc, .sgi, .frb])
  ∧ (∀ s : State,
    s.mdc.mode = .safe →
    s.mdc.dwellDone = true →
    s.frb.banks.anySevere = false →
    ∃ t, exec .keyLineEdge s = .next t
      ∧ (t.mdc.mode = .restart ∧ t.mdc.key = true ∧ t.hpc.resume = none ∧ t.mdc.restartCounter = s.mdc.restartCounter
        ∧ t.frb = s.frb ∧ t.pad.asserted = s.pad.asserted)
      ∧ (t.wmt = .initial ∧ t.csu = .initial s.mdc.settings.firstPoint ∧ t.pvt.entries = [] ∧ t.vir = .initial
        ∧ t.sgi.list = [] ∧ t.sgi.bus = .stopped ∧ t.sgi.txErrors = 0 ∧ t.sgi.rxErrors = 0 ∧ t.cpr.regulating = false
          ∧ t.cpr.valves = .passThrough ∧ t.cpr.target = 0 ∧ t.glu.reading = false ∧ t.mdc.reinitTime = 0
            ∧ t.mdc.restartTimer = 0)
      ∧ (t.mdc.settings = s.mdc.settings ∧ t.mdc.straps = s.mdc.straps ∧ t.hpc.pHold = s.hpc.pHold))
  ∧ (∀ (s : State) (a b : Code),
    let w := (s.wheel a b).1
    let found := if w.positionValid then w.stationary else decide (2 ≤ (s.pvt.entries.filter (fun e => e.freshness ==
      .fresh && (e.decl.phase.isHold || e.creepSteady))).length)
    s.mdc.mode = .safe →
    s.mdc.safeStationary = false →
    s.pad.hpcRequest = .lapsed →
    s.lineOk →
    (s.spring = false ∨ s.pad.sensor ≠ .outOfRange) →
    s.wmt.sampling = true →
    (s.wheel a b).2.reports = [] →
    ∃ t, exec (.wheelSample a b) s = .next t
      ∧ (t.mdc.mode = .safe ∧ t.mdc.safeStationary = found ∧ t.pad.mdcRequest = (s.pad.mdcRequest || found)
        ∧ t.pad.asserted = (s.pad.mdcRequest || found))
      ∧ (found = true → s.spring = true → s.pad.asserted = false → t.pad.drive = .apply ∧ t.pad.driveTime = 0
        ∧ t.pad.watch = .waiting ∧ t.pad.confirmTime = 0)
      ∧ (found = false → t.pad = s.pad))

/-- Re-initialisation ends in RUN, RELEASED without a hold, HOLDING or SECURED with one; 1 s in RESTART ends in
SAFE. With 50 ms re-initialised, the view empty, no own position and no lane going wrong, REINITIALISATION_COMPLETE
enters RUN: with no hold in RELEASED with the line withdrawn; with a hold, key on and the line standing, in HOLDING
at least at the resume pressure with the withdrawal pending, or in SECURED retained at least at it, the line kept,
the levels and creep those of the record; the record is then empty, and an owed reply is on the list (not in BUS
OFF) with the status at the entry. RESTART_TIMEOUT at 1 s enters SAFE with the severe NODE record (empty bank), the
line requested for a stored hold. That the command itself says oscillator and supply are stable, so that brown-out
ends, is the model's choice (log entry 45), and the delivery kept across RESTART for P_hold is its reading of R90
and R97 (log entry 46). -/
def Obligations.RestartEndsInRunOrSafe : Prop :=
  (∀ s : State,
    s.mdc.mode = .restart →
    ms 50 ≤ s.mdc.reinitTime →
    s.free.laneFault = none →
    s.vir = .initial →
    s.pvt.entries = [] →
    s.wmt.positionValid = false →
    s.hpc.resume = none →
    ∃ t, exec .reinitialisationComplete s = .next t
      ∧ (t.inPhase .released = true ∧ t.hpc.resume = none ∧ t.hpc.pCap = none ∧ t.hpc.pHold = 0 ∧ t.mdc.reliefTime = 0
        ∧ t.mdc.brownOut = false)
      ∧ (t.cpr.regulating = false ∧ t.cpr.valves = .passThrough ∧ t.cpr.target = 0 ∧ t.pad.asserted = false
        ∧ t.pad.mdcRequest = false)
      ∧ (t.wmt = s.wmt.start ∧ t.glu.reading = true ∧ t.resultCurrent)
      ∧ t.sgi.restartOwed = none
      ∧ (∀ a, s.sgi.restartOwed = some a → s.sgi.bus ≠ .off → ∃ f ∈ t.sgi.list, f.kind = .reply
        ∧ f.data = 0 :: 6 :: a :: t.statusPayload)
      ∧ s.keeps t [.wmt, .glu, .hal, .hpc, .cpr, .pad, .sgi, .mdc])
  ∧ (∀ (s : State) (r : Resume),
    s.mdc.mode = .restart →
    ms 50 ≤ s.mdc.reinitTime →
    s.free.laneFault = none →
    s.vir = .initial →
    s.pvt.entries = [] →
    s.wmt.positionValid = false →
    s.hpc.resume = some r →
    s.mdc.key = true →
    s.pad.asserted = true →
    (r.phase = .capturing ∨ r.phase = .holding) →
    ∃ t, exec .reinitialisationComplete s = .next t
      ∧ (t.inPhase .holding = true ∧ t.hpc.resume = none ∧ t.hpc.pCap = some r.pressure
        ∧ max r.pressure s.hpc.last.pCalc ≤ t.hpc.pHold ∧ t.cpr.target = min s.mdc.settings.pMax t.hpc.pHold
          ∧ t.cpr.regulating = true)
      ∧ (t.hpc.withdrawalPending = true ∧ t.hpc.request = true ∧ t.pad.asserted = true ∧ t.pad.drive = s.pad.drive
        ∧ t.hpc.retained = none)
      ∧ (t.csu.ownLevel = r.level ∧ t.csu.nodeLevel = r.level ∧ t.csu.offset = r.creep ∧ t.csu.anchor = .pending
        ∧ t.csu.creepGap = true)
      ∧ (t.csu.breach = decide ((s.mdc.settings.breachThreshold : Int) ≤ r.creep)
        ∧ t.csu.notice = decide ((s.mdc.settings.noticeThreshold : Int) ≤ r.creep))
      ∧ (s.mdc.settings.ok → r.creep < t.csu.nextPoint)
      ∧ s.keeps t [.wmt, .csu, .glu, .hal, .hpc, .cpr, .pad, .sgi, .mdc, .frb])
  ∧ (∀ (s : State) (r : Resume),
    s.mdc.mode = .restart →
    ms 50 ≤ s.mdc.reinitTime →
    s.free.laneFault = none →
    s.vir = .initial →
    s.pvt.entries = [] →
    s.wmt.positionValid = false →
    s.hpc.resume = some r →
    s.mdc.key = true →
    s.pad.asserted = true →
    (r.phase = .securing ∨ r.phase = .secured) →
    ∃ t, exec .reinitialisationComplete s = .next t
      ∧ (t.inPhase .secured = true ∧ t.hpc.resume = none ∧ t.hpc.pHold = r.pressure ∧ ∃ x, t.hpc.retained = some x
        ∧ r.pressure ≤ x ∧ t.cpr.target = min s.mdc.settings.pMax x)
      ∧ (t.hpc.withdrawalPending = false ∧ t.hpc.request = true ∧ t.pad.asserted = true ∧ t.cpr.regulating = true)
      ∧ (t.csu.ownLevel = r.level ∧ t.csu.nodeLevel = r.level ∧ t.csu.offset = r.creep ∧ t.csu.anchor = .pending
        ∧ t.csu.creepGap = true ∧ t.csu.notice = false ∧ t.csu.noticeBase = max 0 r.creep)
      ∧ s.keeps t [.wmt, .csu, .glu, .hal, .hpc, .cpr, .pad, .sgi, .mdc, .frb])
  ∧ (∀ s : State,
    s.mdc.mode = .restart →
    sec 1 ≤ s.mdc.restartTimer →
    s.frb.banks.node = none →
    ∃ t, exec .restartTimeout s = .next t
      ∧ (t.mdc.mode = .safe ∧ t.mdc.dwellTime = 0 ∧ t.cpr.regulating = false ∧ t.cpr.valves = .passThrough
        ∧ t.wmt.sampling = true ∧ t.glu.reading = true)
      ∧ (s.hpc.resume.isSome = true → t.pad.mdcRequest = true)
      ∧ (t.frb.responseActive = true ∧ t.frb.banks.node.map (fun q => (q.severity, q.cls, q.element,
        q.overflow)) = some (.severe, .timing, none, false))
      ∧ (s.sgi.bus ≠ .off → ∃ f ∈ t.sgi.list, f.kind = .declaration))

/-- A step on an empty queue advances each time that runs by 100 µs to its limit, and the commands of the expiries
due wait. The tick is the model's own (log entry 1): the spec gives the times, not a command for their passing.
Before POWER_ON a step on an empty queue changes nothing. After it, on every state, the step adds 1 (100 µs) to
every time that runs, to its limit, in its mode, phase or condition; the times of the capture conditions,
insufficiency and driver absence are 0 where their condition does not stand; the ages of entries, last alerts and
station records rise, and the clash span ends at 300 ms. WMT, CSU, GLU, HAL, CPR and FRB stay. The queue then holds,
each as often as due, exactly the commands of the times that reach their limits at this tick, in some order (log
entry 10). A window just expired is no longer so (log entry 63). The wake hold runs from the first return from WATCH
on (log entry 73). Drive and confirm time are stated for a stable oscillator (log entries 47 and 57); that the other
times run without it too is the model's reading (log entry 79). -/
def Obligations.TicksAdvanceTimes : Prop :=
  ∀ s : State, s.pending = [] →
    (s.mdc.straps = none → step s = .next s)
    ∧ (s.mdc.straps.isSome = true → ∃ t, step s = .next t
      ∧ (t.wmt = s.wmt ∧ t.csu = s.csu ∧ t.glu = s.glu ∧ t.hal = s.hal ∧ t.cpr = s.cpr ∧ t.frb = s.frb)
      ∧ (let up : Bool → Nat → Nat → Nat := fun runs limit x => if runs then min limit (x + 1) else x
        let stands : Bool → Nat → Nat → Nat := fun runs limit x => if runs then min limit (x + 1) else 0
        let held : Bool := s.hpc.phase == .capturing || s.hpc.phase == .holding
        t.mdc = { s.mdc with
          initTime := up (s.mdc.mode == .init) 500 s.mdc.initTime
          windowTime := up (s.mdc.mode == .config) 5000 s.mdc.windowTime
          windowExpired := false
          reliefTime := up (s.mdc.mode == .run) 1200000 s.mdc.reliefTime
          reinitTime := up (s.mdc.mode == .restart) 500 s.mdc.reinitTime
          restartTimer := up (s.mdc.mode == .restart) 10000 s.mdc.restartTimer
          dwellTime := up (s.mdc.mode == .safe) 20000 s.mdc.dwellTime
          wakeHold := up s.mdc.woken 10000 s.mdc.wakeHold }
        ∧ (s.mdc.mode ≠ .run → t.hpc = s.hpc)
        ∧ (s.mdc.mode = .run → t.hpc = { s.hpc with
          qualifyingTime := stands s.captureConditions 1500 s.hpc.qualifyingTime
          settleTime := up (s.hpc.phase == .capturing) 3000 s.hpc.settleTime
          holdTime := up held (10000 * s.mdc.settings.tSec) s.hpc.holdTime
          insufficiencyTime := stands (held && s.hpc.last.insufficient) 5000 s.hpc.insufficiencyTime
          driverAbsentTime := stands s.driverAbsent 100000 s.hpc.driverAbsentTime
          release := s.hpc.release.map (fun r =>
            { r with time := min 40000 (r.time + 1), rampTime := r.rampTime + 1 })
          handover := s.hpc.handover.map (fun h => { h with stageTime := h.stageTime + 1 }) })
        ∧ (s.mdc.refStable = true → t.pad = { s.pad with
          driveTime := up (s.pad.drive != .idle) 1000 s.pad.driveTime
          confirmTime := up (s.pad.watch == .waiting) 15000 s.pad.confirmTime })
        ∧ t.sgi = { s.sgi with
          declarationTimer := up (s.mdc.mode == .run || s.mdc.mode == .safe) 200 s.sgi.declarationTimer
          rouseWindow := up (s.mdc.mode == .watch && decide (0 < s.sgi.rouseCount)) 20 s.sgi.rouseWindow })
      ∧ t.pvt = { s.pvt with
          entries := s.pvt.entries.map (fun e => { e with
            age := e.age + 1, lastAlert := e.lastAlert.map (fun a => { a with age := min 20000 (a.age + 1) }) })
          clashTime := s.pvt.clashTime.bind (fun x => if 3000 ≤ x + 1 then none else some (x + 1)) }
      ∧ t.vir = { cab := s.vir.cab.map (fun r => (r.1, { r.2 with age := min 2000 (r.2.age + 1) }))
                  drive := s.vir.drive.map (fun r => (r.1, { r.2 with age := min 2000 (r.2.age + 1) }))
                  drum := s.vir.drum.map (fun r => (r.1, { r.2 with age := min 2000 (r.2.age + 1) })) }
      ∧ t.pending.Perm s.expiries
      ∧ ∀ c, c ∈ t.pending ↔
        (c = .clockFailure ∧ s.mdc.mode = .init ∧ s.mdc.initTime = 499 ∧ s.mdc.refStable = false)
        ∨ (c = .windowExpiry ∧ s.mdc.mode = .config ∧ s.mdc.windowTime = 4999)
        ∨ (c = .reliefTimeExpiry ∧ s.mdc.mode = .run ∧ s.mdc.reliefTime = 1199999)
        ∨ (c = .rouseWindowExpiry ∧ s.mdc.mode = .watch ∧ 0 < s.sgi.rouseCount ∧ s.sgi.rouseWindow = 19)
        ∨ (c = .reinitialisationComplete ∧ s.mdc.mode = .restart ∧ s.mdc.reinitTime = 499 ∧ s.mdc.refStable = true
          ∧ s.mdc.brownOut = false)
        ∨ (c = .restartTimeout ∧ s.mdc.mode = .restart ∧ s.mdc.restartTimer = 9999)
        ∨ (c = .safeDwellExpiry ∧ s.mdc.mode = .safe ∧ s.mdc.dwellTime = 19999)
        ∨ (c = .captureQualifyingExpiry ∧ s.captureConditions = true ∧ s.hpc.qualifyingTime = 1499)
        ∨ (c = .captureSettleExpiry ∧ s.inPhase .capturing = true ∧ s.hpc.settleTime = 2999)
        ∨ (c = .secureTimeExpiry ∧ (s.inPhase .capturing = true ∨ s.inPhase .holding = true)
          ∧ s.hpc.holdTime + 1 = 10000 * s.mdc.settings.tSec)
        ∨ (c = .insufficiencyTimeExpiry ∧ (s.inPhase .capturing = true ∨ s.inPhase .holding = true)
          ∧ s.hpc.last.insufficient = true ∧ s.hpc.insufficiencyTime = 4999)
        ∨ (c = .driverAbsentTimeExpiry ∧ s.mdc.mode = .run ∧ s.driverAbsent = true ∧ s.hpc.driverAbsentTime = 99999)
        ∨ (c = .releaseRampStep ∧ s.inPhase .releasing = true ∧ s.hpc.release.map ReleaseRecord.rampTime = some 24)
        ∨ (c = .releaseTimeExpiry ∧ s.inPhase .releasing = true ∧ s.hpc.release.map ReleaseRecord.time = some 39999)
        ∨ (c = .handoverSettleExpiry ∧ s.inPhase .securing = true
          ∧ s.hpc.handover.map (fun h => (h.stage, h.stageTime)) = some (.settle, 9999))
        ∨ (c = .handoverRampStep ∧ s.inPhase .securing = true
          ∧ s.hpc.handover.map (fun h => (h.stage, h.stageTime)) = some (.ramp, 49))
        ∨ (c = .wakeHoldExpiry ∧ s.mdc.woken = true ∧ s.mdc.wakeHold = 9999)
        ∨ (c = .driveTimeExpiry ∧ s.driveRuns = true ∧ s.pad.driveTime = 999)
        ∨ (c = .confirmTimeout ∧ s.confirmRuns = true ∧ s.pad.confirmTime = 14999)
        ∨ (c = .declarationTimerExpiry ∧ (s.mdc.mode = .run ∨ s.mdc.mode = .safe) ∧ s.sgi.declarationTimer = 199)
        ∨ (∃ e ∈ s.pvt.entries, (c = .peerStale e.node ∧ e.age = 599 ∧ e.freshness = .fresh)
          ∨ (c = .peerExpired e.node ∧ e.age = 2999 ∧ e.freshness ≠ .expired)
          ∨ (c = .lastAlertRemoval e.node ∧ e.lastAlert.map LastAlert.age = some 19999))
        ∨ ∃ x, c = .recordStale x ∧ s.vir.age x = some { age := 1999, fresh := true })
end

