-- ==== Sys2Proof/Laws/State.lean ====
section
/-! SUPPORT. The updates of the state, field by field: what each named update leaves as it was. Every lemma is true by
unfolding, and no later proof unfolds a record update. -/

namespace Sys2Proof.Machine

/-! ### handTarget -/

@[simp] theorem State.handTarget_wmt (s : State) (v : Nat) (anew : Bool) : (s.handTarget v anew).wmt = s.wmt := rfl
@[simp] theorem State.handTarget_csu (s : State) (v : Nat) (anew : Bool) : (s.handTarget v anew).csu = s.csu := rfl
@[simp] theorem State.handTarget_glu (s : State) (v : Nat) (anew : Bool) : (s.handTarget v anew).glu = s.glu := rfl
@[simp] theorem State.handTarget_pvt (s : State) (v : Nat) (anew : Bool) : (s.handTarget v anew).pvt = s.pvt := rfl
@[simp] theorem State.handTarget_vir (s : State) (v : Nat) (anew : Bool) : (s.handTarget v anew).vir = s.vir := rfl
@[simp] theorem State.handTarget_hal (s : State) (v : Nat) (anew : Bool) : (s.handTarget v anew).hal = s.hal := rfl
@[simp] theorem State.handTarget_hpc (s : State) (v : Nat) (anew : Bool) : (s.handTarget v anew).hpc = s.hpc := rfl
@[simp] theorem State.handTarget_pad (s : State) (v : Nat) (anew : Bool) : (s.handTarget v anew).pad = s.pad := rfl
@[simp] theorem State.handTarget_sgi (s : State) (v : Nat) (anew : Bool) : (s.handTarget v anew).sgi = s.sgi := rfl
@[simp] theorem State.handTarget_mdc (s : State) (v : Nat) (anew : Bool) : (s.handTarget v anew).mdc = s.mdc := rfl
@[simp] theorem State.handTarget_frb (s : State) (v : Nat) (anew : Bool) : (s.handTarget v anew).frb = s.frb := rfl
@[simp] theorem State.handTarget_pending (s : State) (v : Nat) (anew : Bool) : (s.handTarget v anew).pending = s.pending := rfl
@[simp] theorem State.handTarget_free (s : State) (v : Nat) (anew : Bool) : (s.handTarget v anew).free = s.free := rfl
@[simp] theorem State.handTarget_draw (s : State) (v : Nat) (anew : Bool) : (s.handTarget v anew).draw = s.draw := rfl

/-! ### setLaneFault -/

@[simp] theorem State.setLaneFault_wmt (s : State) (f : Option LaneFault) : (s.setLaneFault f).wmt = s.wmt := rfl
@[simp] theorem State.setLaneFault_csu (s : State) (f : Option LaneFault) : (s.setLaneFault f).csu = s.csu := rfl
@[simp] theorem State.setLaneFault_glu (s : State) (f : Option LaneFault) : (s.setLaneFault f).glu = s.glu := rfl
@[simp] theorem State.setLaneFault_pvt (s : State) (f : Option LaneFault) : (s.setLaneFault f).pvt = s.pvt := rfl
@[simp] theorem State.setLaneFault_vir (s : State) (f : Option LaneFault) : (s.setLaneFault f).vir = s.vir := rfl
@[simp] theorem State.setLaneFault_hal (s : State) (f : Option LaneFault) : (s.setLaneFault f).hal = s.hal := rfl
@[simp] theorem State.setLaneFault_hpc (s : State) (f : Option LaneFault) : (s.setLaneFault f).hpc = s.hpc := rfl
@[simp] theorem State.setLaneFault_cpr (s : State) (f : Option LaneFault) : (s.setLaneFault f).cpr = s.cpr := rfl
@[simp] theorem State.setLaneFault_pad (s : State) (f : Option LaneFault) : (s.setLaneFault f).pad = s.pad := rfl
@[simp] theorem State.setLaneFault_sgi (s : State) (f : Option LaneFault) : (s.setLaneFault f).sgi = s.sgi := rfl
@[simp] theorem State.setLaneFault_mdc (s : State) (f : Option LaneFault) : (s.setLaneFault f).mdc = s.mdc := rfl
@[simp] theorem State.setLaneFault_frb (s : State) (f : Option LaneFault) : (s.setLaneFault f).frb = s.frb := rfl
@[simp] theorem State.setLaneFault_pending (s : State) (f : Option LaneFault) : (s.setLaneFault f).pending = s.pending := rfl
@[simp] theorem State.setLaneFault_draw (s : State) (f : Option LaneFault) : (s.setLaneFault f).draw = s.draw := rfl

/-! ### keepDelivery -/

@[simp] theorem State.keepDelivery_wmt (s : State) (r : HalResult) : (s.keepDelivery r).wmt = s.wmt := rfl
@[simp] theorem State.keepDelivery_csu (s : State) (r : HalResult) : (s.keepDelivery r).csu = s.csu := rfl
@[simp] theorem State.keepDelivery_glu (s : State) (r : HalResult) : (s.keepDelivery r).glu = s.glu := rfl
@[simp] theorem State.keepDelivery_pvt (s : State) (r : HalResult) : (s.keepDelivery r).pvt = s.pvt := rfl
@[simp] theorem State.keepDelivery_vir (s : State) (r : HalResult) : (s.keepDelivery r).vir = s.vir := rfl
@[simp] theorem State.keepDelivery_cpr (s : State) (r : HalResult) : (s.keepDelivery r).cpr = s.cpr := rfl
@[simp] theorem State.keepDelivery_pad (s : State) (r : HalResult) : (s.keepDelivery r).pad = s.pad := rfl
@[simp] theorem State.keepDelivery_sgi (s : State) (r : HalResult) : (s.keepDelivery r).sgi = s.sgi := rfl
@[simp] theorem State.keepDelivery_mdc (s : State) (r : HalResult) : (s.keepDelivery r).mdc = s.mdc := rfl
@[simp] theorem State.keepDelivery_frb (s : State) (r : HalResult) : (s.keepDelivery r).frb = s.frb := rfl
@[simp] theorem State.keepDelivery_pending (s : State) (r : HalResult) : (s.keepDelivery r).pending = s.pending := rfl
@[simp] theorem State.keepDelivery_free (s : State) (r : HalResult) : (s.keepDelivery r).free = s.free := rfl
@[simp] theorem State.keepDelivery_draw (s : State) (r : HalResult) : (s.keepDelivery r).draw = s.draw := rfl

/-! ### judgeLine -/

@[simp] theorem State.judgeLine_wmt (s : State) : (s.judgeLine).wmt = s.wmt := rfl
@[simp] theorem State.judgeLine_csu (s : State) : (s.judgeLine).csu = s.csu := rfl
@[simp] theorem State.judgeLine_glu (s : State) : (s.judgeLine).glu = s.glu := rfl
@[simp] theorem State.judgeLine_pvt (s : State) : (s.judgeLine).pvt = s.pvt := rfl
@[simp] theorem State.judgeLine_vir (s : State) : (s.judgeLine).vir = s.vir := rfl
@[simp] theorem State.judgeLine_hal (s : State) : (s.judgeLine).hal = s.hal := rfl
@[simp] theorem State.judgeLine_hpc (s : State) : (s.judgeLine).hpc = s.hpc := rfl
@[simp] theorem State.judgeLine_cpr (s : State) : (s.judgeLine).cpr = s.cpr := rfl
@[simp] theorem State.judgeLine_sgi (s : State) : (s.judgeLine).sgi = s.sgi := rfl
@[simp] theorem State.judgeLine_mdc (s : State) : (s.judgeLine).mdc = s.mdc := rfl
@[simp] theorem State.judgeLine_frb (s : State) : (s.judgeLine).frb = s.frb := rfl
@[simp] theorem State.judgeLine_pending (s : State) : (s.judgeLine).pending = s.pending := rfl
@[simp] theorem State.judgeLine_free (s : State) : (s.judgeLine).free = s.free := rfl
@[simp] theorem State.judgeLine_draw (s : State) : (s.judgeLine).draw = s.draw := rfl

/-! ### handRequest -/

@[simp] theorem State.handRequest_wmt (s : State) (b : Bool) : (s.handRequest b).wmt = s.wmt := rfl
@[simp] theorem State.handRequest_csu (s : State) (b : Bool) : (s.handRequest b).csu = s.csu := rfl
@[simp] theorem State.handRequest_glu (s : State) (b : Bool) : (s.handRequest b).glu = s.glu := rfl
@[simp] theorem State.handRequest_pvt (s : State) (b : Bool) : (s.handRequest b).pvt = s.pvt := rfl
@[simp] theorem State.handRequest_vir (s : State) (b : Bool) : (s.handRequest b).vir = s.vir := rfl
@[simp] theorem State.handRequest_hal (s : State) (b : Bool) : (s.handRequest b).hal = s.hal := rfl
@[simp] theorem State.handRequest_cpr (s : State) (b : Bool) : (s.handRequest b).cpr = s.cpr := rfl
@[simp] theorem State.handRequest_sgi (s : State) (b : Bool) : (s.handRequest b).sgi = s.sgi := rfl
@[simp] theorem State.handRequest_mdc (s : State) (b : Bool) : (s.handRequest b).mdc = s.mdc := rfl
@[simp] theorem State.handRequest_frb (s : State) (b : Bool) : (s.handRequest b).frb = s.frb := rfl
@[simp] theorem State.handRequest_pending (s : State) (b : Bool) : (s.handRequest b).pending = s.pending := rfl
@[simp] theorem State.handRequest_free (s : State) (b : Bool) : (s.handRequest b).free = s.free := rfl
@[simp] theorem State.handRequest_draw (s : State) (b : Bool) : (s.handRequest b).draw = s.draw := rfl

/-! ### setResponse -/

@[simp] theorem State.setResponse_wmt (s : State) : (s.setResponse).wmt = s.wmt := rfl
@[simp] theorem State.setResponse_csu (s : State) : (s.setResponse).csu = s.csu := rfl
@[simp] theorem State.setResponse_glu (s : State) : (s.setResponse).glu = s.glu := rfl
@[simp] theorem State.setResponse_pvt (s : State) : (s.setResponse).pvt = s.pvt := rfl
@[simp] theorem State.setResponse_vir (s : State) : (s.setResponse).vir = s.vir := rfl
@[simp] theorem State.setResponse_hal (s : State) : (s.setResponse).hal = s.hal := rfl
@[simp] theorem State.setResponse_hpc (s : State) : (s.setResponse).hpc = s.hpc := rfl
@[simp] theorem State.setResponse_cpr (s : State) : (s.setResponse).cpr = s.cpr := rfl
@[simp] theorem State.setResponse_pad (s : State) : (s.setResponse).pad = s.pad := rfl
@[simp] theorem State.setResponse_sgi (s : State) : (s.setResponse).sgi = s.sgi := rfl
@[simp] theorem State.setResponse_mdc (s : State) : (s.setResponse).mdc = s.mdc := rfl
@[simp] theorem State.setResponse_pending (s : State) : (s.setResponse).pending = s.pending := rfl
@[simp] theorem State.setResponse_free (s : State) : (s.setResponse).free = s.free := rfl
@[simp] theorem State.setResponse_draw (s : State) : (s.setResponse).draw = s.draw := rfl

/-! ### freeze -/

@[simp] theorem State.freeze_wmt (s : State) : (s.freeze).wmt = s.wmt := rfl
@[simp] theorem State.freeze_csu (s : State) : (s.freeze).csu = s.csu := rfl
@[simp] theorem State.freeze_glu (s : State) : (s.freeze).glu = s.glu := rfl
@[simp] theorem State.freeze_pvt (s : State) : (s.freeze).pvt = s.pvt := rfl
@[simp] theorem State.freeze_vir (s : State) : (s.freeze).vir = s.vir := rfl
@[simp] theorem State.freeze_hal (s : State) : (s.freeze).hal = s.hal := rfl
@[simp] theorem State.freeze_hpc (s : State) : (s.freeze).hpc = s.hpc := rfl
@[simp] theorem State.freeze_cpr (s : State) : (s.freeze).cpr = s.cpr := rfl
@[simp] theorem State.freeze_pad (s : State) : (s.freeze).pad = s.pad := rfl
@[simp] theorem State.freeze_sgi (s : State) : (s.freeze).sgi = s.sgi := rfl
@[simp] theorem State.freeze_frb (s : State) : (s.freeze).frb = s.frb := rfl
@[simp] theorem State.freeze_pending (s : State) : (s.freeze).pending = s.pending := rfl
@[simp] theorem State.freeze_free (s : State) : (s.freeze).free = s.free := rfl
@[simp] theorem State.freeze_draw (s : State) : (s.freeze).draw = s.draw := rfl

/-! ### reconcile -/

@[simp] theorem State.reconcile_wmt (s : State) : (s.reconcile).wmt = s.wmt := rfl
@[simp] theorem State.reconcile_glu (s : State) : (s.reconcile).glu = s.glu := rfl
@[simp] theorem State.reconcile_pvt (s : State) : (s.reconcile).pvt = s.pvt := rfl
@[simp] theorem State.reconcile_vir (s : State) : (s.reconcile).vir = s.vir := rfl
@[simp] theorem State.reconcile_hal (s : State) : (s.reconcile).hal = s.hal := rfl
@[simp] theorem State.reconcile_hpc (s : State) : (s.reconcile).hpc = s.hpc := rfl
@[simp] theorem State.reconcile_cpr (s : State) : (s.reconcile).cpr = s.cpr := rfl
@[simp] theorem State.reconcile_pad (s : State) : (s.reconcile).pad = s.pad := rfl
@[simp] theorem State.reconcile_sgi (s : State) : (s.reconcile).sgi = s.sgi := rfl
@[simp] theorem State.reconcile_frb (s : State) : (s.reconcile).frb = s.frb := rfl
@[simp] theorem State.reconcile_pending (s : State) : (s.reconcile).pending = s.pending := rfl
@[simp] theorem State.reconcile_free (s : State) : (s.reconcile).free = s.free := rfl
@[simp] theorem State.reconcile_draw (s : State) : (s.reconcile).draw = s.draw := rfl

/-! ### formMargin -/

@[simp] theorem State.formMargin_wmt (s : State) : (s.formMargin).wmt = s.wmt := rfl
@[simp] theorem State.formMargin_csu (s : State) : (s.formMargin).csu = s.csu := rfl
@[simp] theorem State.formMargin_glu (s : State) : (s.formMargin).glu = s.glu := rfl
@[simp] theorem State.formMargin_pvt (s : State) : (s.formMargin).pvt = s.pvt := rfl
@[simp] theorem State.formMargin_vir (s : State) : (s.formMargin).vir = s.vir := rfl
@[simp] theorem State.formMargin_hpc (s : State) : (s.formMargin).hpc = s.hpc := rfl
@[simp] theorem State.formMargin_cpr (s : State) : (s.formMargin).cpr = s.cpr := rfl
@[simp] theorem State.formMargin_pad (s : State) : (s.formMargin).pad = s.pad := rfl
@[simp] theorem State.formMargin_sgi (s : State) : (s.formMargin).sgi = s.sgi := rfl
@[simp] theorem State.formMargin_mdc (s : State) : (s.formMargin).mdc = s.mdc := rfl
@[simp] theorem State.formMargin_frb (s : State) : (s.formMargin).frb = s.frb := rfl
@[simp] theorem State.formMargin_pending (s : State) : (s.formMargin).pending = s.pending := rfl
@[simp] theorem State.formMargin_free (s : State) : (s.formMargin).free = s.free := rfl
@[simp] theorem State.formMargin_draw (s : State) : (s.formMargin).draw = s.draw := rfl

/-! ### movePoint -/

@[simp] theorem State.movePoint_wmt (s : State) (n : Nat) : (s.movePoint n).wmt = s.wmt := rfl
@[simp] theorem State.movePoint_glu (s : State) (n : Nat) : (s.movePoint n).glu = s.glu := rfl
@[simp] theorem State.movePoint_pvt (s : State) (n : Nat) : (s.movePoint n).pvt = s.pvt := rfl
@[simp] theorem State.movePoint_vir (s : State) (n : Nat) : (s.movePoint n).vir = s.vir := rfl
@[simp] theorem State.movePoint_hal (s : State) (n : Nat) : (s.movePoint n).hal = s.hal := rfl
@[simp] theorem State.movePoint_hpc (s : State) (n : Nat) : (s.movePoint n).hpc = s.hpc := rfl
@[simp] theorem State.movePoint_cpr (s : State) (n : Nat) : (s.movePoint n).cpr = s.cpr := rfl
@[simp] theorem State.movePoint_pad (s : State) (n : Nat) : (s.movePoint n).pad = s.pad := rfl
@[simp] theorem State.movePoint_sgi (s : State) (n : Nat) : (s.movePoint n).sgi = s.sgi := rfl
@[simp] theorem State.movePoint_mdc (s : State) (n : Nat) : (s.movePoint n).mdc = s.mdc := rfl
@[simp] theorem State.movePoint_frb (s : State) (n : Nat) : (s.movePoint n).frb = s.frb := rfl
@[simp] theorem State.movePoint_pending (s : State) (n : Nat) : (s.movePoint n).pending = s.pending := rfl
@[simp] theorem State.movePoint_free (s : State) (n : Nat) : (s.movePoint n).free = s.free := rfl
@[simp] theorem State.movePoint_draw (s : State) (n : Nat) : (s.movePoint n).draw = s.draw := rfl

/-! ### setBreachTime -/

@[simp] theorem State.setBreachTime_wmt (s : State) (n : Nat) : (s.setBreachTime n).wmt = s.wmt := rfl
@[simp] theorem State.setBreachTime_glu (s : State) (n : Nat) : (s.setBreachTime n).glu = s.glu := rfl
@[simp] theorem State.setBreachTime_pvt (s : State) (n : Nat) : (s.setBreachTime n).pvt = s.pvt := rfl
@[simp] theorem State.setBreachTime_vir (s : State) (n : Nat) : (s.setBreachTime n).vir = s.vir := rfl
@[simp] theorem State.setBreachTime_hal (s : State) (n : Nat) : (s.setBreachTime n).hal = s.hal := rfl
@[simp] theorem State.setBreachTime_hpc (s : State) (n : Nat) : (s.setBreachTime n).hpc = s.hpc := rfl
@[simp] theorem State.setBreachTime_cpr (s : State) (n : Nat) : (s.setBreachTime n).cpr = s.cpr := rfl
@[simp] theorem State.setBreachTime_pad (s : State) (n : Nat) : (s.setBreachTime n).pad = s.pad := rfl
@[simp] theorem State.setBreachTime_sgi (s : State) (n : Nat) : (s.setBreachTime n).sgi = s.sgi := rfl
@[simp] theorem State.setBreachTime_mdc (s : State) (n : Nat) : (s.setBreachTime n).mdc = s.mdc := rfl
@[simp] theorem State.setBreachTime_frb (s : State) (n : Nat) : (s.setBreachTime n).frb = s.frb := rfl
@[simp] theorem State.setBreachTime_pending (s : State) (n : Nat) : (s.setBreachTime n).pending = s.pending := rfl
@[simp] theorem State.setBreachTime_free (s : State) (n : Nat) : (s.setBreachTime n).free = s.free := rfl
@[simp] theorem State.setBreachTime_draw (s : State) (n : Nat) : (s.setBreachTime n).draw = s.draw := rfl

/-! ### applyTimedOut -/

@[simp] theorem State.applyTimedOut_wmt (s : State) : (s.applyTimedOut).wmt = s.wmt := rfl
@[simp] theorem State.applyTimedOut_csu (s : State) : (s.applyTimedOut).csu = s.csu := rfl
@[simp] theorem State.applyTimedOut_glu (s : State) : (s.applyTimedOut).glu = s.glu := rfl
@[simp] theorem State.applyTimedOut_pvt (s : State) : (s.applyTimedOut).pvt = s.pvt := rfl
@[simp] theorem State.applyTimedOut_vir (s : State) : (s.applyTimedOut).vir = s.vir := rfl
@[simp] theorem State.applyTimedOut_hal (s : State) : (s.applyTimedOut).hal = s.hal := rfl
@[simp] theorem State.applyTimedOut_cpr (s : State) : (s.applyTimedOut).cpr = s.cpr := rfl
@[simp] theorem State.applyTimedOut_pad (s : State) : (s.applyTimedOut).pad = s.pad := rfl
@[simp] theorem State.applyTimedOut_sgi (s : State) : (s.applyTimedOut).sgi = s.sgi := rfl
@[simp] theorem State.applyTimedOut_mdc (s : State) : (s.applyTimedOut).mdc = s.mdc := rfl
@[simp] theorem State.applyTimedOut_frb (s : State) : (s.applyTimedOut).frb = s.frb := rfl
@[simp] theorem State.applyTimedOut_pending (s : State) : (s.applyTimedOut).pending = s.pending := rfl
@[simp] theorem State.applyTimedOut_free (s : State) : (s.applyTimedOut).free = s.free := rfl
@[simp] theorem State.applyTimedOut_draw (s : State) : (s.applyTimedOut).draw = s.draw := rfl

/-! ### captureStart -/

@[simp] theorem State.captureStart_wmt (s : State) : (s.captureStart).wmt = s.wmt := rfl
@[simp] theorem State.captureStart_glu (s : State) : (s.captureStart).glu = s.glu := rfl
@[simp] theorem State.captureStart_pvt (s : State) : (s.captureStart).pvt = s.pvt := rfl
@[simp] theorem State.captureStart_vir (s : State) : (s.captureStart).vir = s.vir := rfl
@[simp] theorem State.captureStart_hal (s : State) : (s.captureStart).hal = s.hal := rfl
@[simp] theorem State.captureStart_pad (s : State) : (s.captureStart).pad = s.pad := rfl
@[simp] theorem State.captureStart_sgi (s : State) : (s.captureStart).sgi = s.sgi := rfl
@[simp] theorem State.captureStart_mdc (s : State) : (s.captureStart).mdc = s.mdc := rfl
@[simp] theorem State.captureStart_frb (s : State) : (s.captureStart).frb = s.frb := rfl
@[simp] theorem State.captureStart_pending (s : State) : (s.captureStart).pending = s.pending := rfl
@[simp] theorem State.captureStart_free (s : State) : (s.captureStart).free = s.free := rfl
@[simp] theorem State.captureStart_draw (s : State) : (s.captureStart).draw = s.draw := rfl

/-! ### startHolding -/

@[simp] theorem State.startHolding_wmt (s : State) (b : Nat) (anew : Bool) : (s.startHolding b anew).wmt = s.wmt := rfl
@[simp] theorem State.startHolding_csu (s : State) (b : Nat) (anew : Bool) : (s.startHolding b anew).csu = s.csu := rfl
@[simp] theorem State.startHolding_glu (s : State) (b : Nat) (anew : Bool) : (s.startHolding b anew).glu = s.glu := rfl
@[simp] theorem State.startHolding_pvt (s : State) (b : Nat) (anew : Bool) : (s.startHolding b anew).pvt = s.pvt := rfl
@[simp] theorem State.startHolding_vir (s : State) (b : Nat) (anew : Bool) : (s.startHolding b anew).vir = s.vir := rfl
@[simp] theorem State.startHolding_hal (s : State) (b : Nat) (anew : Bool) : (s.startHolding b anew).hal = s.hal := rfl
@[simp] theorem State.startHolding_pad (s : State) (b : Nat) (anew : Bool) : (s.startHolding b anew).pad = s.pad := rfl
@[simp] theorem State.startHolding_sgi (s : State) (b : Nat) (anew : Bool) : (s.startHolding b anew).sgi = s.sgi := rfl
@[simp] theorem State.startHolding_mdc (s : State) (b : Nat) (anew : Bool) : (s.startHolding b anew).mdc = s.mdc := rfl
@[simp] theorem State.startHolding_frb (s : State) (b : Nat) (anew : Bool) : (s.startHolding b anew).frb = s.frb := rfl
@[simp] theorem State.startHolding_pending (s : State) (b : Nat) (anew : Bool) : (s.startHolding b anew).pending = s.pending := rfl
@[simp] theorem State.startHolding_free (s : State) (b : Nat) (anew : Bool) : (s.startHolding b anew).free = s.free := rfl
@[simp] theorem State.startHolding_draw (s : State) (b : Nat) (anew : Bool) : (s.startHolding b anew).draw = s.draw := rfl

/-! ### startSecuring -/

@[simp] theorem State.startSecuring_wmt (s : State) : (s.startSecuring).wmt = s.wmt := rfl
@[simp] theorem State.startSecuring_glu (s : State) : (s.startSecuring).glu = s.glu := rfl
@[simp] theorem State.startSecuring_pvt (s : State) : (s.startSecuring).pvt = s.pvt := rfl
@[simp] theorem State.startSecuring_vir (s : State) : (s.startSecuring).vir = s.vir := rfl
@[simp] theorem State.startSecuring_hal (s : State) : (s.startSecuring).hal = s.hal := rfl
@[simp] theorem State.startSecuring_cpr (s : State) : (s.startSecuring).cpr = s.cpr := rfl
@[simp] theorem State.startSecuring_sgi (s : State) : (s.startSecuring).sgi = s.sgi := rfl
@[simp] theorem State.startSecuring_mdc (s : State) : (s.startSecuring).mdc = s.mdc := rfl
@[simp] theorem State.startSecuring_frb (s : State) : (s.startSecuring).frb = s.frb := rfl
@[simp] theorem State.startSecuring_pending (s : State) : (s.startSecuring).pending = s.pending := rfl
@[simp] theorem State.startSecuring_free (s : State) : (s.startSecuring).free = s.free := rfl
@[simp] theorem State.startSecuring_draw (s : State) : (s.startSecuring).draw = s.draw := rfl

/-! ### startSecured -/

@[simp] theorem State.startSecured_wmt (s : State) : (s.startSecured).wmt = s.wmt := rfl
@[simp] theorem State.startSecured_glu (s : State) : (s.startSecured).glu = s.glu := rfl
@[simp] theorem State.startSecured_pvt (s : State) : (s.startSecured).pvt = s.pvt := rfl
@[simp] theorem State.startSecured_vir (s : State) : (s.startSecured).vir = s.vir := rfl
@[simp] theorem State.startSecured_hal (s : State) : (s.startSecured).hal = s.hal := rfl
@[simp] theorem State.startSecured_pad (s : State) : (s.startSecured).pad = s.pad := rfl
@[simp] theorem State.startSecured_sgi (s : State) : (s.startSecured).sgi = s.sgi := rfl
@[simp] theorem State.startSecured_mdc (s : State) : (s.startSecured).mdc = s.mdc := rfl
@[simp] theorem State.startSecured_frb (s : State) : (s.startSecured).frb = s.frb := rfl
@[simp] theorem State.startSecured_pending (s : State) : (s.startSecured).pending = s.pending := rfl
@[simp] theorem State.startSecured_free (s : State) : (s.startSecured).free = s.free := rfl
@[simp] theorem State.startSecured_draw (s : State) : (s.startSecured).draw = s.draw := rfl

/-! ### startReleasing -/

@[simp] theorem State.startReleasing_wmt (s : State) : (s.startReleasing).wmt = s.wmt := rfl
@[simp] theorem State.startReleasing_csu (s : State) : (s.startReleasing).csu = s.csu := rfl
@[simp] theorem State.startReleasing_glu (s : State) : (s.startReleasing).glu = s.glu := rfl
@[simp] theorem State.startReleasing_pvt (s : State) : (s.startReleasing).pvt = s.pvt := rfl
@[simp] theorem State.startReleasing_vir (s : State) : (s.startReleasing).vir = s.vir := rfl
@[simp] theorem State.startReleasing_hal (s : State) : (s.startReleasing).hal = s.hal := rfl
@[simp] theorem State.startReleasing_cpr (s : State) : (s.startReleasing).cpr = s.cpr := rfl
@[simp] theorem State.startReleasing_sgi (s : State) : (s.startReleasing).sgi = s.sgi := rfl
@[simp] theorem State.startReleasing_mdc (s : State) : (s.startReleasing).mdc = s.mdc := rfl
@[simp] theorem State.startReleasing_frb (s : State) : (s.startReleasing).frb = s.frb := rfl
@[simp] theorem State.startReleasing_pending (s : State) : (s.startReleasing).pending = s.pending := rfl
@[simp] theorem State.startReleasing_free (s : State) : (s.startReleasing).free = s.free := rfl
@[simp] theorem State.startReleasing_draw (s : State) : (s.startReleasing).draw = s.draw := rfl

/-! ### releasedStart -/

@[simp] theorem State.releasedStart_wmt (s : State) : (s.releasedStart).wmt = s.wmt := rfl
@[simp] theorem State.releasedStart_glu (s : State) : (s.releasedStart).glu = s.glu := rfl
@[simp] theorem State.releasedStart_pvt (s : State) : (s.releasedStart).pvt = s.pvt := rfl
@[simp] theorem State.releasedStart_vir (s : State) : (s.releasedStart).vir = s.vir := rfl
@[simp] theorem State.releasedStart_hal (s : State) : (s.releasedStart).hal = s.hal := rfl
@[simp] theorem State.releasedStart_pad (s : State) : (s.releasedStart).pad = s.pad := rfl
@[simp] theorem State.releasedStart_sgi (s : State) : (s.releasedStart).sgi = s.sgi := rfl
@[simp] theorem State.releasedStart_mdc (s : State) : (s.releasedStart).mdc = s.mdc := rfl
@[simp] theorem State.releasedStart_frb (s : State) : (s.releasedStart).frb = s.frb := rfl
@[simp] theorem State.releasedStart_pending (s : State) : (s.releasedStart).pending = s.pending := rfl
@[simp] theorem State.releasedStart_free (s : State) : (s.releasedStart).free = s.free := rfl
@[simp] theorem State.releasedStart_draw (s : State) : (s.releasedStart).draw = s.draw := rfl

/-! ### safeMode -/

@[simp] theorem State.safeMode_wmt (s : State) (h : Bool) : (s.safeMode h).wmt = s.wmt := rfl
@[simp] theorem State.safeMode_csu (s : State) (h : Bool) : (s.safeMode h).csu = s.csu := rfl
@[simp] theorem State.safeMode_glu (s : State) (h : Bool) : (s.safeMode h).glu = s.glu := rfl
@[simp] theorem State.safeMode_pvt (s : State) (h : Bool) : (s.safeMode h).pvt = s.pvt := rfl
@[simp] theorem State.safeMode_vir (s : State) (h : Bool) : (s.safeMode h).vir = s.vir := rfl
@[simp] theorem State.safeMode_sgi (s : State) (h : Bool) : (s.safeMode h).sgi = s.sgi := rfl
@[simp] theorem State.safeMode_frb (s : State) (h : Bool) : (s.safeMode h).frb = s.frb := rfl
@[simp] theorem State.safeMode_pending (s : State) (h : Bool) : (s.safeMode h).pending = s.pending := rfl
@[simp] theorem State.safeMode_free (s : State) (h : Bool) : (s.safeMode h).free = s.free := rfl
@[simp] theorem State.safeMode_draw (s : State) (h : Bool) : (s.safeMode h).draw = s.draw := rfl

/-! ### startBlocks -/

@[simp] theorem State.startBlocks_csu (s : State) : (s.startBlocks).csu = s.csu := rfl
@[simp] theorem State.startBlocks_pvt (s : State) : (s.startBlocks).pvt = s.pvt := rfl
@[simp] theorem State.startBlocks_vir (s : State) : (s.startBlocks).vir = s.vir := rfl
@[simp] theorem State.startBlocks_hal (s : State) : (s.startBlocks).hal = s.hal := rfl
@[simp] theorem State.startBlocks_hpc (s : State) : (s.startBlocks).hpc = s.hpc := rfl
@[simp] theorem State.startBlocks_sgi (s : State) : (s.startBlocks).sgi = s.sgi := rfl
@[simp] theorem State.startBlocks_mdc (s : State) : (s.startBlocks).mdc = s.mdc := rfl
@[simp] theorem State.startBlocks_frb (s : State) : (s.startBlocks).frb = s.frb := rfl
@[simp] theorem State.startBlocks_pending (s : State) : (s.startBlocks).pending = s.pending := rfl
@[simp] theorem State.startBlocks_free (s : State) : (s.startBlocks).free = s.free := rfl
@[simp] theorem State.startBlocks_draw (s : State) : (s.startBlocks).draw = s.draw := rfl

/-! ### leaveWatchBlocks -/

@[simp] theorem State.leaveWatchBlocks_csu (s : State) : (s.leaveWatchBlocks).csu = s.csu := rfl
@[simp] theorem State.leaveWatchBlocks_pvt (s : State) : (s.leaveWatchBlocks).pvt = s.pvt := rfl
@[simp] theorem State.leaveWatchBlocks_vir (s : State) : (s.leaveWatchBlocks).vir = s.vir := rfl
@[simp] theorem State.leaveWatchBlocks_hal (s : State) : (s.leaveWatchBlocks).hal = s.hal := rfl
@[simp] theorem State.leaveWatchBlocks_hpc (s : State) : (s.leaveWatchBlocks).hpc = s.hpc := rfl
@[simp] theorem State.leaveWatchBlocks_mdc (s : State) : (s.leaveWatchBlocks).mdc = s.mdc := rfl
@[simp] theorem State.leaveWatchBlocks_frb (s : State) : (s.leaveWatchBlocks).frb = s.frb := rfl
@[simp] theorem State.leaveWatchBlocks_pending (s : State) : (s.leaveWatchBlocks).pending = s.pending := rfl
@[simp] theorem State.leaveWatchBlocks_free (s : State) : (s.leaveWatchBlocks).free = s.free := rfl
@[simp] theorem State.leaveWatchBlocks_draw (s : State) : (s.leaveWatchBlocks).draw = s.draw := rfl

/-! ### restartMode -/

@[simp] theorem State.restartMode_wmt (s : State) (r : Option Resume) (a : Bool) : (s.restartMode r a).wmt = s.wmt := rfl
@[simp] theorem State.restartMode_csu (s : State) (r : Option Resume) (a : Bool) : (s.restartMode r a).csu = s.csu := rfl
@[simp] theorem State.restartMode_glu (s : State) (r : Option Resume) (a : Bool) : (s.restartMode r a).glu = s.glu := rfl
@[simp] theorem State.restartMode_pvt (s : State) (r : Option Resume) (a : Bool) : (s.restartMode r a).pvt = s.pvt := rfl
@[simp] theorem State.restartMode_vir (s : State) (r : Option Resume) (a : Bool) : (s.restartMode r a).vir = s.vir := rfl
@[simp] theorem State.restartMode_hal (s : State) (r : Option Resume) (a : Bool) : (s.restartMode r a).hal = s.hal := rfl
@[simp] theorem State.restartMode_cpr (s : State) (r : Option Resume) (a : Bool) : (s.restartMode r a).cpr = s.cpr := rfl
@[simp] theorem State.restartMode_sgi (s : State) (r : Option Resume) (a : Bool) : (s.restartMode r a).sgi = s.sgi := rfl
@[simp] theorem State.restartMode_frb (s : State) (r : Option Resume) (a : Bool) : (s.restartMode r a).frb = s.frb := rfl
@[simp] theorem State.restartMode_pending (s : State) (r : Option Resume) (a : Bool) : (s.restartMode r a).pending = s.pending := rfl
@[simp] theorem State.restartMode_free (s : State) (r : Option Resume) (a : Bool) : (s.restartMode r a).free = s.free := rfl
@[simp] theorem State.restartMode_draw (s : State) (r : Option Resume) (a : Bool) : (s.restartMode r a).draw = s.draw := rfl

/-! ### restartBlocks -/

@[simp] theorem State.restartBlocks_hpc (s : State) : (s.restartBlocks).hpc = s.hpc := rfl
@[simp] theorem State.restartBlocks_pad (s : State) : (s.restartBlocks).pad = s.pad := rfl
@[simp] theorem State.restartBlocks_mdc (s : State) : (s.restartBlocks).mdc = s.mdc := rfl
@[simp] theorem State.restartBlocks_frb (s : State) : (s.restartBlocks).frb = s.frb := rfl
@[simp] theorem State.restartBlocks_pending (s : State) : (s.restartBlocks).pending = s.pending := rfl
@[simp] theorem State.restartBlocks_free (s : State) : (s.restartBlocks).free = s.free := rfl
@[simp] theorem State.restartBlocks_draw (s : State) : (s.restartBlocks).draw = s.draw := rfl

/-! ### startRestart -/

@[simp] theorem State.startRestart_frb (s : State) (r : Option Resume) (a : Bool) : (s.startRestart r a).frb = s.frb := rfl
@[simp] theorem State.startRestart_pending (s : State) (r : Option Resume) (a : Bool) : (s.startRestart r a).pending = s.pending := rfl
@[simp] theorem State.startRestart_free (s : State) (r : Option Resume) (a : Bool) : (s.startRestart r a).free = s.free := rfl
@[simp] theorem State.startRestart_draw (s : State) (r : Option Resume) (a : Bool) : (s.startRestart r a).draw = s.draw := rfl

/-! ### setRequests -/

@[simp] theorem State.setRequests_wmt (s : State) (b : Bool) : (s.setRequests b).wmt = s.wmt := rfl
@[simp] theorem State.setRequests_csu (s : State) (b : Bool) : (s.setRequests b).csu = s.csu := rfl
@[simp] theorem State.setRequests_glu (s : State) (b : Bool) : (s.setRequests b).glu = s.glu := rfl
@[simp] theorem State.setRequests_pvt (s : State) (b : Bool) : (s.setRequests b).pvt = s.pvt := rfl
@[simp] theorem State.setRequests_vir (s : State) (b : Bool) : (s.setRequests b).vir = s.vir := rfl
@[simp] theorem State.setRequests_hal (s : State) (b : Bool) : (s.setRequests b).hal = s.hal := rfl
@[simp] theorem State.setRequests_cpr (s : State) (b : Bool) : (s.setRequests b).cpr = s.cpr := rfl
@[simp] theorem State.setRequests_sgi (s : State) (b : Bool) : (s.setRequests b).sgi = s.sgi := rfl
@[simp] theorem State.setRequests_mdc (s : State) (b : Bool) : (s.setRequests b).mdc = s.mdc := rfl
@[simp] theorem State.setRequests_frb (s : State) (b : Bool) : (s.setRequests b).frb = s.frb := rfl
@[simp] theorem State.setRequests_pending (s : State) (b : Bool) : (s.setRequests b).pending = s.pending := rfl
@[simp] theorem State.setRequests_free (s : State) (b : Bool) : (s.setRequests b).free = s.free := rfl
@[simp] theorem State.setRequests_draw (s : State) (b : Bool) : (s.setRequests b).draw = s.draw := rfl

/-! ### startConfig -/

@[simp] theorem State.startConfig_csu (s : State) : (s.startConfig).csu = s.csu := rfl
@[simp] theorem State.startConfig_pvt (s : State) : (s.startConfig).pvt = s.pvt := rfl
@[simp] theorem State.startConfig_vir (s : State) : (s.startConfig).vir = s.vir := rfl
@[simp] theorem State.startConfig_hal (s : State) : (s.startConfig).hal = s.hal := rfl
@[simp] theorem State.startConfig_hpc (s : State) : (s.startConfig).hpc = s.hpc := rfl
@[simp] theorem State.startConfig_sgi (s : State) : (s.startConfig).sgi = s.sgi := rfl
@[simp] theorem State.startConfig_frb (s : State) : (s.startConfig).frb = s.frb := rfl
@[simp] theorem State.startConfig_pending (s : State) : (s.startConfig).pending = s.pending := rfl
@[simp] theorem State.startConfig_free (s : State) : (s.startConfig).free = s.free := rfl
@[simp] theorem State.startConfig_draw (s : State) : (s.startConfig).draw = s.draw := rfl

/-! ### startRun -/

@[simp] theorem State.startRun_wmt (s : State) : (s.startRun).wmt = s.wmt := rfl
@[simp] theorem State.startRun_csu (s : State) : (s.startRun).csu = s.csu := rfl
@[simp] theorem State.startRun_glu (s : State) : (s.startRun).glu = s.glu := rfl
@[simp] theorem State.startRun_pvt (s : State) : (s.startRun).pvt = s.pvt := rfl
@[simp] theorem State.startRun_vir (s : State) : (s.startRun).vir = s.vir := rfl
@[simp] theorem State.startRun_hal (s : State) : (s.startRun).hal = s.hal := rfl
@[simp] theorem State.startRun_cpr (s : State) : (s.startRun).cpr = s.cpr := rfl
@[simp] theorem State.startRun_pad (s : State) : (s.startRun).pad = s.pad := rfl
@[simp] theorem State.startRun_sgi (s : State) : (s.startRun).sgi = s.sgi := rfl
@[simp] theorem State.startRun_frb (s : State) : (s.startRun).frb = s.frb := rfl
@[simp] theorem State.startRun_pending (s : State) : (s.startRun).pending = s.pending := rfl
@[simp] theorem State.startRun_free (s : State) : (s.startRun).free = s.free := rfl
@[simp] theorem State.startRun_draw (s : State) : (s.startRun).draw = s.draw := rfl

/-! ### startFirstRun -/

@[simp] theorem State.startFirstRun_wmt (s : State) : (s.startFirstRun).wmt = s.wmt := rfl
@[simp] theorem State.startFirstRun_csu (s : State) : (s.startFirstRun).csu = s.csu := rfl
@[simp] theorem State.startFirstRun_glu (s : State) : (s.startFirstRun).glu = s.glu := rfl
@[simp] theorem State.startFirstRun_pvt (s : State) : (s.startFirstRun).pvt = s.pvt := rfl
@[simp] theorem State.startFirstRun_vir (s : State) : (s.startFirstRun).vir = s.vir := rfl
@[simp] theorem State.startFirstRun_hal (s : State) : (s.startFirstRun).hal = s.hal := rfl
@[simp] theorem State.startFirstRun_pad (s : State) : (s.startFirstRun).pad = s.pad := rfl
@[simp] theorem State.startFirstRun_sgi (s : State) : (s.startFirstRun).sgi = s.sgi := rfl
@[simp] theorem State.startFirstRun_frb (s : State) : (s.startFirstRun).frb = s.frb := rfl
@[simp] theorem State.startFirstRun_pending (s : State) : (s.startFirstRun).pending = s.pending := rfl
@[simp] theorem State.startFirstRun_free (s : State) : (s.startFirstRun).free = s.free := rfl
@[simp] theorem State.startFirstRun_draw (s : State) : (s.startFirstRun).draw = s.draw := rfl

/-! ### restarted -/

@[simp] theorem State.restarted_csu (s : State) : (s.restarted).csu = s.csu := rfl
@[simp] theorem State.restarted_pvt (s : State) : (s.restarted).pvt = s.pvt := rfl
@[simp] theorem State.restarted_vir (s : State) : (s.restarted).vir = s.vir := rfl
@[simp] theorem State.restarted_hal (s : State) : (s.restarted).hal = s.hal := rfl
@[simp] theorem State.restarted_cpr (s : State) : (s.restarted).cpr = s.cpr := rfl
@[simp] theorem State.restarted_pad (s : State) : (s.restarted).pad = s.pad := rfl
@[simp] theorem State.restarted_sgi (s : State) : (s.restarted).sgi = s.sgi := rfl
@[simp] theorem State.restarted_frb (s : State) : (s.restarted).frb = s.frb := rfl
@[simp] theorem State.restarted_pending (s : State) : (s.restarted).pending = s.pending := rfl
@[simp] theorem State.restarted_free (s : State) : (s.restarted).free = s.free := rfl
@[simp] theorem State.restarted_draw (s : State) : (s.restarted).draw = s.draw := rfl

/-! ### startResumed -/

@[simp] theorem State.startResumed_wmt (s : State) (r : Resume) : (s.startResumed r).wmt = s.wmt := rfl
@[simp] theorem State.startResumed_glu (s : State) (r : Resume) : (s.startResumed r).glu = s.glu := rfl
@[simp] theorem State.startResumed_pvt (s : State) (r : Resume) : (s.startResumed r).pvt = s.pvt := rfl
@[simp] theorem State.startResumed_vir (s : State) (r : Resume) : (s.startResumed r).vir = s.vir := rfl
@[simp] theorem State.startResumed_hal (s : State) (r : Resume) : (s.startResumed r).hal = s.hal := rfl
@[simp] theorem State.startResumed_pad (s : State) (r : Resume) : (s.startResumed r).pad = s.pad := rfl
@[simp] theorem State.startResumed_sgi (s : State) (r : Resume) : (s.startResumed r).sgi = s.sgi := rfl
@[simp] theorem State.startResumed_mdc (s : State) (r : Resume) : (s.startResumed r).mdc = s.mdc := rfl
@[simp] theorem State.startResumed_frb (s : State) (r : Resume) : (s.startResumed r).frb = s.frb := rfl
@[simp] theorem State.startResumed_pending (s : State) (r : Resume) : (s.startResumed r).pending = s.pending := rfl
@[simp] theorem State.startResumed_free (s : State) (r : Resume) : (s.startResumed r).free = s.free := rfl
@[simp] theorem State.startResumed_draw (s : State) (r : Resume) : (s.startResumed r).draw = s.draw := rfl

/-! ### startAfresh -/

@[simp] theorem State.startAfresh_wmt (s : State) : (s.startAfresh).wmt = s.wmt := rfl
@[simp] theorem State.startAfresh_csu (s : State) : (s.startAfresh).csu = s.csu := rfl
@[simp] theorem State.startAfresh_glu (s : State) : (s.startAfresh).glu = s.glu := rfl
@[simp] theorem State.startAfresh_pvt (s : State) : (s.startAfresh).pvt = s.pvt := rfl
@[simp] theorem State.startAfresh_vir (s : State) : (s.startAfresh).vir = s.vir := rfl
@[simp] theorem State.startAfresh_hal (s : State) : (s.startAfresh).hal = s.hal := rfl
@[simp] theorem State.startAfresh_pad (s : State) : (s.startAfresh).pad = s.pad := rfl
@[simp] theorem State.startAfresh_sgi (s : State) : (s.startAfresh).sgi = s.sgi := rfl
@[simp] theorem State.startAfresh_mdc (s : State) : (s.startAfresh).mdc = s.mdc := rfl
@[simp] theorem State.startAfresh_frb (s : State) : (s.startAfresh).frb = s.frb := rfl
@[simp] theorem State.startAfresh_pending (s : State) : (s.startAfresh).pending = s.pending := rfl
@[simp] theorem State.startAfresh_free (s : State) : (s.startAfresh).free = s.free := rfl
@[simp] theorem State.startAfresh_draw (s : State) : (s.startAfresh).draw = s.draw := rfl

/-! ### enterWatch -/

@[simp] theorem State.enterWatch_csu (s : State) : (s.enterWatch).csu = s.csu := rfl
@[simp] theorem State.enterWatch_pvt (s : State) : (s.enterWatch).pvt = s.pvt := rfl
@[simp] theorem State.enterWatch_vir (s : State) : (s.enterWatch).vir = s.vir := rfl
@[simp] theorem State.enterWatch_hal (s : State) : (s.enterWatch).hal = s.hal := rfl
@[simp] theorem State.enterWatch_frb (s : State) : (s.enterWatch).frb = s.frb := rfl
@[simp] theorem State.enterWatch_pending (s : State) : (s.enterWatch).pending = s.pending := rfl
@[simp] theorem State.enterWatch_free (s : State) : (s.enterWatch).free = s.free := rfl
@[simp] theorem State.enterWatch_draw (s : State) : (s.enterWatch).draw = s.draw := rfl

/-! ### wakeTarget -/

@[simp] theorem State.wakeTarget_csu (s : State) (p : Bool) : (s.wakeTarget p).csu = s.csu := rfl
@[simp] theorem State.wakeTarget_pvt (s : State) (p : Bool) : (s.wakeTarget p).pvt = s.pvt := rfl
@[simp] theorem State.wakeTarget_vir (s : State) (p : Bool) : (s.wakeTarget p).vir = s.vir := rfl
@[simp] theorem State.wakeTarget_hal (s : State) (p : Bool) : (s.wakeTarget p).hal = s.hal := rfl
@[simp] theorem State.wakeTarget_frb (s : State) (p : Bool) : (s.wakeTarget p).frb = s.frb := rfl
@[simp] theorem State.wakeTarget_pending (s : State) (p : Bool) : (s.wakeTarget p).pending = s.pending := rfl
@[simp] theorem State.wakeTarget_free (s : State) (p : Bool) : (s.wakeTarget p).free = s.free := rfl
@[simp] theorem State.wakeTarget_draw (s : State) (p : Bool) : (s.wakeTarget p).draw = s.draw := rfl

/-! ### seenStationary -/

@[simp] theorem State.seenStationary_wmt (s : State) : (s.seenStationary).wmt = s.wmt := rfl
@[simp] theorem State.seenStationary_csu (s : State) : (s.seenStationary).csu = s.csu := rfl
@[simp] theorem State.seenStationary_glu (s : State) : (s.seenStationary).glu = s.glu := rfl
@[simp] theorem State.seenStationary_pvt (s : State) : (s.seenStationary).pvt = s.pvt := rfl
@[simp] theorem State.seenStationary_vir (s : State) : (s.seenStationary).vir = s.vir := rfl
@[simp] theorem State.seenStationary_hal (s : State) : (s.seenStationary).hal = s.hal := rfl
@[simp] theorem State.seenStationary_hpc (s : State) : (s.seenStationary).hpc = s.hpc := rfl
@[simp] theorem State.seenStationary_cpr (s : State) : (s.seenStationary).cpr = s.cpr := rfl
@[simp] theorem State.seenStationary_sgi (s : State) : (s.seenStationary).sgi = s.sgi := rfl
@[simp] theorem State.seenStationary_frb (s : State) : (s.seenStationary).frb = s.frb := rfl
@[simp] theorem State.seenStationary_pending (s : State) : (s.seenStationary).pending = s.pending := rfl
@[simp] theorem State.seenStationary_free (s : State) : (s.seenStationary).free = s.free := rfl
@[simp] theorem State.seenStationary_draw (s : State) : (s.seenStationary).draw = s.draw := rfl

/-! ### lapse -/

@[simp] theorem State.lapse_wmt (s : State) : (s.lapse).wmt = s.wmt := rfl
@[simp] theorem State.lapse_csu (s : State) : (s.lapse).csu = s.csu := rfl
@[simp] theorem State.lapse_glu (s : State) : (s.lapse).glu = s.glu := rfl
@[simp] theorem State.lapse_pvt (s : State) : (s.lapse).pvt = s.pvt := rfl
@[simp] theorem State.lapse_vir (s : State) : (s.lapse).vir = s.vir := rfl
@[simp] theorem State.lapse_hal (s : State) : (s.lapse).hal = s.hal := rfl
@[simp] theorem State.lapse_cpr (s : State) : (s.lapse).cpr = s.cpr := rfl
@[simp] theorem State.lapse_pad (s : State) : (s.lapse).pad = s.pad := rfl
@[simp] theorem State.lapse_sgi (s : State) : (s.lapse).sgi = s.sgi := rfl
@[simp] theorem State.lapse_frb (s : State) : (s.lapse).frb = s.frb := rfl
@[simp] theorem State.lapse_pending (s : State) : (s.lapse).pending = s.pending := rfl
@[simp] theorem State.lapse_free (s : State) : (s.lapse).free = s.free := rfl
@[simp] theorem State.lapse_draw (s : State) : (s.lapse).draw = s.draw := rfl

/-! ### drawn -/

@[simp] theorem State.drawn_wmt (s : State) : (s.drawn).wmt = s.wmt := rfl
@[simp] theorem State.drawn_csu (s : State) : (s.drawn).csu = s.csu := rfl
@[simp] theorem State.drawn_glu (s : State) : (s.drawn).glu = s.glu := rfl
@[simp] theorem State.drawn_pvt (s : State) : (s.drawn).pvt = s.pvt := rfl
@[simp] theorem State.drawn_vir (s : State) : (s.drawn).vir = s.vir := rfl
@[simp] theorem State.drawn_hal (s : State) : (s.drawn).hal = s.hal := rfl
@[simp] theorem State.drawn_hpc (s : State) : (s.drawn).hpc = s.hpc := rfl
@[simp] theorem State.drawn_cpr (s : State) : (s.drawn).cpr = s.cpr := rfl
@[simp] theorem State.drawn_pad (s : State) : (s.drawn).pad = s.pad := rfl
@[simp] theorem State.drawn_sgi (s : State) : (s.drawn).sgi = s.sgi := rfl
@[simp] theorem State.drawn_mdc (s : State) : (s.drawn).mdc = s.mdc := rfl
@[simp] theorem State.drawn_frb (s : State) : (s.drawn).frb = s.frb := rfl
@[simp] theorem State.drawn_pending (s : State) : (s.drawn).pending = s.pending := rfl

/-! ### advanced -/

@[simp] theorem State.advanced_wmt (s : State) : (s.advanced).wmt = s.wmt := rfl
@[simp] theorem State.advanced_csu (s : State) : (s.advanced).csu = s.csu := rfl
@[simp] theorem State.advanced_glu (s : State) : (s.advanced).glu = s.glu := rfl
@[simp] theorem State.advanced_hal (s : State) : (s.advanced).hal = s.hal := rfl
@[simp] theorem State.advanced_cpr (s : State) : (s.advanced).cpr = s.cpr := rfl
@[simp] theorem State.advanced_frb (s : State) : (s.advanced).frb = s.frb := rfl
@[simp] theorem State.advanced_pending (s : State) : (s.advanced).pending = s.pending := rfl
@[simp] theorem State.advanced_free (s : State) : (s.advanced).free = s.free := rfl
@[simp] theorem State.advanced_draw (s : State) : (s.advanced).draw = s.draw := rfl

/-! ### setKey -/

@[simp] theorem State.setKey_wmt (s : State) (k : Bool) : (s.setKey k).wmt = s.wmt := rfl
@[simp] theorem State.setKey_csu (s : State) (k : Bool) : (s.setKey k).csu = s.csu := rfl
@[simp] theorem State.setKey_glu (s : State) (k : Bool) : (s.setKey k).glu = s.glu := rfl
@[simp] theorem State.setKey_pvt (s : State) (k : Bool) : (s.setKey k).pvt = s.pvt := rfl
@[simp] theorem State.setKey_vir (s : State) (k : Bool) : (s.setKey k).vir = s.vir := rfl
@[simp] theorem State.setKey_hal (s : State) (k : Bool) : (s.setKey k).hal = s.hal := rfl
@[simp] theorem State.setKey_hpc (s : State) (k : Bool) : (s.setKey k).hpc = s.hpc := rfl
@[simp] theorem State.setKey_cpr (s : State) (k : Bool) : (s.setKey k).cpr = s.cpr := rfl
@[simp] theorem State.setKey_pad (s : State) (k : Bool) : (s.setKey k).pad = s.pad := rfl
@[simp] theorem State.setKey_sgi (s : State) (k : Bool) : (s.setKey k).sgi = s.sgi := rfl
@[simp] theorem State.setKey_frb (s : State) (k : Bool) : (s.setKey k).frb = s.frb := rfl
@[simp] theorem State.setKey_pending (s : State) (k : Bool) : (s.setKey k).pending = s.pending := rfl
@[simp] theorem State.setKey_free (s : State) (k : Bool) : (s.setKey k).free = s.free := rfl
@[simp] theorem State.setKey_draw (s : State) (k : Bool) : (s.setKey k).draw = s.draw := rfl

/-! ### stable -/

@[simp] theorem State.stable_wmt (s : State) : (s.stable).wmt = s.wmt := rfl
@[simp] theorem State.stable_csu (s : State) : (s.stable).csu = s.csu := rfl
@[simp] theorem State.stable_glu (s : State) : (s.stable).glu = s.glu := rfl
@[simp] theorem State.stable_pvt (s : State) : (s.stable).pvt = s.pvt := rfl
@[simp] theorem State.stable_vir (s : State) : (s.stable).vir = s.vir := rfl
@[simp] theorem State.stable_hal (s : State) : (s.stable).hal = s.hal := rfl
@[simp] theorem State.stable_hpc (s : State) : (s.stable).hpc = s.hpc := rfl
@[simp] theorem State.stable_cpr (s : State) : (s.stable).cpr = s.cpr := rfl
@[simp] theorem State.stable_pad (s : State) : (s.stable).pad = s.pad := rfl
@[simp] theorem State.stable_sgi (s : State) : (s.stable).sgi = s.sgi := rfl
@[simp] theorem State.stable_frb (s : State) : (s.stable).frb = s.frb := rfl
@[simp] theorem State.stable_pending (s : State) : (s.stable).pending = s.pending := rfl
@[simp] theorem State.stable_free (s : State) : (s.stable).free = s.free := rfl
@[simp] theorem State.stable_draw (s : State) : (s.stable).draw = s.draw := rfl

/-! ### takeCab -/

@[simp] theorem State.takeCab_wmt (s : State) (c : CabFields) : (s.takeCab c).wmt = s.wmt := rfl
@[simp] theorem State.takeCab_csu (s : State) (c : CabFields) : (s.takeCab c).csu = s.csu := rfl
@[simp] theorem State.takeCab_glu (s : State) (c : CabFields) : (s.takeCab c).glu = s.glu := rfl
@[simp] theorem State.takeCab_pvt (s : State) (c : CabFields) : (s.takeCab c).pvt = s.pvt := rfl
@[simp] theorem State.takeCab_hal (s : State) (c : CabFields) : (s.takeCab c).hal = s.hal := rfl
@[simp] theorem State.takeCab_hpc (s : State) (c : CabFields) : (s.takeCab c).hpc = s.hpc := rfl
@[simp] theorem State.takeCab_cpr (s : State) (c : CabFields) : (s.takeCab c).cpr = s.cpr := rfl
@[simp] theorem State.takeCab_pad (s : State) (c : CabFields) : (s.takeCab c).pad = s.pad := rfl
@[simp] theorem State.takeCab_sgi (s : State) (c : CabFields) : (s.takeCab c).sgi = s.sgi := rfl
@[simp] theorem State.takeCab_mdc (s : State) (c : CabFields) : (s.takeCab c).mdc = s.mdc := rfl
@[simp] theorem State.takeCab_frb (s : State) (c : CabFields) : (s.takeCab c).frb = s.frb := rfl
@[simp] theorem State.takeCab_pending (s : State) (c : CabFields) : (s.takeCab c).pending = s.pending := rfl
@[simp] theorem State.takeCab_free (s : State) (c : CabFields) : (s.takeCab c).free = s.free := rfl
@[simp] theorem State.takeCab_draw (s : State) (c : CabFields) : (s.takeCab c).draw = s.draw := rfl

/-! ### takeSettings -/

@[simp] theorem State.takeSettings_wmt (s : State) (g : Nat) (b2 b3 b4 b5 b6 b7 : Byte) : (s.takeSettings g b2 b3 b4 b5 b6 b7).wmt = s.wmt := rfl
@[simp] theorem State.takeSettings_csu (s : State) (g : Nat) (b2 b3 b4 b5 b6 b7 : Byte) : (s.takeSettings g b2 b3 b4 b5 b6 b7).csu = s.csu := rfl
@[simp] theorem State.takeSettings_glu (s : State) (g : Nat) (b2 b3 b4 b5 b6 b7 : Byte) : (s.takeSettings g b2 b3 b4 b5 b6 b7).glu = s.glu := rfl
@[simp] theorem State.takeSettings_pvt (s : State) (g : Nat) (b2 b3 b4 b5 b6 b7 : Byte) : (s.takeSettings g b2 b3 b4 b5 b6 b7).pvt = s.pvt := rfl
@[simp] theorem State.takeSettings_vir (s : State) (g : Nat) (b2 b3 b4 b5 b6 b7 : Byte) : (s.takeSettings g b2 b3 b4 b5 b6 b7).vir = s.vir := rfl
@[simp] theorem State.takeSettings_hal (s : State) (g : Nat) (b2 b3 b4 b5 b6 b7 : Byte) : (s.takeSettings g b2 b3 b4 b5 b6 b7).hal = s.hal := rfl
@[simp] theorem State.takeSettings_hpc (s : State) (g : Nat) (b2 b3 b4 b5 b6 b7 : Byte) : (s.takeSettings g b2 b3 b4 b5 b6 b7).hpc = s.hpc := rfl
@[simp] theorem State.takeSettings_cpr (s : State) (g : Nat) (b2 b3 b4 b5 b6 b7 : Byte) : (s.takeSettings g b2 b3 b4 b5 b6 b7).cpr = s.cpr := rfl
@[simp] theorem State.takeSettings_pad (s : State) (g : Nat) (b2 b3 b4 b5 b6 b7 : Byte) : (s.takeSettings g b2 b3 b4 b5 b6 b7).pad = s.pad := rfl
@[simp] theorem State.takeSettings_sgi (s : State) (g : Nat) (b2 b3 b4 b5 b6 b7 : Byte) : (s.takeSettings g b2 b3 b4 b5 b6 b7).sgi = s.sgi := rfl
@[simp] theorem State.takeSettings_frb (s : State) (g : Nat) (b2 b3 b4 b5 b6 b7 : Byte) : (s.takeSettings g b2 b3 b4 b5 b6 b7).frb = s.frb := rfl
@[simp] theorem State.takeSettings_pending (s : State) (g : Nat) (b2 b3 b4 b5 b6 b7 : Byte) : (s.takeSettings g b2 b3 b4 b5 b6 b7).pending = s.pending := rfl
@[simp] theorem State.takeSettings_free (s : State) (g : Nat) (b2 b3 b4 b5 b6 b7 : Byte) : (s.takeSettings g b2 b3 b4 b5 b6 b7).free = s.free := rfl
@[simp] theorem State.takeSettings_draw (s : State) (g : Nat) (b2 b3 b4 b5 b6 b7 : Byte) : (s.takeSettings g b2 b3 b4 b5 b6 b7).draw = s.draw := rfl

/-! ### withPending -/

@[simp] theorem State.withPending_wmt (s : State) (l : List Instr) : (s.withPending l).wmt = s.wmt := rfl
@[simp] theorem State.withPending_csu (s : State) (l : List Instr) : (s.withPending l).csu = s.csu := rfl
@[simp] theorem State.withPending_glu (s : State) (l : List Instr) : (s.withPending l).glu = s.glu := rfl
@[simp] theorem State.withPending_pvt (s : State) (l : List Instr) : (s.withPending l).pvt = s.pvt := rfl
@[simp] theorem State.withPending_vir (s : State) (l : List Instr) : (s.withPending l).vir = s.vir := rfl
@[simp] theorem State.withPending_hal (s : State) (l : List Instr) : (s.withPending l).hal = s.hal := rfl
@[simp] theorem State.withPending_hpc (s : State) (l : List Instr) : (s.withPending l).hpc = s.hpc := rfl
@[simp] theorem State.withPending_cpr (s : State) (l : List Instr) : (s.withPending l).cpr = s.cpr := rfl
@[simp] theorem State.withPending_pad (s : State) (l : List Instr) : (s.withPending l).pad = s.pad := rfl
@[simp] theorem State.withPending_sgi (s : State) (l : List Instr) : (s.withPending l).sgi = s.sgi := rfl
@[simp] theorem State.withPending_mdc (s : State) (l : List Instr) : (s.withPending l).mdc = s.mdc := rfl
@[simp] theorem State.withPending_frb (s : State) (l : List Instr) : (s.withPending l).frb = s.frb := rfl
@[simp] theorem State.withPending_free (s : State) (l : List Instr) : (s.withPending l).free = s.free := rfl
@[simp] theorem State.withPending_draw (s : State) (l : List Instr) : (s.withPending l).draw = s.draw := rfl

/-! ### countUp -/

@[simp] theorem State.countUp_wmt (s : State) : (s.countUp).wmt = s.wmt := rfl
@[simp] theorem State.countUp_csu (s : State) : (s.countUp).csu = s.csu := rfl
@[simp] theorem State.countUp_glu (s : State) : (s.countUp).glu = s.glu := rfl
@[simp] theorem State.countUp_pvt (s : State) : (s.countUp).pvt = s.pvt := rfl
@[simp] theorem State.countUp_vir (s : State) : (s.countUp).vir = s.vir := rfl
@[simp] theorem State.countUp_hal (s : State) : (s.countUp).hal = s.hal := rfl
@[simp] theorem State.countUp_hpc (s : State) : (s.countUp).hpc = s.hpc := rfl
@[simp] theorem State.countUp_cpr (s : State) : (s.countUp).cpr = s.cpr := rfl
@[simp] theorem State.countUp_pad (s : State) : (s.countUp).pad = s.pad := rfl
@[simp] theorem State.countUp_sgi (s : State) : (s.countUp).sgi = s.sgi := rfl
@[simp] theorem State.countUp_frb (s : State) : (s.countUp).frb = s.frb := rfl
@[simp] theorem State.countUp_pending (s : State) : (s.countUp).pending = s.pending := rfl
@[simp] theorem State.countUp_free (s : State) : (s.countUp).free = s.free := rfl
@[simp] theorem State.countUp_draw (s : State) : (s.countUp).draw = s.draw := rfl

/-! ### beginAgain -/

@[simp] theorem State.beginAgain_wmt (s : State) : (s.beginAgain).wmt = s.wmt := rfl
@[simp] theorem State.beginAgain_csu (s : State) : (s.beginAgain).csu = s.csu := rfl
@[simp] theorem State.beginAgain_glu (s : State) : (s.beginAgain).glu = s.glu := rfl
@[simp] theorem State.beginAgain_pvt (s : State) : (s.beginAgain).pvt = s.pvt := rfl
@[simp] theorem State.beginAgain_vir (s : State) : (s.beginAgain).vir = s.vir := rfl
@[simp] theorem State.beginAgain_hal (s : State) : (s.beginAgain).hal = s.hal := rfl
@[simp] theorem State.beginAgain_hpc (s : State) : (s.beginAgain).hpc = s.hpc := rfl
@[simp] theorem State.beginAgain_cpr (s : State) : (s.beginAgain).cpr = s.cpr := rfl
@[simp] theorem State.beginAgain_pad (s : State) : (s.beginAgain).pad = s.pad := rfl
@[simp] theorem State.beginAgain_sgi (s : State) : (s.beginAgain).sgi = s.sgi := rfl
@[simp] theorem State.beginAgain_frb (s : State) : (s.beginAgain).frb = s.frb := rfl
@[simp] theorem State.beginAgain_pending (s : State) : (s.beginAgain).pending = s.pending := rfl
@[simp] theorem State.beginAgain_free (s : State) : (s.beginAgain).free = s.free := rfl
@[simp] theorem State.beginAgain_draw (s : State) : (s.beginAgain).draw = s.draw := rfl

/-! ### markExpired -/

@[simp] theorem State.markExpired_wmt (s : State) (b : Bool) : (s.markExpired b).wmt = s.wmt := rfl
@[simp] theorem State.markExpired_csu (s : State) (b : Bool) : (s.markExpired b).csu = s.csu := rfl
@[simp] theorem State.markExpired_glu (s : State) (b : Bool) : (s.markExpired b).glu = s.glu := rfl
@[simp] theorem State.markExpired_pvt (s : State) (b : Bool) : (s.markExpired b).pvt = s.pvt := rfl
@[simp] theorem State.markExpired_vir (s : State) (b : Bool) : (s.markExpired b).vir = s.vir := rfl
@[simp] theorem State.markExpired_hal (s : State) (b : Bool) : (s.markExpired b).hal = s.hal := rfl
@[simp] theorem State.markExpired_hpc (s : State) (b : Bool) : (s.markExpired b).hpc = s.hpc := rfl
@[simp] theorem State.markExpired_cpr (s : State) (b : Bool) : (s.markExpired b).cpr = s.cpr := rfl
@[simp] theorem State.markExpired_pad (s : State) (b : Bool) : (s.markExpired b).pad = s.pad := rfl
@[simp] theorem State.markExpired_sgi (s : State) (b : Bool) : (s.markExpired b).sgi = s.sgi := rfl
@[simp] theorem State.markExpired_frb (s : State) (b : Bool) : (s.markExpired b).frb = s.frb := rfl
@[simp] theorem State.markExpired_pending (s : State) (b : Bool) : (s.markExpired b).pending = s.pending := rfl
@[simp] theorem State.markExpired_free (s : State) (b : Bool) : (s.markExpired b).free = s.free := rfl
@[simp] theorem State.markExpired_draw (s : State) (b : Bool) : (s.markExpired b).draw = s.draw := rfl
@[simp] theorem State.markExpired_mode (s : State) (b : Bool) : (s.markExpired b).mdc.mode = s.mdc.mode := rfl
@[simp] theorem State.markExpired_settings (s : State) (b : Bool) : (s.markExpired b).mdc.settings = s.mdc.settings := rfl

end Sys2Proof.Machine
end

