-- ==== Sys2Proof/Laws/Updates.lean ====
section
/-! SUPPORT. The updates that branch, field by field: placing a frame, storing a report and ending the window each leave
most of the state as it was. -/

namespace Sys2Proof.Machine

/-! ### place -/

@[simp] theorem State.place_wmt (s : State) (k : TxKind) (d : List Byte) : (s.place k d).wmt = s.wmt := by
  unfold State.place; split <;> rfl
@[simp] theorem State.place_csu (s : State) (k : TxKind) (d : List Byte) : (s.place k d).csu = s.csu := by
  unfold State.place; split <;> rfl
@[simp] theorem State.place_glu (s : State) (k : TxKind) (d : List Byte) : (s.place k d).glu = s.glu := by
  unfold State.place; split <;> rfl
@[simp] theorem State.place_pvt (s : State) (k : TxKind) (d : List Byte) : (s.place k d).pvt = s.pvt := by
  unfold State.place; split <;> rfl
@[simp] theorem State.place_vir (s : State) (k : TxKind) (d : List Byte) : (s.place k d).vir = s.vir := by
  unfold State.place; split <;> rfl
@[simp] theorem State.place_hal (s : State) (k : TxKind) (d : List Byte) : (s.place k d).hal = s.hal := by
  unfold State.place; split <;> rfl
@[simp] theorem State.place_hpc (s : State) (k : TxKind) (d : List Byte) : (s.place k d).hpc = s.hpc := by
  unfold State.place; split <;> rfl
@[simp] theorem State.place_cpr (s : State) (k : TxKind) (d : List Byte) : (s.place k d).cpr = s.cpr := by
  unfold State.place; split <;> rfl
@[simp] theorem State.place_pad (s : State) (k : TxKind) (d : List Byte) : (s.place k d).pad = s.pad := by
  unfold State.place; split <;> rfl
@[simp] theorem State.place_mdc (s : State) (k : TxKind) (d : List Byte) : (s.place k d).mdc = s.mdc := by
  unfold State.place; split <;> rfl
@[simp] theorem State.place_frb (s : State) (k : TxKind) (d : List Byte) : (s.place k d).frb = s.frb := by
  unfold State.place; split <;> rfl
@[simp] theorem State.place_pending (s : State) (k : TxKind) (d : List Byte) : (s.place k d).pending = s.pending := by
  unfold State.place; split <;> rfl
@[simp] theorem State.place_free (s : State) (k : TxKind) (d : List Byte) : (s.place k d).free = s.free := by
  unfold State.place; split <;> rfl
@[simp] theorem State.place_draw (s : State) (k : TxKind) (d : List Byte) : (s.place k d).draw = s.draw := by
  unfold State.place; split <;> rfl
/-! ### placeDeclaration -/

@[simp] theorem State.placeDeclaration_wmt (s : State) : (s.placeDeclaration).wmt = s.wmt := by
  unfold State.placeDeclaration; split <;> simp
@[simp] theorem State.placeDeclaration_csu (s : State) : (s.placeDeclaration).csu = s.csu := by
  unfold State.placeDeclaration; split <;> simp
@[simp] theorem State.placeDeclaration_glu (s : State) : (s.placeDeclaration).glu = s.glu := by
  unfold State.placeDeclaration; split <;> simp
@[simp] theorem State.placeDeclaration_pvt (s : State) : (s.placeDeclaration).pvt = s.pvt := by
  unfold State.placeDeclaration; split <;> simp
@[simp] theorem State.placeDeclaration_vir (s : State) : (s.placeDeclaration).vir = s.vir := by
  unfold State.placeDeclaration; split <;> simp
@[simp] theorem State.placeDeclaration_hal (s : State) : (s.placeDeclaration).hal = s.hal := by
  unfold State.placeDeclaration; split <;> simp
@[simp] theorem State.placeDeclaration_hpc (s : State) : (s.placeDeclaration).hpc = s.hpc := by
  unfold State.placeDeclaration; split <;> simp
@[simp] theorem State.placeDeclaration_cpr (s : State) : (s.placeDeclaration).cpr = s.cpr := by
  unfold State.placeDeclaration; split <;> simp
@[simp] theorem State.placeDeclaration_pad (s : State) : (s.placeDeclaration).pad = s.pad := by
  unfold State.placeDeclaration; split <;> simp
@[simp] theorem State.placeDeclaration_mdc (s : State) : (s.placeDeclaration).mdc = s.mdc := by
  unfold State.placeDeclaration; split <;> simp
@[simp] theorem State.placeDeclaration_frb (s : State) : (s.placeDeclaration).frb = s.frb := by
  unfold State.placeDeclaration; split <;> simp
@[simp] theorem State.placeDeclaration_pending (s : State) : (s.placeDeclaration).pending = s.pending := by
  unfold State.placeDeclaration; split <;> simp
@[simp] theorem State.placeDeclaration_free (s : State) : (s.placeDeclaration).free = s.free := by
  unfold State.placeDeclaration; split <;> simp
@[simp] theorem State.placeDeclaration_draw (s : State) : (s.placeDeclaration).draw = s.draw := by
  unfold State.placeDeclaration; split <;> simp
/-! ### placeAlert -/

@[simp] theorem State.placeAlert_wmt (s : State) (a : AlertCause) (l : Nat) (x : Int) : (s.placeAlert a l x).wmt = s.wmt := by
  unfold State.placeAlert; split <;> simp
@[simp] theorem State.placeAlert_csu (s : State) (a : AlertCause) (l : Nat) (x : Int) : (s.placeAlert a l x).csu = s.csu := by
  unfold State.placeAlert; split <;> simp
@[simp] theorem State.placeAlert_glu (s : State) (a : AlertCause) (l : Nat) (x : Int) : (s.placeAlert a l x).glu = s.glu := by
  unfold State.placeAlert; split <;> simp
@[simp] theorem State.placeAlert_pvt (s : State) (a : AlertCause) (l : Nat) (x : Int) : (s.placeAlert a l x).pvt = s.pvt := by
  unfold State.placeAlert; split <;> simp
@[simp] theorem State.placeAlert_vir (s : State) (a : AlertCause) (l : Nat) (x : Int) : (s.placeAlert a l x).vir = s.vir := by
  unfold State.placeAlert; split <;> simp
@[simp] theorem State.placeAlert_hal (s : State) (a : AlertCause) (l : Nat) (x : Int) : (s.placeAlert a l x).hal = s.hal := by
  unfold State.placeAlert; split <;> simp
@[simp] theorem State.placeAlert_hpc (s : State) (a : AlertCause) (l : Nat) (x : Int) : (s.placeAlert a l x).hpc = s.hpc := by
  unfold State.placeAlert; split <;> simp
@[simp] theorem State.placeAlert_cpr (s : State) (a : AlertCause) (l : Nat) (x : Int) : (s.placeAlert a l x).cpr = s.cpr := by
  unfold State.placeAlert; split <;> simp
@[simp] theorem State.placeAlert_pad (s : State) (a : AlertCause) (l : Nat) (x : Int) : (s.placeAlert a l x).pad = s.pad := by
  unfold State.placeAlert; split <;> simp
@[simp] theorem State.placeAlert_mdc (s : State) (a : AlertCause) (l : Nat) (x : Int) : (s.placeAlert a l x).mdc = s.mdc := by
  unfold State.placeAlert; split <;> simp
@[simp] theorem State.placeAlert_frb (s : State) (a : AlertCause) (l : Nat) (x : Int) : (s.placeAlert a l x).frb = s.frb := by
  unfold State.placeAlert; split <;> simp
@[simp] theorem State.placeAlert_pending (s : State) (a : AlertCause) (l : Nat) (x : Int) : (s.placeAlert a l x).pending = s.pending := by
  unfold State.placeAlert; split <;> simp
@[simp] theorem State.placeAlert_free (s : State) (a : AlertCause) (l : Nat) (x : Int) : (s.placeAlert a l x).free = s.free := by
  unfold State.placeAlert; split <;> simp
@[simp] theorem State.placeAlert_draw (s : State) (a : AlertCause) (l : Nat) (x : Int) : (s.placeAlert a l x).draw = s.draw := by
  unfold State.placeAlert; split <;> simp
/-! ### placeRouse -/

@[simp] theorem State.placeRouse_wmt (s : State) : (s.placeRouse).wmt = s.wmt := by
  simp [State.placeRouse]
@[simp] theorem State.placeRouse_csu (s : State) : (s.placeRouse).csu = s.csu := by
  simp [State.placeRouse]
@[simp] theorem State.placeRouse_glu (s : State) : (s.placeRouse).glu = s.glu := by
  simp [State.placeRouse]
@[simp] theorem State.placeRouse_pvt (s : State) : (s.placeRouse).pvt = s.pvt := by
  simp [State.placeRouse]
@[simp] theorem State.placeRouse_vir (s : State) : (s.placeRouse).vir = s.vir := by
  simp [State.placeRouse]
@[simp] theorem State.placeRouse_hal (s : State) : (s.placeRouse).hal = s.hal := by
  simp [State.placeRouse]
@[simp] theorem State.placeRouse_hpc (s : State) : (s.placeRouse).hpc = s.hpc := by
  simp [State.placeRouse]
@[simp] theorem State.placeRouse_cpr (s : State) : (s.placeRouse).cpr = s.cpr := by
  simp [State.placeRouse]
@[simp] theorem State.placeRouse_pad (s : State) : (s.placeRouse).pad = s.pad := by
  simp [State.placeRouse]
@[simp] theorem State.placeRouse_mdc (s : State) : (s.placeRouse).mdc = s.mdc := by
  simp [State.placeRouse]
@[simp] theorem State.placeRouse_frb (s : State) : (s.placeRouse).frb = s.frb := by
  simp [State.placeRouse]
@[simp] theorem State.placeRouse_pending (s : State) : (s.placeRouse).pending = s.pending := by
  simp [State.placeRouse]
@[simp] theorem State.placeRouse_free (s : State) : (s.placeRouse).free = s.free := by
  simp [State.placeRouse]
@[simp] theorem State.placeRouse_draw (s : State) : (s.placeRouse).draw = s.draw := by
  simp [State.placeRouse]
/-! ### placeReply -/

@[simp] theorem State.placeReply_wmt (s : State) (r : ReplyCode) (k a : Byte) (p : List Byte) : (s.placeReply r k a p).wmt = s.wmt := by
  simp [State.placeReply]
@[simp] theorem State.placeReply_csu (s : State) (r : ReplyCode) (k a : Byte) (p : List Byte) : (s.placeReply r k a p).csu = s.csu := by
  simp [State.placeReply]
@[simp] theorem State.placeReply_glu (s : State) (r : ReplyCode) (k a : Byte) (p : List Byte) : (s.placeReply r k a p).glu = s.glu := by
  simp [State.placeReply]
@[simp] theorem State.placeReply_pvt (s : State) (r : ReplyCode) (k a : Byte) (p : List Byte) : (s.placeReply r k a p).pvt = s.pvt := by
  simp [State.placeReply]
@[simp] theorem State.placeReply_vir (s : State) (r : ReplyCode) (k a : Byte) (p : List Byte) : (s.placeReply r k a p).vir = s.vir := by
  simp [State.placeReply]
@[simp] theorem State.placeReply_hal (s : State) (r : ReplyCode) (k a : Byte) (p : List Byte) : (s.placeReply r k a p).hal = s.hal := by
  simp [State.placeReply]
@[simp] theorem State.placeReply_hpc (s : State) (r : ReplyCode) (k a : Byte) (p : List Byte) : (s.placeReply r k a p).hpc = s.hpc := by
  simp [State.placeReply]
@[simp] theorem State.placeReply_cpr (s : State) (r : ReplyCode) (k a : Byte) (p : List Byte) : (s.placeReply r k a p).cpr = s.cpr := by
  simp [State.placeReply]
@[simp] theorem State.placeReply_pad (s : State) (r : ReplyCode) (k a : Byte) (p : List Byte) : (s.placeReply r k a p).pad = s.pad := by
  simp [State.placeReply]
@[simp] theorem State.placeReply_mdc (s : State) (r : ReplyCode) (k a : Byte) (p : List Byte) : (s.placeReply r k a p).mdc = s.mdc := by
  simp [State.placeReply]
@[simp] theorem State.placeReply_frb (s : State) (r : ReplyCode) (k a : Byte) (p : List Byte) : (s.placeReply r k a p).frb = s.frb := by
  simp [State.placeReply]
@[simp] theorem State.placeReply_pending (s : State) (r : ReplyCode) (k a : Byte) (p : List Byte) : (s.placeReply r k a p).pending = s.pending := by
  simp [State.placeReply]
@[simp] theorem State.placeReply_free (s : State) (r : ReplyCode) (k a : Byte) (p : List Byte) : (s.placeReply r k a p).free = s.free := by
  simp [State.placeReply]
@[simp] theorem State.placeReply_draw (s : State) (r : ReplyCode) (k a : Byte) (p : List Byte) : (s.placeReply r k a p).draw = s.draw := by
  simp [State.placeReply]
/-! ### placeOwedReply -/

@[simp] theorem State.placeOwedReply_wmt (s : State) : (s.placeOwedReply).wmt = s.wmt := by
  unfold State.placeOwedReply; split <;> simp
@[simp] theorem State.placeOwedReply_csu (s : State) : (s.placeOwedReply).csu = s.csu := by
  unfold State.placeOwedReply; split <;> simp
@[simp] theorem State.placeOwedReply_glu (s : State) : (s.placeOwedReply).glu = s.glu := by
  unfold State.placeOwedReply; split <;> simp
@[simp] theorem State.placeOwedReply_pvt (s : State) : (s.placeOwedReply).pvt = s.pvt := by
  unfold State.placeOwedReply; split <;> simp
@[simp] theorem State.placeOwedReply_vir (s : State) : (s.placeOwedReply).vir = s.vir := by
  unfold State.placeOwedReply; split <;> simp
@[simp] theorem State.placeOwedReply_hal (s : State) : (s.placeOwedReply).hal = s.hal := by
  unfold State.placeOwedReply; split <;> simp
@[simp] theorem State.placeOwedReply_hpc (s : State) : (s.placeOwedReply).hpc = s.hpc := by
  unfold State.placeOwedReply; split <;> simp
@[simp] theorem State.placeOwedReply_cpr (s : State) : (s.placeOwedReply).cpr = s.cpr := by
  unfold State.placeOwedReply; split <;> simp
@[simp] theorem State.placeOwedReply_pad (s : State) : (s.placeOwedReply).pad = s.pad := by
  unfold State.placeOwedReply; split <;> simp
@[simp] theorem State.placeOwedReply_mdc (s : State) : (s.placeOwedReply).mdc = s.mdc := by
  unfold State.placeOwedReply; split <;> simp
@[simp] theorem State.placeOwedReply_frb (s : State) : (s.placeOwedReply).frb = s.frb := by
  unfold State.placeOwedReply; split <;> simp
@[simp] theorem State.placeOwedReply_pending (s : State) : (s.placeOwedReply).pending = s.pending := by
  unfold State.placeOwedReply; split <;> simp
@[simp] theorem State.placeOwedReply_free (s : State) : (s.placeOwedReply).free = s.free := by
  unfold State.placeOwedReply; split <;> simp
@[simp] theorem State.placeOwedReply_draw (s : State) : (s.placeOwedReply).draw = s.draw := by
  unfold State.placeOwedReply; split <;> simp
/-! ### changeBanks -/

@[simp] theorem State.changeBanks_wmt (s : State) (b : Banks) : (s.changeBanks b).wmt = s.wmt := by
  unfold State.changeBanks; dsimp only; split <;> simp
@[simp] theorem State.changeBanks_csu (s : State) (b : Banks) : (s.changeBanks b).csu = s.csu := by
  unfold State.changeBanks; dsimp only; split <;> simp
@[simp] theorem State.changeBanks_glu (s : State) (b : Banks) : (s.changeBanks b).glu = s.glu := by
  unfold State.changeBanks; dsimp only; split <;> simp
@[simp] theorem State.changeBanks_pvt (s : State) (b : Banks) : (s.changeBanks b).pvt = s.pvt := by
  unfold State.changeBanks; dsimp only; split <;> simp
@[simp] theorem State.changeBanks_vir (s : State) (b : Banks) : (s.changeBanks b).vir = s.vir := by
  unfold State.changeBanks; dsimp only; split <;> simp
@[simp] theorem State.changeBanks_hal (s : State) (b : Banks) : (s.changeBanks b).hal = s.hal := by
  unfold State.changeBanks; dsimp only; split <;> simp
@[simp] theorem State.changeBanks_hpc (s : State) (b : Banks) : (s.changeBanks b).hpc = s.hpc := by
  unfold State.changeBanks; dsimp only; split <;> simp
@[simp] theorem State.changeBanks_cpr (s : State) (b : Banks) : (s.changeBanks b).cpr = s.cpr := by
  unfold State.changeBanks; dsimp only; split <;> simp
@[simp] theorem State.changeBanks_pad (s : State) (b : Banks) : (s.changeBanks b).pad = s.pad := by
  unfold State.changeBanks; dsimp only; split <;> simp
@[simp] theorem State.changeBanks_mdc (s : State) (b : Banks) : (s.changeBanks b).mdc = s.mdc := by
  unfold State.changeBanks; dsimp only; split <;> simp
@[simp] theorem State.changeBanks_pending (s : State) (b : Banks) : (s.changeBanks b).pending = s.pending := by
  unfold State.changeBanks; dsimp only; split <;> simp
@[simp] theorem State.changeBanks_free (s : State) (b : Banks) : (s.changeBanks b).free = s.free := by
  unfold State.changeBanks; dsimp only; split <;> simp
@[simp] theorem State.changeBanks_draw (s : State) (b : Banks) : (s.changeBanks b).draw = s.draw := by
  unfold State.changeBanks; dsimp only; split <;> simp
@[simp] theorem State.changeBanks_frb (s : State) (b : Banks) : (s.changeBanks b).frb = { s.frb with banks := b } := by
  unfold State.changeBanks; dsimp only; split <;> simp

/-! ### writeRecord -/

@[simp] theorem State.writeRecord_wmt (s : State) (r : Report) : (s.writeRecord r).wmt = s.wmt := by
  simp [State.writeRecord]
@[simp] theorem State.writeRecord_csu (s : State) (r : Report) : (s.writeRecord r).csu = s.csu := by
  simp [State.writeRecord]
@[simp] theorem State.writeRecord_glu (s : State) (r : Report) : (s.writeRecord r).glu = s.glu := by
  simp [State.writeRecord]
@[simp] theorem State.writeRecord_pvt (s : State) (r : Report) : (s.writeRecord r).pvt = s.pvt := by
  simp [State.writeRecord]
@[simp] theorem State.writeRecord_vir (s : State) (r : Report) : (s.writeRecord r).vir = s.vir := by
  simp [State.writeRecord]
@[simp] theorem State.writeRecord_hal (s : State) (r : Report) : (s.writeRecord r).hal = s.hal := by
  simp [State.writeRecord]
@[simp] theorem State.writeRecord_hpc (s : State) (r : Report) : (s.writeRecord r).hpc = s.hpc := by
  simp [State.writeRecord]
@[simp] theorem State.writeRecord_cpr (s : State) (r : Report) : (s.writeRecord r).cpr = s.cpr := by
  simp [State.writeRecord]
@[simp] theorem State.writeRecord_pad (s : State) (r : Report) : (s.writeRecord r).pad = s.pad := by
  simp [State.writeRecord]
@[simp] theorem State.writeRecord_mdc (s : State) (r : Report) : (s.writeRecord r).mdc = s.mdc := by
  simp [State.writeRecord]
@[simp] theorem State.writeRecord_pending (s : State) (r : Report) : (s.writeRecord r).pending = s.pending := by
  simp [State.writeRecord]
@[simp] theorem State.writeRecord_free (s : State) (r : Report) : (s.writeRecord r).free = s.free := by
  simp [State.writeRecord]
@[simp] theorem State.writeRecord_draw (s : State) (r : Report) : (s.writeRecord r).draw = s.draw := by
  simp [State.writeRecord]
/-- A stored report changes its bank by the overwrite rule and, when severe, sets fault-response-active (R200, R201). -/
theorem State.storeReport_frb (s : State) (r : Report) :
    (s.storeReport r).frb =
      { banks := s.frb.banks.store r.bank (s.complete r)
        responseActive := s.frb.responseActive || r.severity == .severe } := by
  unfold State.storeReport
  cases r.severity <;> simp [State.writeRecord, State.setResponse]

/-! ### storeReport -/

@[simp] theorem State.storeReport_wmt (s : State) (r : Report) : (s.storeReport r).wmt = s.wmt := by
  unfold State.storeReport; split <;> simp
@[simp] theorem State.storeReport_csu (s : State) (r : Report) : (s.storeReport r).csu = s.csu := by
  unfold State.storeReport; split <;> simp
@[simp] theorem State.storeReport_glu (s : State) (r : Report) : (s.storeReport r).glu = s.glu := by
  unfold State.storeReport; split <;> simp
@[simp] theorem State.storeReport_pvt (s : State) (r : Report) : (s.storeReport r).pvt = s.pvt := by
  unfold State.storeReport; split <;> simp
@[simp] theorem State.storeReport_vir (s : State) (r : Report) : (s.storeReport r).vir = s.vir := by
  unfold State.storeReport; split <;> simp
@[simp] theorem State.storeReport_hal (s : State) (r : Report) : (s.storeReport r).hal = s.hal := by
  unfold State.storeReport; split <;> simp
@[simp] theorem State.storeReport_hpc (s : State) (r : Report) : (s.storeReport r).hpc = s.hpc := by
  unfold State.storeReport; split <;> simp
@[simp] theorem State.storeReport_cpr (s : State) (r : Report) : (s.storeReport r).cpr = s.cpr := by
  unfold State.storeReport; split <;> simp
@[simp] theorem State.storeReport_pad (s : State) (r : Report) : (s.storeReport r).pad = s.pad := by
  unfold State.storeReport; split <;> simp
@[simp] theorem State.storeReport_mdc (s : State) (r : Report) : (s.storeReport r).mdc = s.mdc := by
  unfold State.storeReport; split <;> simp
@[simp] theorem State.storeReport_pending (s : State) (r : Report) : (s.storeReport r).pending = s.pending := by
  unfold State.storeReport; split <;> simp
@[simp] theorem State.storeReport_free (s : State) (r : Report) : (s.storeReport r).free = s.free := by
  unfold State.storeReport; split <;> simp
@[simp] theorem State.storeReport_draw (s : State) (r : Report) : (s.storeReport r).draw = s.draw := by
  unfold State.storeReport; split <;> simp
/-! ### expectedCheck -/

@[simp] theorem State.expectedCheck_wmt (s : State) : (s.expectedCheck).wmt = s.wmt := by
  unfold State.expectedCheck; split <;> simp
@[simp] theorem State.expectedCheck_csu (s : State) : (s.expectedCheck).csu = s.csu := by
  unfold State.expectedCheck; split <;> simp
@[simp] theorem State.expectedCheck_glu (s : State) : (s.expectedCheck).glu = s.glu := by
  unfold State.expectedCheck; split <;> simp
@[simp] theorem State.expectedCheck_vir (s : State) : (s.expectedCheck).vir = s.vir := by
  unfold State.expectedCheck; split <;> simp
@[simp] theorem State.expectedCheck_hal (s : State) : (s.expectedCheck).hal = s.hal := by
  unfold State.expectedCheck; split <;> simp
@[simp] theorem State.expectedCheck_hpc (s : State) : (s.expectedCheck).hpc = s.hpc := by
  unfold State.expectedCheck; split <;> simp
@[simp] theorem State.expectedCheck_cpr (s : State) : (s.expectedCheck).cpr = s.cpr := by
  unfold State.expectedCheck; split <;> simp
@[simp] theorem State.expectedCheck_pad (s : State) : (s.expectedCheck).pad = s.pad := by
  unfold State.expectedCheck; split <;> simp
@[simp] theorem State.expectedCheck_mdc (s : State) : (s.expectedCheck).mdc = s.mdc := by
  unfold State.expectedCheck; split <;> simp
@[simp] theorem State.expectedCheck_pending (s : State) : (s.expectedCheck).pending = s.pending := by
  unfold State.expectedCheck; split <;> simp
@[simp] theorem State.expectedCheck_free (s : State) : (s.expectedCheck).free = s.free := by
  unfold State.expectedCheck; split <;> simp
@[simp] theorem State.expectedCheck_draw (s : State) : (s.expectedCheck).draw = s.draw := by
  unfold State.expectedCheck; split <;> simp
/-! ### endWindow -/

@[simp] theorem State.endWindow_wmt (s : State) : (s.endWindow).wmt = s.wmt := by
  unfold State.endWindow; split <;> [split; rfl] <;> simp
@[simp] theorem State.endWindow_glu (s : State) : (s.endWindow).glu = s.glu := by
  unfold State.endWindow; split <;> [split; rfl] <;> simp
@[simp] theorem State.endWindow_vir (s : State) : (s.endWindow).vir = s.vir := by
  unfold State.endWindow; split <;> [split; rfl] <;> simp
@[simp] theorem State.endWindow_hpc (s : State) : (s.endWindow).hpc = s.hpc := by
  unfold State.endWindow; split <;> [split; rfl] <;> simp
@[simp] theorem State.endWindow_cpr (s : State) : (s.endWindow).cpr = s.cpr := by
  unfold State.endWindow; split <;> [split; rfl] <;> simp
@[simp] theorem State.endWindow_pad (s : State) : (s.endWindow).pad = s.pad := by
  unfold State.endWindow; split <;> [split; rfl] <;> simp
@[simp] theorem State.endWindow_pending (s : State) : (s.endWindow).pending = s.pending := by
  unfold State.endWindow; split <;> [split; rfl] <;> simp
@[simp] theorem State.endWindow_free (s : State) : (s.endWindow).free = s.free := by
  unfold State.endWindow; split <;> [split; rfl] <;> simp
@[simp] theorem State.endWindow_draw (s : State) : (s.endWindow).draw = s.draw := by
  unfold State.endWindow; split <;> [split; rfl] <;> simp
/-- The end of the window leaves the node in CONFIG. -/
@[simp] theorem State.endWindow_mode (s : State) : s.endWindow.mdc.mode = s.mdc.mode := by
  unfold State.endWindow; split <;> [split; rfl] <;> simp [State.freeze, State.reconcile]

/-- The end of the window leaves the levels. -/
@[simp] theorem State.endWindow_nodeLevel (s : State) : s.endWindow.csu.nodeLevel = s.csu.nodeLevel := by
  unfold State.endWindow; split <;> [split; rfl] <;> simp [State.reconcile]

/-- In CONFIG the end of the window freezes the set (R188). -/
theorem State.endWindow_frozen (s : State) (h : s.endWindow.mdc.mode = .config) : s.endWindow.mdc.frozen = true := by
  rw [State.endWindow_mode] at h
  unfold State.endWindow
  rw [if_pos h]
  split <;> simp [State.freeze]

/-! ### safeBlocks, startSafe -/

@[simp] theorem State.safeBlocks_csu (s : State) (m : Mode) : (s.safeBlocks m).csu = s.csu := by
  unfold State.safeBlocks; cases m <;> dsimp only <;> try split
  all_goals rfl
@[simp] theorem State.safeBlocks_pvt (s : State) (m : Mode) : (s.safeBlocks m).pvt = s.pvt := by
  unfold State.safeBlocks; cases m <;> dsimp only <;> try split
  all_goals rfl
@[simp] theorem State.safeBlocks_vir (s : State) (m : Mode) : (s.safeBlocks m).vir = s.vir := by
  unfold State.safeBlocks; cases m <;> dsimp only <;> try split
  all_goals rfl
@[simp] theorem State.safeBlocks_hal (s : State) (m : Mode) : (s.safeBlocks m).hal = s.hal := by
  unfold State.safeBlocks; cases m <;> dsimp only <;> try split
  all_goals rfl
@[simp] theorem State.safeBlocks_hpc (s : State) (m : Mode) : (s.safeBlocks m).hpc = s.hpc := by
  unfold State.safeBlocks; cases m <;> dsimp only <;> try split
  all_goals rfl
@[simp] theorem State.safeBlocks_mdc (s : State) (m : Mode) : (s.safeBlocks m).mdc = s.mdc := by
  unfold State.safeBlocks; cases m <;> dsimp only <;> try split
  all_goals rfl
@[simp] theorem State.safeBlocks_frb (s : State) (m : Mode) : (s.safeBlocks m).frb = s.frb := by
  unfold State.safeBlocks; cases m <;> dsimp only <;> try split
  all_goals rfl
@[simp] theorem State.safeBlocks_pending (s : State) (m : Mode) : (s.safeBlocks m).pending = s.pending := by
  unfold State.safeBlocks; cases m <;> dsimp only <;> try split
  all_goals rfl
@[simp] theorem State.safeBlocks_free (s : State) (m : Mode) : (s.safeBlocks m).free = s.free := by
  unfold State.safeBlocks; cases m <;> dsimp only <;> try split
  all_goals rfl
@[simp] theorem State.safeBlocks_draw (s : State) (m : Mode) : (s.safeBlocks m).draw = s.draw := by
  unfold State.safeBlocks; cases m <;> dsimp only <;> try split
  all_goals rfl
@[simp] theorem State.startSafe_csu (s : State) (h : Bool) (m : Mode) : (s.startSafe h m).csu = s.csu := by
  simp [State.startSafe]
@[simp] theorem State.startSafe_pvt (s : State) (h : Bool) (m : Mode) : (s.startSafe h m).pvt = s.pvt := by
  simp [State.startSafe]
@[simp] theorem State.startSafe_vir (s : State) (h : Bool) (m : Mode) : (s.startSafe h m).vir = s.vir := by
  simp [State.startSafe]
@[simp] theorem State.startSafe_frb (s : State) (h : Bool) (m : Mode) : (s.startSafe h m).frb = s.frb := by
  simp [State.startSafe]
@[simp] theorem State.startSafe_pending (s : State) (h : Bool) (m : Mode) : (s.startSafe h m).pending = s.pending := by
  simp [State.startSafe]
@[simp] theorem State.startSafe_free (s : State) (h : Bool) (m : Mode) : (s.startSafe h m).free = s.free := by
  simp [State.startSafe]
@[simp] theorem State.startSafe_draw (s : State) (h : Bool) (m : Mode) : (s.startSafe h m).draw = s.draw := by
  simp [State.startSafe]

/-- Mode and times at an entry to SAFE (R196). -/
@[simp] theorem State.startSafe_mdc (s : State) (h : Bool) (m : Mode) : (s.startSafe h m).mdc = (s.safeMode h).mdc := by
  simp [State.startSafe]

@[simp] theorem State.startSafe_hpc (s : State) (h : Bool) (m : Mode) : (s.startSafe h m).hpc = (s.safeMode h).hpc := by
  simp [State.startSafe]

end Sys2Proof.Machine
end

