-- ==== Sys2Proof/Laws/Banks.lean ====
section
/-! SUPPORT. The fault banks: reading a bank after a write, the records held, and what the overwrite rule leaves (R198 to
R200). -/

namespace Sys2Proof.Machine

/-- A bank written reads as written. -/
@[simp] theorem Banks.get_put_same (b : Banks) (k : Bank) (r : Option FaultRecord) : (b.put k r).get k = r := by
  cases k <;> rfl

/-- A write to one bank leaves every other. -/
theorem Banks.get_put_other (b : Banks) {k j : Bank} (r : Option FaultRecord) (h : j ≠ k) :
    (b.put k r).get j = b.get j := by
  cases k <;> cases j <;> first | rfl | exact absurd rfl h

/-- A record is held when some bank reads as it. -/
theorem Banks.mem_records (b : Banks) (r : FaultRecord) : r ∈ b.records ↔ ∃ k, b.get k = some r := by
  simp only [Banks.records, List.mem_filterMap, id, List.mem_cons, List.not_mem_nil, or_false]
  constructor
  · rintro ⟨x, hx, rfl⟩
    rcases hx with h | h | h | h | h | h
    · exact ⟨.sense, h.symm⟩
    · exact ⟨.mass, h.symm⟩
    · exact ⟨.link, h.symm⟩
    · exact ⟨.valve, h.symm⟩
    · exact ⟨.spring, h.symm⟩
    · exact ⟨.node, h.symm⟩
  · rintro ⟨k, hk⟩
    exact ⟨_, by cases k <;> simp [Banks.get] at hk <;> simp [hk], rfl⟩

/-- A severe record is held when some bank reads as one. -/
theorem Banks.anySevere_iff (b : Banks) : b.anySevere = true ↔ ∃ k r, b.get k = some r ∧ r.severity = .severe := by
  simp only [Banks.anySevere, List.any_eq_true, Banks.mem_records, beq_iff_eq]
  constructor
  · rintro ⟨r, ⟨k, hk⟩, hr⟩; exact ⟨k, r, hk, hr⟩
  · rintro ⟨k, r, hk, hr⟩; exact ⟨r, ⟨k, hk⟩, hr⟩

/-- The overwrite rule keeps one of the two records, but for its overflow mark (R200). -/
theorem overwrite_cases (held : Option FaultRecord) (new : FaultRecord) :
    (∃ o, overwrite held new = { new with overflow := o }) ∨ (∃ h, held = some h ∧ overwrite held new = { h with overflow := true }) := by
  unfold overwrite
  split
  · exact .inl ⟨false, rfl⟩
  · rename_i h
    split
    · exact .inr ⟨h, rfl, rfl⟩
    · split
      · exact .inl ⟨true, rfl⟩
      · exact .inr ⟨h, rfl, rfl⟩

/-- A held severe record stands, marked as overflowed (R200). -/
theorem overwrite_severe (h new : FaultRecord) (hs : h.severity = .severe) :
    overwrite (some h) new = { h with overflow := true } := by
  simp [overwrite, hs]

/-- A report changes the bank it names alone. -/
theorem Banks.get_store (b : Banks) (k j : Bank) (new : FaultRecord) :
    (b.store k new).get j = if j = k then some (overwrite (b.get k) new) else b.get j := by
  unfold Banks.store
  split
  · rename_i h; subst h; exact Banks.get_put_same _ _ _
  · rename_i h; exact Banks.get_put_other _ _ h

end Sys2Proof.Machine
end

