-- ==== Sys2Proof/Laws/Moves.lean ====
section
/-! SUPPORT. What a command can do to the state, said once: every command is a run of elementary moves. An invariant is
proved by showing that each move keeps it (`Moves.keeps`), without unfolding any command. The guard of a move says when
it is made. -/

namespace Sys2Proof.Machine

/-! ## Elementary moves -/

/-- A Declaration's content as the table takes it: what R61 leaves of level and load. -/
def Declared.capped (d : Declared) : Prop := d.level ≤ 4 ∧ d.load ≤ 2500

/-- The SGI changed in its bus state, counts and times, with the list at most shortened, and empty on the way to BUS
OFF. -/
def Sgi.shortened (g h : Sgi) : Prop :=
  h.list.Sublist g.list ∧ h.restartOwed = g.restartOwed ∧ (h.bus = .off → g.bus = .off ∨ h.list = [])

/-- One elementary change that a command c makes to the state. -/
inductive Move (c : Instr) : State → State → Prop
  /-- The choices left open by the spec, taken or drawn. -/
  | choices (s : State) (f : Free) (d : Nat) : Move c s { s with free := f, draw := d }
  /-- The blocks with no invariant across blocks. -/
  | wmt (s : State) (w : Wmt) (hs : w.sampling = s.wmt.sampling) (hp : w.slow = s.wmt.slow)
      (hk : s.wmt.ok → w.ok) : Move c s { s with wmt := w }
  | glu (s : State) (g : Glu) (h : g.reading = s.glu.reading) : Move c s { s with glu := g }
  | vir (s : State) (v : Vir) : Move c s { s with vir := v }
  | hal (s : State) (h : Hal) : Move c s { s with hal := h }
  /-- The table: an accepted Declaration and its capacity, an accepted Alert, marks of an entry, and the two marks of the table. -/
  | pvtTake (s : State) (n : Nat) (d : Declared) (h1 : 1 ≤ n) (h8 : n ≤ 8) (own : n ≠ s.number) (hd : d.capped) :
      Move c s { s with pvt := s.pvt.take n d }
  | pvtCapacity (s : State) (n k : Nat) : Move c s { s with pvt := s.pvt.takeCapacity n k }
  | pvtAlert (s : State) (n : Nat) (a : LastAlert) (h : a.level ≤ 4) : Move c s { s with pvt := s.pvt.takeAlert n a }
  | pvtDrop (s : State) (n : Nat) : Move c s { s with pvt := s.pvt.dropAlert n }
  | pvtFresh (s : State) (n : Nat) (f : Freshness) : Move c s { s with pvt := s.pvt.setFreshness n f }
  | pvtMarks (s : State) (t : Option Nat) (e : Bool) :
      Move c s { s with pvt := { s.pvt with clashTime := t, expectedReported := e } }
  /-- The CSU without its levels; then the levels. -/
  | csu (s : State) (u : Csu) (ho : u.ownLevel = s.csu.ownLevel) (hn : u.nodeLevel = s.csu.nodeLevel) :
      Move c s { s with csu := u }
  | levelsOwn (s : State) (n : Nat) :
      Move c s { s with csu := { s.csu with ownLevel := min 4 (s.csu.ownLevel + n)
                                            nodeLevel := s.mergedLevel (min 4 (s.csu.ownLevel + n)) } }
  | levelsMerged (s : State) :
      Move c s { s with csu := { s.csu with nodeLevel := s.mergedLevel s.csu.ownLevel } }
  | levelsAlert (s : State) : Move c s { s with csu := { s.csu with nodeLevel := 4 } }
  | levelsFour (s : State) : Move c s { s with csu := { s.csu with ownLevel := 4, nodeLevel := 4 } }
  /-- The HPC within its phase, with the records of its phase neither made nor ended. -/
  | hpc (s : State) (h : Hpc) (hp : h.phase = s.hpc.phase) (hr : h.release.isSome = s.hpc.release.isSome)
      (hh : h.handover.isSome = s.hpc.handover.isSome) (hq : h.request = s.hpc.request)
      (hm : h.resume = s.hpc.resume) : Move c s { s with hpc := h }
  /-- The CPR within its valve mode. -/
  | cpr (s : State) (k : Cpr) (hr : k.regulating = s.cpr.regulating) (ht : k.target = s.cpr.target)
      (hv : k.regulating = true → s.cpr.valves ≠ .passThrough → k.valves ≠ .passThrough)
      (hp : k.regulating = false → k.valves = s.cpr.valves ∧ k.operation = s.cpr.operation) :
      Move c s { s with cpr := k }
  | target (s : State) (v : Nat) (anew : Bool) : Move c s (s.handTarget v anew)
  /-- The PAD with line and requests as they stand; then the requests, with the line judged. -/
  | pad (s : State) (p : Pad) (ha : p.asserted = s.pad.asserted) (hh : p.hpcRequest = s.pad.hpcRequest)
      (hm : p.mdcRequest = s.pad.mdcRequest) : Move c s { s with pad := p }
  | requests (s : State) (b : Bool) : Move c s (s.setRequests b).judgeLine
  | request (s : State) (b : Bool) : Move c s (s.handRequest b).judgeLine
  | seenStationary (s : State) (h : s.mdc.mode = .safe) : Move c s s.seenStationary.judgeLine
  /-- The SGI: frames placed, and everything that places none. -/
  | declaration (s : State) : Move c s s.placeDeclaration
  | alert (s : State) (a : AlertCause) (l : Nat) (x : Int) : Move c s (s.placeAlert a l x)
  | rouse (s : State) : Move c s s.placeRouse
  | owedReply (s : State) : Move c s s.placeOwedReply
  | reply (s : State) (r : ReplyCode) (k a : Byte) (p : List Byte) (h : s.sgi.replies < 3) :
      Move c s (s.placeReply r k a p)
  | sgi (s : State) (g : Sgi) (h : s.sgi.shortened g) (hc : s.sgi.countsOk → g.countsOk) : Move c s { s with sgi := g }
  | owed (s : State) (a : Byte) : Move c s { s with sgi := { s.sgi with restartOwed := some a } }
  /-- The FRB: a report stored, a bank cleared, all banks cleared. -/
  | record (s : State) (r : Report) : Move c s (s.storeReport r)
  | clearOne (s : State) (k : Bank) (h : clears c = true) :
      Move c s { s with frb := { s.frb with banks := s.frb.banks.put k none } }
  | clearEvery (s : State) (h : clears c = true) :
      Move c s { s with frb := { banks := Banks.empty, responseActive := false } }
  /-- The MDC within its mode; the settings of the window; the restart counter. -/
  | mdc (s : State) (m : Mdc) (hm : m.mode = s.mdc.mode) (hs : m.straps = s.mdc.straps) (hc : m.settings = s.mdc.settings)
      (hw : m.written = s.mdc.written) (hf : m.frozen = s.mdc.frozen) (hr : m.restartCounter = s.mdc.restartCounter) :
      Move c s { s with mdc := m }
  | settings (s : State) (g : Nat) (b2 b3 b4 b5 b6 b7 : Byte) (hm : s.windowOpen = true) :
      Move c s (s.takeSettings g b2 b3 b4 b5 b6 b7)
  | reconcile (s : State) (hm : s.mdc.mode = .config) : Move c s s.reconcile
  | freeze (s : State) (hm : s.mdc.mode = .config) (hc : s.mdc.settings.reconciled = s.mdc.settings) : Move c s s.freeze
  | counted (s : State) (h : s.mdc.restartCounter < s.mdc.settings.restartLimit) (hi : s.mdc.mode ≠ .init)
      (hc : s.mdc.mode = .config → s.mdc.frozen = true) : Move c s s.countUp
  | relieved (s : State) (hm : s.mdc.mode = .run) :
      Move c s { s with mdc := { s.mdc with restartCounter := s.mdc.restartCounter - 1, reliefTime := 0 } }
  /-- The phases entered in RUN. -/
  | capture (s : State) (h : s.inPhase .released = true) : Move c s s.captureStart
  | holding (s : State) (b : Nat) (anew : Bool) (h : s.inHold = true) : Move c s (s.startHolding b anew)
  | securing (s : State) (h : s.inHold = true) : Move c s s.startSecuring.judgeLine
  | secured (s : State) (h : s.inHold = true) : Move c s s.startSecured
  | releasing (s : State) (h : s.inHold = true) : Move c s s.startReleasing.judgeLine
  | released (s : State) (h : s.inHold = true) : Move c s s.releasedStart
  /-- The modes entered. -/
  | power (s : State) (num0 num1 num2 spring pol key : Bool) (h : c = .powerOn num0 num1 num2 spring pol key) :
      Move c s (s.poweredOn num0 num1 num2 spring pol key)
  | config (s : State) (h : s.mdc.mode = .init) : Move c s (s.startConfig.setRequests false).judgeLine
  | run (s : State) (h : s.mdc.mode = .config) (hf : s.mdc.frozen = true) : Move c s s.startFirstRun
  | resumed (s : State) (r : Resume) (h : s.mdc.mode = .restart) (hr : s.hpc.resume = some r) :
      Move c s (s.restarted.startResumed r)
  | afresh (s : State) (h : s.mdc.mode = .restart) : Move c s s.restarted.startAfresh
  | watch (s : State) (h : s.inPhase .secured = true) : Move c s s.enterWatch
  | wake (s : State) (parked : Bool) (h : s.mdc.mode = .watch) : Move c s (s.wakeTarget parked).judgeLine
  | restart (s : State) (resume : Option Resume) (a : Bool) (hi : s.mdc.mode ≠ .init) (hr : s.mdc.mode ≠ .restart)
      (hs : s.mdc.mode = .safe → c = .keyLineEdge) (hf : s.mdc.mode = .config → s.mdc.frozen = true)
      (hl : ∀ r, resume = some r → r.level = s.csu.nodeLevel) : Move c s (s.startRestart resume a).judgeLine
  | safe (s : State) (hold : Bool) (h : s.mdc.mode ≠ .safe) (hf : s.mdc.mode = .config → s.mdc.frozen = true) :
      Move c s (s.startSafe hold s.mdc.mode).judgeLine

/-- A run of moves. -/
inductive Moves (c : Instr) : State → State → Prop
  | refl (s : State) : Moves c s s
  | tail {s t u : State} (h : Moves c s t) (m : Move c t u) : Moves c s u

end Sys2Proof.Machine
end

