-- ==== Sys2Proof/Laws/Entries.lean ====
section
/-! SUPPORT. The shared operations of the model as runs of moves, up to the entries of modes and phases. -/

namespace Sys2Proof.Machine

variable {c : Instr}

/-! ## Runs -/

theorem Moves.one {s t : State} (m : Move c s t) : Moves c s t := .tail (.refl s) m

theorem Moves.trans {s t u : State} (h : Moves c s t) (k : Moves c t u) : Moves c s u := by
  induction k with
  | refl => exact h
  | tail _ m ih => exact ih.tail m

/-- An invariant that every move keeps is kept by a run. -/
theorem Moves.keeps {P : State → Prop} (hP : ∀ s t, Move c s t → P s → P t) {s t : State} (h : Moves c s t) (hs : P s) :
    P t := by
  induction h with
  | refl => exact hs
  | tail _ m ih => exact hP _ _ m ih

/-- The settings after reconciliation need none (R188). -/
theorem Settings.reconciled_again (k : Settings) : k.reconciled.reconciled = k.reconciled := by
  unfold Settings.reconciled
  split
  · dsimp only
    split
    · congr 1 <;> omega
    · rfl
  · rfl

/-! ## The end of the window -/

theorem moves_formMargin (s : State) : Moves c s s.formMargin := .one (.hal s _)

theorem moves_expectedCheck (s : State) : Moves c s s.expectedCheck := by
  unfold State.expectedCheck
  split
  · exact (Moves.one (.pvtMarks s s.pvt.clashTime true)).tail (.record _ _)
  · exact .refl s

theorem moves_endWindow (s : State) : Moves c s s.endWindow := by
  unfold State.endWindow
  split
  case isFalse => exact .refl s
  case isTrue h =>
    have r : Moves c s s.reconcile.formMargin := (Moves.one (.reconcile s h)).trans (moves_formMargin _)
    split
    · refine (r.trans (moves_expectedCheck _)).tail (.freeze _ ?_ ?_)
      · simpa [State.reconcile] using h
      · simp [State.reconcile, Settings.reconciled_again]
    · refine (r.tail (.freeze _ ?_ ?_)).trans (moves_expectedCheck _)
      · simpa [State.reconcile] using h
      · simp [State.reconcile, Settings.reconciled_again]

/-! ## SAFE -/

/-- A line judged at a mode entry is the judged line, with at most a stored report. -/
theorem moves_lineAtEntry {s u : State} (h : Moves c u s.judgeLine) : Moves c u s.lineAtEntry := by
  unfold State.lineAtEntry
  split
  · exact h.tail (.record _ _)
  · exact h

theorem lineAtEntry_mode (s : State) : s.lineAtEntry.mdc = s.mdc := by
  unfold State.lineAtEntry
  split <;> simp

theorem moves_safeFrames (s : State) (left : Mode) : Moves c s (s.safeFrames left) := by
  unfold State.safeFrames
  refine ((Moves.tail ?_ (.declaration _)).tail (.alert _ _ _ _)).tail (.owedReply _)
  split
  · exact .one (.rouse s)
  · exact .refl s

theorem moves_enterSafe (s : State) : Moves c s s.enterSafe := by
  unfold State.enterSafe
  split
  · exact .refl s
  · rename_i h
    refine (moves_lineAtEntry ?_).trans (moves_safeFrames _ _)
    refine (moves_endWindow s).tail ?_
    have m : Move c s.endWindow _ := .safe s.endWindow s.holdAtSafe (by simpa using h) s.endWindow_frozen
    simpa using m

theorem moves_safeCause (s : State) : Moves c s s.safeCause := by
  unfold State.safeCause
  split
  · exact .one (.mdc s _ rfl rfl rfl rfl rfl rfl)
  · exact moves_enterSafe s

theorem moves_answerCause (s : State) (b : Bool) : Moves c s (s.answerCause b) := by
  unfold State.answerCause
  split
  · exact moves_safeCause s
  · exact .refl s

theorem moves_reportBasic (s : State) (r : Report) : Moves c s (s.reportBasic r) :=
  (Moves.one (.record s r)).trans (moves_answerCause _ _)

theorem moves_reportAndSafe (s : State) (r : Report) : Moves c s (s.reportAndSafe r) := by
  unfold State.reportAndSafe
  split
  · exact (moves_reportBasic s r).trans (moves_enterSafe _)
  · exact (moves_enterSafe s).trans (moves_reportBasic _ r)

/-! ## RESTART -/

theorem resumeRecord_level (s : State) (r : Resume) (h : s.resumeRecord = some r) : r.level = s.csu.nodeLevel := by
  unfold State.resumeRecord at h
  split at h <;> simp_all
  rw [← h]

theorem moves_restartNow (s : State) (hi : s.mdc.mode ≠ .init) (hr : s.mdc.mode ≠ .restart)
    (hs : s.mdc.mode = .safe → c = .keyLineEdge) (hf : s.mdc.mode = .config → s.mdc.frozen = true) :
    Moves c s s.restartNow := by
  have m : Moves c s (s.startRestart s.resumeRecord s.pad.asserted).judgeLine :=
    .one (.restart s _ _ hi hr hs hf (resumeRecord_level s))
  unfold State.restartNow
  dsimp only
  split
  · exact (moves_lineAtEntry m).trans (moves_enterSafe _)
  · exact moves_lineAtEntry m

theorem moves_enterRestart (s : State) (hi : s.mdc.mode ≠ .init) (hr : s.mdc.mode ≠ .restart)
    (hs : s.mdc.mode = .safe → c = .keyLineEdge) : Moves c s s.enterRestart :=
  (moves_endWindow s).trans (moves_restartNow _ (by simpa using hi) (by simpa using hr) (by simpa using hs)
    s.endWindow_frozen)

/-- The end of the window leaves the restart counter and its limit. -/
theorem endWindow_counter (s : State) :
    s.endWindow.mdc.restartCounter = s.mdc.restartCounter
      ∧ s.endWindow.mdc.settings.restartLimit = s.mdc.settings.restartLimit := by
  have h : s.mdc.settings.reconciled.restartLimit = s.mdc.settings.restartLimit := by
    unfold Settings.reconciled; split <;> rfl
  unfold State.endWindow
  split
  · split <;> simp [State.freeze, State.reconcile, h]
  · exact ⟨rfl, rfl⟩

theorem moves_countedCause (s : State) : Moves c s s.countedCause := by
  unfold State.countedCause
  split
  · exact .refl s
  · rename_i h
    simp only [Bool.or_eq_true, decide_eq_true_eq, not_or] at h
    split
    · rename_i hc
      split
      · rename_i hr
        exact (Moves.one (.counted s hc h.1 (by simp [hr]))).tail (.mdc _ _ rfl rfl rfl rfl rfl rfl)
      · rename_i hr
        have hl := endWindow_counter s
        refine ((moves_endWindow s).tail (.counted _ (by rw [hl.1, hl.2]; exact hc) (by simpa using h.1)
          s.endWindow_frozen)).trans (moves_restartNow _ ?_ ?_ ?_ ?_)
        · simpa [State.countUp] using h.1
        · simpa [State.countUp] using hr
        · intro k; exact absurd (by simpa [State.countUp] using k) h.2
        · intro k; exact s.endWindow_frozen (by simpa [State.countUp] using k)
    · exact moves_reportAndSafe s _

/-! ## Deliveries and reports -/

theorem moves_hpc (s : State) (h : Hpc) (hp : h.phase = s.hpc.phase)
    (hr : h.release.isSome = s.hpc.release.isSome) (hh : h.handover.isSome = s.hpc.handover.isSome)
    (hq : h.request = s.hpc.request) (hm : h.resume = s.hpc.resume) : Moves c s { s with hpc := h } :=
  .one (.hpc s h hp hr hh hq hm)

theorem moves_hpcTarget (s : State) (h : Hpc) (hp : h.phase = s.hpc.phase)
    (hr : h.release.isSome = s.hpc.release.isSome) (hh : h.handover.isSome = s.hpc.handover.isSome)
    (hq : h.request = s.hpc.request) (hm : h.resume = s.hpc.resume) (v : Nat) (anew : Bool) :
    Moves c s (({ s with hpc := h } : State).handTarget v anew) := (Moves.one (.hpc s h hp hr hh hq hm)).tail (.target _ v anew)

theorem moves_ratchet (s : State) (p : Nat) : Moves c s (s.ratchet p) := by
  unfold State.ratchet
  split
  · apply moves_hpcTarget <;> rfl
  · exact .refl s

theorem moves_newGoal (s : State) (p : Option Nat) : Moves c s (s.newGoal p) := by
  unfold State.newGoal
  split
  · rename_i r p hr
    exact .one (.hpc s _ rfl (by simp [hr]) rfl rfl rfl)
  · exact .refl s

theorem moves_raiseRetained (s : State) (p : Nat) : Moves c s (s.raiseRetained p) := by
  unfold State.raiseRetained
  split
  · split
    · apply moves_hpcTarget <;> rfl
    · exact .refl s
  · exact .refl s

theorem moves_keepDelivery (s : State) (r : HalResult) : Moves c s (s.keepDelivery r) :=
  (Moves.one (.hal s { s.hal with result := r })).tail
    (.hpc _ { s.hpc with last := deliveryOf r
                         insufficiencyTime := if r.insufficient then s.hpc.insufficiencyTime else 0 } rfl rfl rfl rfl rfl)

theorem moves_deliver (s : State) (r : HalResult) : Moves c s (s.deliver r) := by
  have k : Moves c s (s.keepDelivery r) := moves_keepDelivery s r
  unfold State.deliver
  dsimp only
  split
  · exact k.trans (moves_ratchet _ _)
  · exact k.trans (moves_ratchet _ _)
  · exact k.trans (moves_newGoal _ _)
  · exact k.trans (moves_raiseRetained _ _)
  · exact k
  · exact k

theorem moves_laneMismatch (s : State) : Moves c s s.laneMismatch :=
  ((Moves.one (.hal s { s.hal with lanes := .mismatched })).trans (moves_reportBasic _ _)).trans (moves_countedCause _)

theorem moves_setLaneFault (s : State) (f : Option LaneFault) : Moves c s (s.setLaneFault f) := .one (.choices s _ s.draw)

theorem moves_halRecompute (s : State) : Moves c s s.halRecompute := by
  unfold State.halRecompute
  split
  · split
    · exact moves_deliver s _
    · split
      · split
        · exact (moves_setLaneFault s _).trans (moves_deliver _ _)
        · exact (moves_setLaneFault s _).trans (moves_laneMismatch _)
      · exact (moves_setLaneFault s _).trans (moves_deliver _ _)
  · exact .refl s

theorem moves_handCompromise (s : State) (b : Bool) : Moves c s (s.handCompromise b) := by
  unfold State.handCompromise
  split
  · exact .refl s
  · exact moves_halRecompute s

theorem moves_report (s : State) (r : Report) : Moves c s (s.report r) :=
  ((Moves.one (.record s r)).trans (moves_handCompromise _ _)).trans (moves_answerCause _ _)

theorem moves_reportAll (l : List Report) (s : State) : Moves c s (s.reportAll l) := by
  induction l generalizing s with
  | nil => exact .refl s
  | cons r l ih => exact (moves_report s r).trans (ih _)

/-! ## Grade, mass and levels -/

theorem chooseGrade_reading (g : Glu) (l : List PeerEntry) : (g.chooseGrade l).reading = g.reading := by
  unfold Glu.chooseGrade
  dsimp only
  split
  · split <;> rfl
  · rfl

theorem moves_gradeRecompute (s : State) : Moves c s s.gradeRecompute := by
  unfold State.gradeRecompute
  split
  · have m : Moves c s _ := .one (.glu s (s.glu.chooseGrade s.pvt.entries) (chooseGrade_reading _ _))
    dsimp only
    split
    · exact m
    · exact m.trans (moves_halRecompute _)
  · exact .refl s

theorem moves_massRecompute (s : State) : Moves c s s.massRecompute := by
  unfold State.massRecompute
  split
  · have m : Moves c s _ := .one (.glu s { s.glu with mass := massOf s.glu s.mdc.settings s.pvt.entries } rfl)
    dsimp only
    split
    · exact m
    · exact m.trans (moves_halRecompute _)
  · exact .refl s

/-- Levels set: once the levels stand, a change is handed on and declared. -/
theorem moves_setLevels {s u : State} {own node : Nat}
    (h : Moves c u { s with csu := { s.csu with ownLevel := own, nodeLevel := node } }) :
    Moves c u (s.setLevels own node) := by
  unfold State.setLevels
  dsimp only
  split
  · exact h
  · exact (h.trans (moves_halRecompute _)).tail (.declaration _)

theorem moves_levelsFour (s : State) : Moves c s (s.setLevels 4 4) := moves_setLevels (.one (.levelsFour s))

theorem moves_raiseOwn (s : State) (n : Nat) : Moves c s (s.raiseOwn n) := by
  unfold State.raiseOwn
  dsimp only
  split
  · exact .refl s
  · exact moves_setLevels (.one (.levelsOwn s n))

theorem moves_mergeLevel (s : State) : Moves c s s.mergeLevel := by
  unfold State.mergeLevel
  split
  · exact moves_setLevels (.one (.levelsMerged s))
  · exact .refl s

theorem moves_csuAlert (s : State) (a : AlertCause) : Moves c s (s.csuAlert a) := by
  unfold State.csuAlert
  split
  · exact moves_setLevels (.one (.levelsAlert s))
  · exact .refl s

/-! ## Entries of the phases -/

theorem inHold_of_inPhase {s : State} {p : Phase} (h : s.inPhase p = true) (hp : p.isHold = true) : s.inHold = true := by
  simp only [State.inPhase, State.inHold, Bool.and_eq_true, beq_iff_eq] at *
  exact ⟨h.1, by rw [h.2]; exact hp⟩

theorem moves_enterHolding {s u : State} (k : Moves c u s) (b : Nat) (anew : Bool) (h : s.inHold = true) :
    Moves c u (s.enterHolding b anew) := (k.tail (.holding s b anew h)).tail (.declaration _)

theorem moves_handoverFails (s : State) : Moves c s s.handoverFails := by
  unfold State.handoverFails
  split
  · split
    · rename_i h
      simp only [Bool.and_eq_true] at h
      refine moves_enterHolding (by apply moves_hpc <;> rfl) _ _ ?_
      exact inHold_of_inPhase h.1 rfl
    · exact .refl s
  · exact .refl s

theorem moves_confirmTimedOut (s : State) : Moves c s s.confirmTimedOut :=
  (moves_report s _).trans (moves_handoverFails _)

theorem moves_line {s u : State} (h : Moves c u s.judgeLine) : Moves c u s.line := by
  unfold State.line
  split
  · exact h.trans (moves_confirmTimedOut _)
  · exact h

theorem moves_enterSecuring {s u : State} (k : Moves c u s) (h : s.inHold = true) : Moves c u s.enterSecuring := by
  have m : Moves c u s.startSecuring.judgeLine.placeDeclaration := (k.tail (.securing s h)).tail (.declaration _)
  unfold State.enterSecuring
  dsimp only
  split
  · exact m.trans (moves_confirmTimedOut _)
  · exact m

theorem moves_enterSecured {s u : State} (k : Moves c u s) (h : s.inHold = true) : Moves c u s.enterSecured :=
  (k.tail (.secured s h)).tail (.declaration _)

theorem moves_retainService (s : State) (p : Nat) : Moves c s (s.retainService p) := by
  unfold State.retainService
  split
  · rename_i hm
    have m : Moves c s { s with hpc := { s.hpc with retained := some p } } := by
      apply moves_hpc <;> rfl
    dsimp only
    split
    · rename_i hp
      exact moves_enterSecured m (by simp [State.inHold, hm, hp, Phase.isHold])
    · exact m
  · exact .refl s

theorem moves_springInsufficient (s : State) : Moves c s s.springInsufficient :=
  (((Moves.one (.target s _ _)).trans (moves_raiseOwn _ _)).trans (moves_report _ _)).trans (moves_retainService _ _)

theorem moves_abortRelease (s : State) (h : s.inHold = true) : Moves c s s.abortRelease := by
  unfold State.abortRelease
  split
  · exact moves_enterHolding (by apply moves_hpc <;> rfl) _ _ h
  · exact .refl s

theorem moves_trigger {s u : State} (k : Moves c u s) (h : s.inHold = true) : Moves c u s.trigger := by
  unfold State.trigger
  split
  · exact k
  · exact moves_enterSecuring k h

theorem inHold_run {s : State} {p : Phase} (hm : s.mdc.mode = .run) (hp : s.hpc.phase = p) (h : p.isHold = true) :
    s.inHold = true := by simp [State.inHold, hm, hp, h]

theorem moves_hpcNotice (s : State) : Moves c s s.hpcNotice := by
  unfold State.hpcNotice
  split
  · rename_i hm
    split
    · rename_i hp
      split
      · exact (moves_abortRelease s (inHold_run hm hp rfl)).trans (moves_raiseOwn _ _)
      · exact .refl s
    · split
      · exact moves_springInsufficient s
      · exact .refl s
    · split
      · exact moves_springInsufficient s
      · exact .refl s
    · exact .refl s
    · exact .refl s
    · exact .refl s
  · exact .refl s

theorem moves_secureRelease (s : State) (hm : s.mdc.mode = .run) (hp : s.hpc.phase = .releasing) :
    Moves c s s.secureRelease := by
  unfold State.secureRelease
  split
  · rename_i r hr
    refine moves_enterSecuring (by apply moves_hpcTarget <;> rfl) ?_
    exact inHold_run (by simpa using hm) (by simpa using hp) rfl
  · exact moves_enterSecuring (.refl s) (inHold_run hm hp rfl)

end Sys2Proof.Machine
end

