-- ==== Sys2Proof/Laws/Reactions.lean ====
section
/-! SUPPORT. Creep, release and return, the entries of CONFIG, RUN and WATCH, and the standing conditions, as runs of
moves. -/

namespace Sys2Proof.Machine

variable {c : Instr}

/-! ## Creep -/

theorem moves_hpcBreach (s : State) : Moves c s s.hpcBreach := by
  unfold State.hpcBreach
  split
  · rename_i hm
    split
    · rename_i hp; exact moves_trigger (.refl s) (inHold_run hm hp rfl)
    · rename_i hp; exact moves_trigger (.refl s) (inHold_run hm hp rfl)
    · rename_i hp; exact moves_secureRelease s hm hp
    · split
      · exact moves_springInsufficient s
      · exact .refl s
    · split
      · exact moves_springInsufficient s
      · exact .refl s
    · exact .refl s
  · exact .refl s

theorem moves_hpcBlind (s : State) : Moves c s s.hpcBlind := by
  unfold State.hpcBlind
  split
  · rename_i hm
    split
    · rename_i hp; exact moves_trigger (.refl s) (inHold_run hm hp rfl)
    · rename_i hp; exact moves_trigger (.refl s) (inHold_run hm hp rfl)
    · rename_i hp; exact moves_secureRelease s hm hp
    · exact .refl s
    · exact .refl s
    · exact .refl s
  · exact .refl s

theorem moves_csu (s : State) (u : Csu) (ho : u.ownLevel = s.csu.ownLevel) (hn : u.nodeLevel = s.csu.nodeLevel) :
    Moves c s { s with csu := u } := .one (.csu s u ho hn)

theorem moves_noticeTest (s : State) : Moves c s s.noticeTest := by
  unfold State.noticeTest
  split
  · refine Moves.trans ?_ (moves_hpcNotice _)
    apply moves_csu <;> rfl
  · exact .refl s

theorem moves_escalationTest (s : State) : Moves c s s.escalationTest := by
  unfold State.escalationTest
  dsimp only
  split
  · refine Moves.trans ?_ (moves_raiseOwn _ _)
    apply moves_csu <;> rfl
  · exact .refl s

theorem moves_breach (s : State) : Moves c s s.breach := by
  unfold State.breach
  refine Moves.tail (Moves.trans (Moves.trans ?_ (moves_levelsFour _)) (moves_hpcBreach _)) (.alert _ _ _ _)
  apply moves_csu <;> rfl

theorem moves_breachTest (s : State) : Moves c s s.breachTest := by
  unfold State.breachTest
  split
  · exact moves_breach s
  · exact .refl s

theorem moves_crossingTests (s : State) : Moves c s s.crossingTests :=
  ((moves_noticeTest s).trans (moves_escalationTest _)).trans (moves_breachTest _)

theorem moves_blindOnset (s : State) : Moves c s s.blindOnset := by
  have m : Moves c s (({ s with csu := { s.csu with blind := true } } : State).setLevels 4 4) := by
    refine Moves.trans ?_ (moves_levelsFour _)
    apply moves_csu <;> rfl
  unfold State.blindOnset
  dsimp only
  split
  · exact (m.trans (moves_report _ _)).trans (moves_hpcBlind _)
  · exact (m.trans (moves_hpcBlind _)).trans (moves_report _ _)

theorem recompute_levels (u : Csu) (l : List PeerEntry) :
    (u.recompute l).ownLevel = u.ownLevel ∧ (u.recompute l).nodeLevel = u.nodeLevel := by
  unfold Csu.recompute
  split <;> exact ⟨rfl, rfl⟩

theorem moves_creepRecompute (s : State) (entry : Bool) : Moves c s (s.creepRecompute entry) := by
  have m : Moves c s { s with csu := s.csu.recompute s.pvt.entries } :=
    moves_csu s _ (recompute_levels _ _).1 (recompute_levels _ _).2
  unfold State.creepRecompute
  dsimp only
  split
  · split
    · exact m.trans (moves_crossingTests _)
    · exact m
  · split
    · exact m.trans (moves_blindOnset _)
    · exact m

/-! ## Capture, release and return -/

theorem moves_enterCapturing (s : State) (h : s.inPhase .released = true) : Moves c s s.enterCapturing := by
  unfold State.enterCapturing
  exact ((((Moves.one (.capture s h)).tail (.target _ _ _)).trans (moves_halRecompute _)).tail (.declaration _)).trans
    (moves_creepRecompute _ _)

theorem moves_enterReleasing (s : State) (h : s.inHold = true) : Moves c s s.enterReleasing :=
  (moves_line (.one (.releasing s h))).tail (.declaration _)

theorem moves_enterReleased (s : State) (h : s.inHold = true) : Moves c s s.enterReleased :=
  ((Moves.one (.released s h)).trans (moves_halRecompute _)).tail (.declaration _)

theorem moves_returnFromSecured (s : State) (h : s.inHold = true) : Moves c s s.returnFromSecured := by
  unfold State.returnFromSecured
  exact moves_enterHolding (by apply moves_hpc <;> rfl) _ _ h

theorem moves_abortHandover (s : State) (h : s.inHold = true) : Moves c s s.abortHandover := by
  unfold State.abortHandover
  split
  · exact moves_enterHolding (by apply moves_hpc <;> rfl) _ _ h
  · exact .refl s

theorem moves_settled (s : State) : Moves c s s.settled := by
  unfold State.settled
  split
  · rename_i h
    exact moves_enterHolding (.refl s) _ _ (inHold_of_inPhase h rfl)
  · split
    · refine moves_line (Moves.tail ?_ (.request _ _))
      apply moves_hpc <;> rfl
    · exact .refl s

theorem moves_applyTimedOut (s : State) : Moves c s s.applyTimedOut := by
  unfold State.applyTimedOut
  apply moves_hpc <;> rfl

theorem moves_confirmed (s : State) : Moves c s s.confirmed := by
  unfold State.confirmed
  split
  · rename_i h hh
    split
    · have m : Moves c s { s with hpc := { s.hpc with handover := some { h with stage := .settle, stageTime := 0 } } } := by
        apply moves_hpc <;> simp [hh]
      exact m.tail (.csu _ s.csu.rearm rfl rfl)
    · exact .refl s
  · exact .refl s

theorem followsNow_released {s : State} (h : s.followsNow = true) : s.inPhase .released = true := by
  simp only [State.followsNow, Bool.and_eq_true] at h
  exact h.1.1

theorem moves_hpcAlert (s : State) : Moves c s s.hpcAlert := by
  unfold State.hpcAlert
  split
  · rename_i h; exact moves_abortRelease s (inHold_of_inPhase h rfl)
  · split
    · rename_i h; exact moves_enterCapturing s (followsNow_released h)
    · exact .refl s

/-! ## Samples -/

theorem moves_setBreachTime (s : State) (t : Nat) : Moves c s (s.setBreachTime t) := by
  unfold State.setBreachTime
  apply moves_csu <;> rfl

theorem moves_velocityTest (s : State) : Moves c s s.velocityTest := by
  unfold State.velocityTest
  split
  · split
    · split
      · exact (moves_setBreachTime s _).trans (moves_breach _)
      · exact moves_setBreachTime s _
    · exact moves_setBreachTime s _
  · exact .refl s

theorem moves_gapReport (s : State) (b : Bool) : Moves c s (s.gapReport b) := by
  unfold State.gapReport
  split
  · exact moves_report s _
  · exact .refl s

theorem sampleCreep_levels (u : Csu) (w : Wmt) (g : Glu) (k : Settings) (gap : Bool) :
    (u.sampleCreep w g k gap).ownLevel = u.ownLevel ∧ (u.sampleCreep w g k gap).nodeLevel = u.nodeLevel := by
  unfold Csu.sampleCreep
  split
  · exact ⟨rfl, rfl⟩
  · split <;> exact ⟨rfl, rfl⟩
  · split
    · exact ⟨rfl, rfl⟩
    · split <;> exact ⟨rfl, rfl⟩

theorem moves_csuSample (s : State) (gap : Bool) : Moves c s (s.csuSample gap) := by
  have m : Moves c s (({ s with csu := s.csu.sampleCreep s.wmt s.glu s.mdc.settings gap } : State).gapReport
      s.csu.creepGap) :=
    (moves_csu s _ (sampleCreep_levels _ _ _ _ _).1 (sampleCreep_levels _ _ _ _ _).2).trans (moves_gapReport _ _)
  unfold State.csuSample
  dsimp only
  split
  · exact (m.trans (moves_creepRecompute _ _)).trans (moves_velocityTest _)
  · exact m.trans (moves_velocityTest _)

theorem moves_hpcSample (s : State) : Moves c s s.hpcSample := by
  unfold State.hpcSample
  split
  · rename_i r hr
    split
    · rename_i h
      have m : Moves c s { s with hpc := { s.hpc with release := some (s.travelRecord r) } } := by
        apply moves_hpc <;> simp [hr]
      dsimp only
      split
      · exact m.trans (moves_enterReleased _ (inHold_of_inPhase (p := .releasing) h rfl))
      · exact m
    · exact .refl s
  · exact .refl s

theorem moves_gluMoved (s : State) : Moves c s s.gluMoved := by
  unfold State.gluMoved
  split
  · have m : Moves c s { s with glu := s.glu.lostStationary } := .one (.glu s _ rfl)
    dsimp only
    split
    · exact m.trans (moves_gradeRecompute _)
    · exact m
  · exact .refl s

/-! ## Unordered handings -/

theorem mem_insertAt {α : Type} {k : Nat} {x y : α} {l : List α} (h : y ∈ insertAt k x l) : y = x ∨ y ∈ l := by
  induction l generalizing k with
  | nil => cases k <;> simpa [insertAt] using h
  | cons z l ih =>
    cases k with
    | zero => simpa [insertAt] using h
    | succ k =>
      rcases List.mem_cons.1 h with h | h
      · exact .inr (h ▸ List.mem_cons_self)
      · exact (ih h).imp_right (List.mem_cons_of_mem z)

theorem mem_permute {α : Type} {k : Nat} {y : α} {l : List α} (h : y ∈ permute k l) : y ∈ l := by
  induction l generalizing k with
  | nil => simp [permute] at h
  | cons z l ih =>
    rcases mem_insertAt h with h | h
    · exact h ▸ List.mem_cons_self
    · exact List.mem_cons_of_mem z (ih h)

theorem moves_inOrder (l : List (State → State)) (hl : ∀ f ∈ l, ∀ s, Moves c s (f s)) (s : State) :
    Moves c s (inOrder l s) := by
  induction l generalizing s with
  | nil => exact .refl s
  | cons f l ih =>
    exact (hl f List.mem_cons_self s).trans (ih (fun g hg => hl g (List.mem_cons_of_mem f hg)) _)

theorem moves_handAll (l : List (State → State)) (hl : ∀ f ∈ l, ∀ s, Moves c s (f s)) (s : State) :
    Moves c s (handAll l s) :=
  (Moves.one (.choices s _ s.draw)).trans (moves_inOrder _ (fun f hf => hl f (mem_permute hf)) _)

/-! ## CONFIG, RUN and WATCH -/

theorem moves_runRequests (s : State) (b : Bool) : Moves c s (s.runRequests b) := moves_line (.one (.requests s b))

theorem moves_enterConfig (s : State) (h : s.mdc.mode = .init) : Moves c s s.enterConfig := moves_line (.one (.config s h))

theorem moves_runEntered (s : State) : Moves c s s.runEntered := by
  refine moves_handAll _ ?_ s
  simp only [List.mem_cons, List.not_mem_nil, or_false]
  rintro f (rfl | rfl) s
  · exact moves_halRecompute s
  · exact .one (.declaration s)

theorem moves_enterRun (s : State) (h : s.mdc.mode = .config) : Moves c s s.enterRun :=
  (((moves_endWindow s).tail (.run _ (by simpa using h) (s.endWindow_frozen (by simpa using h)))).trans
    (moves_runRequests _ _)).trans (moves_runEntered _)

theorem moves_resumeRun (s : State) (h : s.mdc.mode = .restart) : Moves c s s.resumeRun := by
  unfold State.resumeRun
  dsimp only
  refine (Moves.tail ?_ (.owedReply _)).trans (moves_runEntered _)
  split
  · rename_i r hr
    exact ((Moves.one (.resumed s r h hr)).trans (moves_gapReport _ _)).trans (moves_runRequests _ _)
  · exact (Moves.one (.afresh s h)).trans (moves_runRequests _ _)

theorem moves_blindAtReturn (s : State) : Moves c s s.blindAtReturn := by
  unfold State.blindAtReturn
  split
  · exact moves_blindOnset s
  · exact .refl s

theorem moves_parkedAlert (s : State) : Moves c s s.parkedAlert := by
  unfold State.parkedAlert
  split
  · exact .one (.alert s _ _ _)
  · exact .refl s

theorem moves_wake (s : State) (parked : Bool) (h : s.mdc.mode = .watch) : Moves c s (s.wake parked) := by
  have m : Moves c s ((s.wakeBlocks parked).placeRouse.runEntered) :=
    (((moves_line (.one (.wake s parked h))).trans (moves_formMargin _)).tail (.rouse _)).trans (moves_runEntered _)
  unfold State.wake
  dsimp only
  refine Moves.trans ?_ (moves_blindAtReturn _)
  split
  · exact m.trans (moves_parkedAlert _)
  · exact m

theorem moves_parkedCreep (s : State) (h : s.mdc.mode = .watch) : Moves c s s.parkedCreep := by
  unfold State.parkedCreep
  refine Moves.trans ?_ (moves_wake _ true h)
  exact (Moves.one (.levelsFour s)).tail (.csu _ { s.csu with notice := true, ownLevel := 4, nodeLevel := 4 } rfl rfl)

theorem requestsWatch_secured {s : State} (h : s.requestsWatch = true) : s.inPhase .secured = true := by
  simp only [State.requestsWatch, Bool.and_eq_true] at h
  exact h.1.1

theorem moves_answerWatch (s : State) (h : s.requestsWatch = true) : Moves c s s.answerWatch := by
  unfold State.answerWatch
  split
  · split
    · exact .refl s
    · refine Moves.trans (Moves.one (.mdc s { s.mdc with watchRequest := some true } ?_ ?_ ?_ ?_ ?_ ?_)) (moves_report _ _)
        <;> rfl
  · exact .one (.watch s (requestsWatch_secured h))

/-! ## Standing conditions -/

theorem moves_endWait (s : State) (h : HandoverRecord) (hh : s.hpc.handover = some h) (hs : s.inHold = true) :
    Moves c s (s.endWait h) := by
  have m : Moves c s { s with hpc := { s.hpc with handover := some { h with stage := .ramp, stageTime := 0 } } } := by
    apply moves_hpc <;> simp [hh]
  have k := m.tail (.csu _ s.csu.rearm rfl rfl)
  unfold State.endWait
  dsimp only
  split
  · exact moves_enterSecured k hs
  · exact k

theorem moves_judgeWait (s : State) (h : HandoverRecord) (hh : s.hpc.handover = some h) (hs : s.inHold = true) :
    Moves c s (s.judgeWait h) := by
  unfold State.judgeWait
  split
  · split
    · exact .refl s
    · refine Moves.trans ?_ (moves_report _ _)
      apply moves_hpc <;> simp [hh]
  · split
    · exact moves_endWait s h hh hs
    · exact .refl s

theorem moves_reactSecuring (b s : State) (hs : s.inHold = true) : Moves c s (State.reactSecuring b s) := by
  unfold State.reactSecuring
  split
  · exact moves_abortHandover s hs
  · split
    · rename_i h hh
      split
      · exact moves_judgeWait s h hh hs
      · exact .refl s
    · exact .refl s

theorem moves_rearmRelease (s : State) : Moves c s s.rearmRelease := by
  unfold State.rearmRelease
  split
  · apply moves_hpc <;> rfl
  · exact .refl s

theorem rearmRelease_inHold (s : State) : s.rearmRelease.inHold = s.inHold := by
  unfold State.rearmRelease
  split <;> rfl

theorem moves_reactHolding (s : State) (hs : s.inHold = true) : Moves c s s.reactHolding := by
  have m : Moves c s s.rearmRelease := moves_rearmRelease s
  have hr := (rearmRelease_inHold s).trans hs
  unfold State.reactHolding
  dsimp only
  split
  · exact moves_enterSecuring m hr
  · split
    · exact m.trans (moves_enterReleasing _ hr)
    · exact m

theorem moves_reactReleasing (s : State) (hs : s.inHold = true) : Moves c s s.reactReleasing := by
  unfold State.reactReleasing
  split
  · exact moves_enterReleased s hs
  · split
    · exact moves_abortRelease s hs
    · exact .refl s

theorem moves_reactRun (b s : State) (hm : s.mdc.mode = .run) : Moves c s (State.reactRun b s) := by
  unfold State.reactRun
  split
  · split
    · rename_i h
      simp only [Bool.and_eq_true] at h
      exact moves_enterCapturing s (followsNow_released h.1)
    · exact .refl s
  · rename_i hp
    split
    · exact moves_enterSecuring (.refl s) (inHold_run hm hp rfl)
    · exact .refl s
  · rename_i hp; exact moves_reactHolding s (inHold_run hm hp rfl)
  · rename_i hp; exact moves_reactReleasing s (inHold_run hm hp rfl)
  · rename_i hp; exact moves_reactSecuring b s (inHold_run hm hp rfl)
  · rename_i hp
    split
    · exact moves_returnFromSecured s (inHold_run hm hp rfl)
    · split
      · rename_i h; exact moves_answerWatch s h
      · exact .refl s

theorem moves_reactSafe (s : State) (hm : s.mdc.mode = .safe) : Moves c s s.reactSafe := by
  unfold State.reactSafe
  split
  · exact moves_line (.one (.seenStationary s hm))
  · exact .refl s

theorem moves_reactWatch (s : State) (hm : s.mdc.mode = .watch) : Moves c s s.reactWatch := by
  unfold State.reactWatch
  split
  · exact moves_parkedCreep s hm
  · exact .refl s

theorem moves_react (b s : State) : Moves c s (State.react b s) := by
  unfold State.react
  split
  · rename_i h; exact moves_reactRun b s h
  · rename_i h; exact moves_reactSafe s h
  · rename_i h; exact moves_reactWatch s h
  · exact .refl s
  · exact .refl s
  · exact .refl s

theorem moves_reactFor (b : State) (n : Nat) (s : State) : Moves c s (reactFor b n s) := by
  induction n generalizing s with
  | zero => exact .refl s
  | succ n ih => exact (moves_react b s).trans (ih _)

theorem moves_lapse (s : State) : Moves c s s.lapse := by
  have m : Moves c s { s with hpc := s.lapsedTimes } := by
    apply moves_hpc <;> (unfold State.lapsedTimes; split <;> rfl)
  exact m.tail (.mdc _ { s.mdc with watchRequest := if s.requestsWatch then s.mdc.watchRequest else none } rfl rfl rfl rfl
    rfl rfl)

theorem moves_drawn (s : State) : Moves c s s.drawn := .one (.choices s _ _)

/-- The end of a command adds moves to those of its own effect. -/
theorem moves_conclude (b : State) {s t : State} (h : Moves c s t) : Moves c s (conclude b t) :=
  ((h.trans (moves_reactFor b rounds t)).trans (moves_lapse _)).trans (moves_drawn _)

end Sys2Proof.Machine
end

