-- ==== Sys2Proof/Laws/Blocks.lean ====
section
/-! SUPPORT. What one sample or reading leaves of the WMT, the CPR and the PAD: which of their fields that other blocks
rely on stand as they were. -/

namespace Sys2Proof.Machine

/-! ## WMT -/

/-- Two WMT states with the same sampling and period. -/
def Wmt.samePeriod (w u : Wmt) : Prop := u.sampling = w.sampling ∧ u.slow = w.slow

theorem updateLock_period (w : Wmt) (e : Int) : w.samePeriod (w.updateLock e) := by
  unfold Wmt.updateLock Wmt.samePeriod
  repeat' split
  all_goals exact ⟨rfl, rfl⟩

theorem updateLoop_period (w : Wmt) (e : Int) : w.samePeriod (w.updateLoop e).1 := by
  unfold Wmt.updateLoop
  exact updateLock_period { w with
    highGain := w.selectGain e, v := w.v + integralStep (w.selectGain e) (angleError e), phi := _, position := _ } e

theorem updateStationary_period (w : Wmt) (k : Nat) : w.samePeriod (w.updateStationary k) := by
  unfold Wmt.updateStationary Wmt.samePeriod
  repeat' split
  all_goals exact ⟨rfl, rfl⟩

theorem updateLockWatch_period (w : Wmt) (k : Nat) : w.samePeriod (w.updateLockWatch k).1 := by
  unfold Wmt.updateLockWatch Wmt.samePeriod
  dsimp only
  repeat' split
  all_goals exact ⟨rfl, rfl⟩

theorem updateLearning_period (w : Wmt) (k : Nat) (s c : Int) (r : Bool) (x : Wrap) :
    w.samePeriod (w.updateLearning k s c r x) := by
  unfold Wmt.updateLearning Wmt.samePeriod
  repeat' split
  all_goals exact ⟨rfl, rfl⟩

theorem condition_period (w : Wmt) (k : Nat) (s c : Int) : w.samePeriod (w.condition k s c).wmt := ⟨rfl, rfl⟩

theorem Wmt.samePeriod.trans {a b d : Wmt} (h : a.samePeriod b) (k : b.samePeriod d) : a.samePeriod d :=
  ⟨k.1.trans h.1, k.2.trans h.2⟩

theorem track_period (q : Conditioned) (k : Nat) : q.wmt.samePeriod (Wmt.track q k).1 := by
  unfold Wmt.track
  exact (((updateLoop_period _ _).trans (updateStationary_period _ _)).trans (updateLockWatch_period _ _)).trans
    (updateLearning_period _ _ _ _ _ _)

theorem await_period (q : Conditioned) : q.wmt.samePeriod (Wmt.await q).1 := by
  unfold Wmt.await Wmt.samePeriod
  dsimp only
  repeat' split
  all_goals exact ⟨rfl, rfl⟩

/-- A sample leaves the sampling and its period (R1). -/
theorem sample_period (w : Wmt) (pol : Bool) (k : Nat) (s c : Code) : w.samePeriod (w.sample pol k s c).1 := by
  have q := condition_period w k (rawSine pol s) c.toInt
  unfold Wmt.sample
  dsimp only
  split
  · split
    · exact q.trans (track_period _ _)
    · exact q
  · exact q.trans (await_period _)
  · exact q.trans (await_period _)

/-! ### The ranges of the WMT (R8, R9, R15) -/

theorem clamp_between {lo hi : Int} (h : lo ≤ hi) (x : Int) : lo ≤ clamp lo hi x ∧ clamp lo hi x ≤ hi := by
  unfold clamp
  omega

theorem updateLock_ok {w : Wmt} (h : w.ok) (e : Int) : (w.updateLock e).ok := by
  unfold Wmt.updateLock
  repeat' split
  all_goals exact h

theorem emod_cycle_lt (x : Int) : (x % (cycleUnits : Int)).toNat < cycleUnits := by
  have p : (0 : Int) < (cycleUnits : Int) := by decide
  have a := Int.emod_nonneg x (Int.ne_of_gt p)
  have b := Int.emod_lt_of_pos x p
  omega

theorem updateLoop_ok {w : Wmt} (h : w.ok) (e : Int) : (w.updateLoop e).1.ok := by
  unfold Wmt.updateLoop
  dsimp only
  refine updateLock_ok ?_ e
  exact ⟨h.1, h.2.1, h.2.2.1, emod_cycle_lt _, h.2.2.2.2⟩

theorem updateStationary_ok {w : Wmt} (h : w.ok) (k : Nat) : (w.updateStationary k).ok := by
  unfold Wmt.updateStationary
  repeat' split
  all_goals exact h

theorem updateLockWatch_ok {w : Wmt} (h : w.ok) (k : Nat) : (w.updateLockWatch k).1.ok := by
  unfold Wmt.updateLockWatch
  dsimp only
  repeat' split
  all_goals exact h

theorem learn_ok {w : Wmt} (h : w.ok) (l : LearnCycle) : (w.learn l).ok := by
  refine ⟨clamp_between (by decide) _, clamp_between (by decide) _, ?_, h.2.2.2.1, h.2.2.2.2⟩
  unfold Wmt.learn learntGain
  dsimp only
  split
  · exact h.2.2.1
  · exact clamp_between (by decide) _

theorem updateLearning_ok {w : Wmt} (h : w.ok) (k : Nat) (s c : Int) (r : Bool) (x : Wrap) :
    (w.updateLearning k s c r x).ok := by
  unfold Wmt.updateLearning
  repeat' split
  all_goals first
    | exact h
    | exact learn_ok (w := { w with learning := _ }) h _

theorem track_ok {q : Conditioned} (h : q.wmt.ok) (k : Nat) : (Wmt.track q k).1.ok := by
  unfold Wmt.track
  exact updateLearning_ok (updateLockWatch_ok (updateStationary_ok (updateLoop_ok h _) _) _) _ _ _ _ _

theorem electricalAngle_lt (s c : Int) : electricalAngle s c < 4096 := by
  have h : ∀ (l : List Nat) (b : Nat), b < 4096 → (∀ k ∈ l, k < 4096) →
      l.foldl (fun best k => if nearer s c k best then k else best) b < 4096 := by
    intro l
    induction l with
    | nil => intro b hb _; exact hb
    | cons k l ih =>
      intro b hb hl
      rw [List.foldl_cons]
      refine ih _ ?_ fun j hj => hl j (List.mem_cons_of_mem k hj)
      split
      · exact hl k List.mem_cons_self
      · exact hb
  exact h _ 0 (by decide) fun k hk => List.mem_range.1 hk

theorem await_ok {q : Conditioned} (h : q.wmt.ok) : (Wmt.await q).1.ok := by
  unfold Wmt.await
  dsimp only
  split
  · exact h
  · split
    · exact h
    · refine ⟨h.1, h.2.1, h.2.2.1, ?_, by simp [Wmt.recover]⟩
      have := electricalAngle_lt q.s q.c
      simp only [Wmt.recover, cycleUnits]
      omega

/-- A sample keeps the ranges (R8, R9, R15). -/
theorem sample_ok (w : Wmt) (pol : Bool) (k : Nat) (s c : Code) (h : w.ok) : (w.sample pol k s c).1.ok := by
  have q : (w.condition k (rawSine pol s) c.toInt).wmt.ok := h
  unfold Wmt.sample
  dsimp only
  split
  · split
    · exact track_ok q _
    · exact ⟨h.1, h.2.1, h.2.2.1, h.2.2.2.1, by simp [Wmt.toOutage]⟩
  · exact await_ok q
  · exact await_ok q

/-! ## CPR -/

/-- A regulator that has kept its valve mode and target; a valve mode REGULATING never comes to drive pass-through. -/
def Cpr.sameMode (k d : Cpr) : Prop :=
  d.regulating = k.regulating ∧ d.target = k.target ∧ (k.valves ≠ .passThrough → d.valves ≠ .passThrough)

theorem Cpr.sameMode.trans {a b d : Cpr} (h : a.sameMode b) (k : b.sameMode d) : a.sameMode d :=
  ⟨k.1.trans h.1, k.2.1.trans h.2.1, fun x => k.2.2 (h.2.2 x)⟩

theorem direction_valves (d : Direction) : d.valves ≠ .passThrough := by cases d <;> simp [Direction.valves]

theorem begin_mode (k : Cpr) (d : Direction) : k.sameMode (k.begin d) := ⟨rfl, rfl, fun _ => direction_valves d⟩

theorem bandTest_mode (k : Cpr) : k.sameMode k.bandTest := by
  unfold Cpr.bandTest
  repeat' split
  all_goals first
    | exact begin_mode k _
    | exact ⟨rfl, rfl, id⟩

theorem operationStep_mode (k : Cpr) : k.sameMode k.operationStep.1 := by
  unfold Cpr.operationStep Cpr.timedOut
  repeat' split
  all_goals first
    | exact begin_mode k _
    | exact ⟨rfl, rfl, id⟩
    | exact ⟨rfl, rfl, fun _ => direction_valves _⟩
    | exact ⟨rfl, rfl, fun _ => by simp⟩

theorem settleStep_mode (k : Cpr) : k.sameMode k.settleStep.1 := by
  unfold Cpr.settleStep
  repeat' split
  all_goals exact ⟨rfl, rfl, by first | exact id | (intro _; simp)⟩

theorem reportTimeout_mode (k : Cpr) (r : StepResult) : k.sameMode (k.reportTimeout r).1 := by
  cases r <;> exact ⟨rfl, rfl, id⟩

theorem regulate_mode (k : Cpr) : k.sameMode k.regulate.1 := by
  unfold Cpr.regulate
  exact (((bandTest_mode k).trans (operationStep_mode _)).trans (settleStep_mode _)).trans (reportTimeout_mode _ _)

/-- A reading leaves valve mode and target (R132); in PASS-THROUGH also the valves, and no operation begins. -/
theorem read_mode (k : Cpr) (p : Int) :
    k.sameMode (k.read p).1
      ∧ ((k.read p).1.regulating = false → (k.read p).1.valves = k.valves ∧ (k.read p).1.operation = k.operation) := by
  have a : k.sameMode (k.accept (pressureClamped p)) := ⟨rfl, rfl, id⟩
  unfold Cpr.read
  dsimp only
  split
  · split
    · rename_i h
      refine ⟨a.trans (regulate_mode _), fun x => ?_⟩
      rw [(regulate_mode _).1] at x
      simp [x] at h
    · exact ⟨a, fun _ => ⟨rfl, rfl⟩⟩
  · split
    · split
      · exact ⟨⟨rfl, rfl, id⟩, fun _ => ⟨rfl, rfl⟩⟩
      · unfold Cpr.rangeLost
        split
        · rename_i h
          exact ⟨⟨rfl, rfl, fun _ => by simp⟩, fun x => by simp [h] at x⟩
        · exact ⟨⟨rfl, rfl, id⟩, fun _ => ⟨rfl, rfl⟩⟩
    · exact ⟨⟨rfl, rfl, id⟩, fun _ => ⟨rfl, rfl⟩⟩

/-! ## PAD -/

/-- Two PAD states with the same line and requests. -/
def Pad.sameLine (p q : Pad) : Prop :=
  q.asserted = p.asserted ∧ q.hpcRequest = p.hpcRequest ∧ q.mdcRequest = p.mdcRequest

/-- A spring chamber reading leaves line and requests (R152). -/
theorem springRead_line (p : Pad) (x : Int) : p.sameLine (p.read x).1 := by
  unfold Pad.read Pad.sameLine Pad.confirmTest Pad.lostTest
  dsimp only
  repeat' split
  all_goals exact ⟨rfl, rfl, rfl⟩

/-! ## Decoded frames -/

/-- A decoded Declaration is capped (R61). -/
theorem decodeDeclaration_capped {l : List Byte} {d : Declared} (h : decodeDeclaration l = some d) : d.capped := by
  unfold decodeDeclaration at h
  split at h
  · split at h
    · exact absurd h (by simp)
    · simp only [Option.some.injEq] at h
      subst h
      exact ⟨Nat.min_le_left _ _, Nat.min_le_left _ _⟩
  · exact absurd h (by simp)

/-- A decoded Alert's level is at most 4 (R69). -/
theorem decodeAlert_level {l : List Byte} {a : LastAlert} (h : decodeAlert l = some a) : a.level ≤ 4 := by
  unfold decodeAlert at h
  split at h
  · split at h
    · exact absurd h (by simp)
    · simp only [Option.some.injEq] at h
      subst h
      exact Nat.min_le_left _ _
  · exact absurd h (by simp)

end Sys2Proof.Machine
end

