-- ==== Sys2Proof/Laws/Commands.lean ====
section
/-! SUPPORT. Every command as a run of moves (`exec_moves`), and what a step can do (`step_cases`). -/

namespace Sys2Proof.Machine

variable {c : Instr}

/-! ## Sensors -/

theorem moves_takeSample (s : State) (w : Wmt) (e : SampleEvents) (h : s.wmt.samePeriod w) (hk : s.wmt.ok → w.ok) :
    Moves c s (s.takeSample w e) := by
  unfold State.takeSample
  refine ((Moves.one (.wmt s w h.1 h.2 hk)).trans (moves_reportAll _ _)).trans (moves_handAll _ ?_ _)
  intro f hf s
  simp only [sampleHandings, List.mem_append, List.mem_cons, List.not_mem_nil, or_false] at hf
  rcases hf with (rfl | rfl) | hf
  · exact moves_csuSample s _
  · exact moves_hpcSample s
  · split at hf
    · rw [List.mem_singleton.1 hf]; exact moves_gluMoved s
    · simp at hf

theorem moves_sampleIf (s : State) (o : State → SampleEvents → Bool) (a b : Code) : Moves c s (s.sampleIf o a b) := by
  unfold State.sampleIf
  dsimp only
  split
  · exact moves_takeSample s _ _ (sample_period _ _ _ _ _) (sample_ok _ _ _ _ _)
  · exact .refl s

theorem take_reading (g : Glu) (r : Option Accel) (b : Bool) : (g.take r b).reading = g.reading := by
  unfold Glu.take
  dsimp only
  repeat' split
  all_goals rfl

theorem moves_accelGrade (s : State) (r : Option Accel) : Moves c s (s.accelGrade r) := by
  have m : Moves c s { s with glu := s.glu.take r s.wmt.stationary } := .one (.glu s _ (take_reading _ _ _))
  unfold State.accelGrade
  dsimp only
  split
  · exact m.trans (moves_gradeRecompute _)
  · exact m

theorem moves_disagreementTest (s : State) : Moves c s s.disagreementTest := by
  have m : Moves c s { s with glu := { s.glu with disagreement := s.glu.nextDisagreement } } := .one (.glu s _ rfl)
  unfold State.disagreementTest
  dsimp only
  split
  · split
    · exact m.trans (moves_report _ _)
    · exact m
  · exact .refl s

theorem moves_accelRead (s : State) (r : Option Accel) : Moves c s (s.accelRead r) := by
  unfold State.accelRead
  dsimp only
  refine Moves.trans ?_ (moves_disagreementTest _)
  split
  · exact (moves_accelGrade s r).trans (moves_report _ _)
  · exact moves_accelGrade s r

theorem missLoad_reading (g : Glu) : g.missLoad.1.reading = g.reading := by
  unfold Glu.missLoad
  split <;> rfl

theorem moves_loadRead (s : State) (n : Nat) : Moves c s (s.loadRead n) := by
  unfold State.loadRead
  dsimp only
  split
  · refine (Moves.one (.glu s (s.glu.takeLoad n s.wmt.stationary) rfl)).trans (moves_handAll _ ?_ _)
    intro f hf s
    simp only [loadHandings, List.mem_append] at hf
    rcases hf with hf | hf <;> split at hf <;> simp at hf <;> subst hf
    · exact moves_halRecompute s
    · exact moves_massRecompute s
  · have m : Moves c s { s with glu := s.glu.missLoad.1 } := .one (.glu s _ (missLoad_reading _))
    split
    · exact m.trans (moves_report _ _)
    · exact m

theorem moves_pressureRead (s : State) (p : Int) : Moves c s (s.pressureRead p) := by
  have h := read_mode s.cpr p
  have m : Moves c s { s with cpr := (s.cpr.read p).1 } := .one (.cpr s _ h.1.1 h.1.2.1 (fun _ => h.1.2.2) h.2)
  have u : Moves c s (if (s.cpr.read p).2.applyTimeout then State.applyTimedOut { s with cpr := (s.cpr.read p).1 }
      else { s with cpr := (s.cpr.read p).1 }) := by
    split
    · exact m.trans (moves_applyTimedOut _)
    · exact m
  unfold State.pressureRead
  dsimp only
  split
  · exact (u.trans (moves_reportAll _ _)).trans (moves_settled _)
  · exact u.trans (moves_reportAll _ _)

theorem moves_pressureIf (s : State) (o : PressureEvents → Bool) (p : Int) : Moves c s (s.pressureIf o p) := by
  unfold State.pressureIf
  split
  · exact moves_pressureRead s p
  · exact .refl s

theorem moves_readbackTaken (s : State) (h a v : Bool) : Moves c s (s.readbackTaken h a v) := by
  unfold State.readbackTaken
  dsimp only
  split
  · exact .refl s
  · exact (Moves.one (.cpr s (s.cpr.readback h a v).1 rfl rfl (fun _ => id) (fun _ => ⟨rfl, rfl⟩))).trans
      (moves_reportAll _ _)

theorem moves_springRead (s : State) (p : Int) : Moves c s (s.springRead p) := by
  have h := springRead_line s.pad p
  have m : Moves c s { s with pad := (s.pad.read p).1 } := .one (.pad s _ h.1 h.2.1 h.2.2)
  unfold State.springRead
  dsimp only
  have e1 : Moves c s (if (s.pad.read p).2.confirmed then State.confirmed { s with pad := (s.pad.read p).1 }
      else { s with pad := (s.pad.read p).1 }) := by
    split
    · exact m.trans (moves_confirmed _)
    · exact m
  generalize (if (s.pad.read p).2.confirmed then State.confirmed { s with pad := (s.pad.read p).1 }
      else { s with pad := (s.pad.read p).1 }) = u at e1 ⊢
  have e2 : Moves c s (if (s.pad.read p).2.rangeOnset then u.report springSensorReport else u) := by
    split
    · exact e1.trans (moves_report _ _)
    · exact e1
  generalize (if (s.pad.read p).2.rangeOnset then u.report springSensorReport else u) = v at e2 ⊢
  have e3 : Moves c s (if (s.pad.read p).2.timedOut then v.confirmTimedOut else v) := by
    split
    · exact e2.trans (moves_confirmTimedOut _)
    · exact e2
  generalize (if (s.pad.read p).2.timedOut then v.confirmTimedOut else v) = w at e3 ⊢
  split
  · exact e3.trans (moves_report _ _)
  · exact e3

theorem moves_springIf (s : State) (o : SpringEvents → Bool) (p : Int) : Moves c s (s.springIf o p) := by
  unfold State.springIf
  split
  · exact moves_springRead s p
  · exact .refl s

/-! ## Times of HPC and PAD -/

theorem moves_rampRelease (s : State) (r : ReleaseRecord) (h : s.hpc.release = some r) : Moves c s (s.rampRelease r) := by
  have m : Moves c s { s with hpc := { s.hpc with release := some { r with rampTime := r.rampTime - 25 } } } := by
    apply moves_hpc <;> simp [h]
  unfold State.rampRelease
  dsimp only
  split
  · exact m.tail (.target _ _ _)
  · exact m

theorem inHold_capturingHolding {s : State} (h : (s.inPhase .capturing || s.inPhase .holding) = true) :
    s.inHold = true := by
  rcases Bool.or_eq_true _ _ ▸ h with h | h <;> exact inHold_of_inPhase h rfl

theorem moves_insufficientFor500 (s : State) (h : s.timesInsufficiency = true) : Moves c s s.insufficientFor500 := by
  unfold State.insufficientFor500
  exact (moves_trigger (.refl s) (inHold_capturingHolding (Bool.and_eq_true_iff.mp h).1)).tail (.alert _ _ _ _)

theorem moves_endSettle (s : State) (h : HandoverRecord) (hh : s.hpc.handover = some h) (hs : s.inHold = true) :
    Moves c s (s.endSettle h) := by
  unfold State.endSettle
  split
  · exact moves_enterSecured (.refl s) hs
  · apply moves_hpc <;> simp [hh]

theorem moves_rampHandover (s : State) (h : HandoverRecord) (hh : s.hpc.handover = some h) (hs : s.inHold = true) :
    Moves c s (s.rampHandover h) := by
  have m : Moves c s { s with hpc := { s.hpc with handover := some { h with stageTime := h.stageTime - ms 5 } } } := by
    apply moves_hpc <;> simp [hh]
  unfold State.rampHandover
  dsimp only
  split
  · exact moves_enterSecured m hs
  · exact m.tail (.target _ _ _)

/-! ## Segment -/

theorem moves_clash (s : State) : Moves c s s.clash := by
  have m : Moves c s { s with pvt := { s.pvt with clashTime := some 0 } } :=
    .one (.pvtMarks s (some 0) s.pvt.expectedReported)
  unfold State.clash
  dsimp only
  split
  · exact m.trans (moves_report _ _)
  · exact m

theorem moves_creationReport (s : State) (n : Nat) : Moves c s (s.creationReport n) := by
  unfold State.creationReport
  split
  · exact (Moves.one (.pvtMarks s s.pvt.clashTime true)).trans (moves_report _ _)
  · exact .refl s

theorem moves_tabled (s : State) (n : Nat) (d : Declared) (h1 : 1 ≤ n) (h8 : n ≤ 8) (own : n ≠ s.number)
    (hd : d.capped) : Moves c s (s.tabled n d) := by
  have m : Moves c s { s with pvt := s.pvt.take n { d with capacity := s.pvt.summed n } } :=
    .one (.pvtTake s n _ h1 h8 own hd)
  unfold State.tabled
  dsimp only
  split
  · exact m.trans (moves_creationReport _ _)
  · exact m

theorem moves_handCapacity (s : State) (n k : Nat) : Moves c s (s.handCapacity n k) :=
  (Moves.one (.pvtCapacity s n k)).trans (moves_halRecompute _)

theorem moves_declarationArrives (s : State) (n : Nat) (l : List Byte) : Moves c s (s.declarationArrives n l) := by
  unfold State.declarationArrives
  split
  · rename_i hn
    simp only [State.takesFrom, Bool.and_eq_true, decide_eq_true_eq] at hn
    split
    · rename_i d hd
      unfold State.declare
      split
      · exact moves_clash s
      · rename_i own
        refine (moves_tabled s n d hn.1.2 hn.2 own (decodeDeclaration_capped hd)).trans (moves_handAll _ ?_ _)
        intro f hf t
        simp only [declarationHandings, List.mem_cons, List.not_mem_nil, or_false] at hf
        rcases hf with rfl | rfl | rfl | rfl | rfl | rfl
        · exact moves_creepRecompute t _
        · exact moves_mergeLevel t
        · exact moves_gradeRecompute t
        · exact moves_massRecompute t
        · exact moves_handCapacity t n _
        · exact moves_react s t
    · exact moves_report s _
  · exact .refl s

theorem moves_peerStale (s : State) (n : Nat) :
    Moves c s (handAll (staleHandings s) { s with pvt := s.pvt.setFreshness n .stale }) := by
  refine (Moves.one (.pvtFresh s n .stale)).trans (moves_handAll _ ?_ _)
  intro f hf t
  simp only [staleHandings, List.mem_cons, List.not_mem_nil, or_false] at hf
  rcases hf with rfl | rfl | rfl
  · exact moves_creepRecompute t _
  · exact moves_gradeRecompute t
  · exact moves_react s t

theorem moves_peerExpired (s : State) (n : Nat) (b : Bool) :
    Moves c s (handAll (expiryHandings n b) { s with pvt := s.pvt.setFreshness n .expired }) := by
  refine (Moves.one (.pvtFresh s n .expired)).trans (moves_handAll _ ?_ _)
  intro f hf t
  simp only [expiryHandings, List.mem_append, List.mem_singleton] at hf
  rcases hf with rfl | hf
  · exact moves_halRecompute t
  · split at hf
    · rw [List.mem_singleton.1 hf]; exact moves_report t _
    · simp at hf

theorem moves_alertArrives (s : State) (n : Nat) (l : List Byte) : Moves c s (s.alertArrives n l) := by
  unfold State.alertArrives
  split
  · split
    · rename_i a ha
      unfold State.alerted
      split
      · exact moves_clash s
      · refine (Moves.one (.pvtAlert s n a (decodeAlert_level ha))).trans (moves_handAll _ ?_ _)
        intro f hf t
        simp only [List.mem_append, List.mem_singleton] at hf
        rcases hf with hf | rfl
        · split at hf
          · rw [List.mem_singleton.1 hf]; exact moves_csuAlert t _
          · simp at hf
        · exact moves_hpcAlert t
    · exact moves_report s _
  · exact .refl s

theorem moves_stationFrame {α : Type} (s : State) (e : Element) (d : Option α) (take : α → State)
    (h : ∀ x, Moves c s (take x)) : Moves c s (s.stationFrame e d take) := by
  unfold State.stationFrame
  split
  · split
    · exact h _
    · exact moves_report s _
  · exact .refl s

theorem moves_driveHanded (b s : State) : Moves c s (handAll [State.halRecompute, State.react b] s) := by
  refine moves_handAll _ ?_ s
  intro f hf t
  simp only [List.mem_cons, List.not_mem_nil, or_false] at hf
  rcases hf with rfl | rfl
  · exact moves_halRecompute t
  · exact moves_react b t

theorem moves_drumHanded (s : State) : Moves c s s.drumHanded := by
  unfold State.drumHanded
  split
  · exact .refl s
  · split
    · exact .refl s
    · exact (moves_formMargin s).trans (moves_halRecompute _)

theorem moves_staleRecord (s : State) (x : Station) : Moves c s (s.staleRecord x) := by
  have m : Moves c s { s with vir := s.vir.setStale x } := .one (.vir s _)
  unfold State.staleRecord
  cases x
  · exact m
  · exact m.trans (moves_driveHanded _ _)
  · exact m.trans (moves_drumHanded _)

theorem moves_count (s : State) (g : Sgi) (h : s.sgi.shortened g)
    (ht : s.sgi.countsOk → g.txErrors ≤ 255 ∧ g.rxErrors ≤ 255) : Moves c s (s.count g) := by
  have m : Moves c s { s with sgi := { g with bus := g.byCounts } } := by
    have off : g.byCounts ≠ .off := by unfold Sgi.byCounts; split <;> simp
    refine .one (.sgi s { g with bus := g.byCounts } ⟨h.1, h.2.1, fun x => absurd x off⟩ fun k => ?_)
    have b := ht k
    unfold Sgi.countsOk Sgi.byCounts
    dsimp only
    refine ⟨fun x => ?_, fun x => ⟨?_, b.1⟩, by omega, b.2⟩
    · split at x
      · rename_i y; simpa using y
      · simp at x
    · split at x
      · simp at x
      · rename_i y
        simp only [Bool.and_eq_true, decide_eq_true_eq, not_and] at y
        omega
  unfold State.count
  dsimp only
  split
  · exact m.trans (moves_report _ _)
  · exact m

theorem moves_busOff (s : State) (g : Sgi) (h : s.sgi.shortened g)
    (ht : s.sgi.countsOk → g.txErrors ≤ 256 ∧ g.rxErrors ≤ 255) : Moves c s (s.busOff g) := by
  have m : Moves c s { s with sgi := { g.emptied with bus := .off, recovery := 0 } } := by
    refine .one (.sgi s { g.emptied with bus := .off, recovery := 0 } ⟨List.nil_sublist _, h.2.1, fun _ => .inr rfl⟩ fun k => ?_)
    exact ⟨fun x => by simp at x, fun x => by simp at x, (ht k).1, (ht k).2⟩
  exact m.trans (moves_report _ _)

theorem moves_transmitFailed (s : State) : Moves c s s.transmitFailed := by
  unfold State.transmitFailed
  dsimp only
  split
  · exact moves_busOff s _ ⟨List.Sublist.refl _, rfl, fun x => .inl x⟩ fun k => ⟨by dsimp only; omega, k.2.2.2⟩
  · rename_i h
    exact moves_count s _ ⟨List.Sublist.refl _, rfl, fun x => .inl x⟩ fun k => ⟨by dsimp only at h ⊢; omega, k.2.2.2⟩

theorem joined_counts {g : Sgi} (h : g.joined = true) (k : g.countsOk) : g.txErrors ≤ 255 := by
  simp only [Sgi.joined, Bool.or_eq_true, beq_iff_eq] at h
  rcases h with h | h
  · have := (k.1 h).1; omega
  · exact (k.2.1 h).2

theorem receives_joined {s : State} (h : s.receives = true) : s.sgi.joined = true := by
  simp only [State.receives, Bool.and_eq_true] at h
  exact h.2

theorem moves_recessive (s : State) : Moves c s s.recessive := by
  have j : Move c s { s with sgi := s.sgi.join } :=
    .sgi s _ ⟨List.Sublist.refl _, rfl, fun x => by simp [Sgi.join] at x⟩ fun _ =>
      ⟨fun _ => ⟨by simp [Sgi.join], by simp [Sgi.join]⟩, fun x => by simp [Sgi.join] at x, by simp [Sgi.join],
        by simp [Sgi.join]⟩
  unfold State.recessive
  split
  · split
    · exact .one j
    · exact .refl s
  · split
    · exact (Moves.one j).tail (.declaration _)
    · exact .one (.sgi s _ ⟨List.Sublist.refl _, rfl, fun x => .inl x⟩ id)
  · exact .refl s
  · exact .refl s

theorem moves_dominant (s : State) : Moves c s s.dominant := by
  unfold State.dominant
  split
  · rename_i h
    split
    · exact (Moves.one (.sgi s { s.sgi with rouseCount := 0, rouseWindow := 0 } ⟨List.Sublist.refl _, rfl, fun x => .inl x⟩ id)).trans
        (moves_wake _ false h)
    · exact .one (.sgi s _ ⟨List.Sublist.refl _, rfl, fun x => .inl x⟩ id)
  · exact .refl s

/-! ## Service requests -/

theorem moves_service (s : State) (t : Nat) (l : List Byte) (row : Byte → Bool) (answer : Byte → Byte → State)
    (h : s.sgi.replies < 3 → ∀ k a, Moves c s (answer k a)) : Moves c s (s.service t l row answer) := by
  unfold State.service
  split
  · split
    · split
      · split
        · exact moves_report s _
        · rename_i hn; exact h (by omega) _ _
      · exact .refl s
    · exact moves_report s _
  · exact .refl s

theorem moves_badArgument (s : State) (k a : Byte) (h : s.sgi.replies < 3) : Moves c s (s.badArgument k a) :=
  .one (.reply s _ _ _ _ h)

theorem moves_bankReply (s : State) (k a : Byte) (h : s.sgi.replies < 3) : Moves c s (s.bankReply k a) := by
  unfold State.bankReply
  split
  · exact .one (.reply s _ _ _ _ h)
  · exact moves_badArgument s k a h

theorem moves_clearHandings (b a : Banks) (s : State) : Moves c s (handAll (clearHandings b a) s) := by
  refine moves_handAll _ ?_ s
  intro f hf t
  simp only [clearHandings, List.mem_append] at hf
  rcases hf with hf | hf <;> split at hf <;> simp at hf <;> subst hf
  · exact .one (.declaration t)
  · exact moves_halRecompute t

theorem moves_clearBankReply (s : State) (k a : Byte) (hc : clears c = true) (h : s.sgi.replies < 3) :
    Moves c s (s.clearBankReply k a) := by
  unfold State.clearBankReply
  split
  · have m := (Moves.one (.reply s .ok k a zeroPayload h)).tail (.clearOne (c := c) _ (by assumption) hc)
    unfold State.clearTo
    refine Moves.trans ?_ (moves_clearHandings _ _ _)
    simpa using m
  · exact moves_badArgument s k a h

theorem moves_clearAllReply (s : State) (k a : Byte) (hc : clears c = true) (h : s.sgi.replies < 3) :
    Moves c s (s.clearAllReply k a) := by
  have m := (Moves.one (.reply s .ok k a zeroPayload h)).tail (.clearEvery (c := c) _ hc)
  exact m.trans (moves_clearHandings _ _ _)

theorem moves_peerReply (s : State) (k a : Byte) (h : s.sgi.replies < 3) : Moves c s (s.peerReply k a) := by
  unfold State.peerReply
  split
  · exact moves_badArgument s k a h
  · split <;> exact .one (.reply s _ _ _ _ h)

theorem moves_serviceRestart (s : State) (k a : Byte) (h : s.sgi.replies < 3) : Moves c s (s.serviceRestart k a) := by
  unfold State.serviceRestart
  split
  · rename_i hr
    simp only [State.inPhase, Bool.and_eq_true, beq_iff_eq] at hr
    refine (Moves.one (.owed s a)).trans (moves_enterRestart _ ?_ ?_ ?_) <;> simp [hr.1.1]
  · exact .one (.reply s _ _ _ _ h)

/-! ## MDC -/

theorem moves_stable (s : State) : Moves c s s.stable :=
  .one (.mdc s { s.mdc with refStable := true } rfl rfl rfl rfl rfl rfl)

theorem moves_endInit (s : State) (h : s.starting = true) : Moves c s s.endInit := by
  simp only [State.starting, Bool.and_eq_true, beq_iff_eq] at h
  unfold State.endInit
  split
  · exact (moves_stable s).trans (moves_enterSafe _)
  · exact (moves_stable s).trans (moves_enterConfig _ h.1)

theorem moves_markExpired (s : State) (b : Bool) : Moves c s (s.markExpired b) :=
  .one (.mdc s { s.mdc with windowExpired := b } rfl rfl rfl rfl rfl rfl)

theorem moves_lateClose (s : State) : Moves c s s.lateClose := by
  unfold State.lateClose
  split
  · exact moves_markExpired s false
  · exact moves_report s _

theorem moves_configured (s : State) (l : List Byte) (row : Byte → Bool) (late : State) (f : List Byte → State)
    (hl : Moves c s late) (h : s.windowOpen = true → ∀ x, Moves c s (f x)) : Moves c s (s.configured l row late f) := by
  unfold State.configured
  split
  · split
    · exact moves_report s _
    · split
      · split
        · split
          · split
            · rename_i hw; exact h hw _
            · exact hl
          · exact .refl s
        · exact moves_report s _
      · exact .refl s
  · exact .refl s

theorem moves_takeGroupFrame (s : State) (h : s.windowOpen = true) (l : List Byte) : Moves c s (s.takeGroupFrame l) := by
  unfold State.takeGroupFrame
  split
  · split
    · exact moves_report s _
    · dsimp only
      split
      · exact (Moves.one (.settings s _ _ _ _ _ _ _ h)).trans (moves_massRecompute _)
      · exact .one (.settings s _ _ _ _ _ _ _ h)
  · exact .refl s

theorem moves_brownedOut (s : State) : Moves c s s.brownedOut :=
  ((Moves.one (.mdc s { s.mdc with brownOut := true } rfl rfl rfl rfl rfl rfl)).trans (moves_report _ _)).trans
    (moves_countedCause _)

theorem moves_setKey (s : State) (k : Bool) : Moves c s (s.setKey k) :=
  .one (.mdc s { s.mdc with key := k } rfl rfl rfl rfl rfl rfl)

theorem moves_keyRises (s : State) : Moves .keyLineEdge s s.keyRises := by
  unfold State.keyRises
  split
  · rename_i h; exact (moves_setKey s true).trans (moves_wake _ false h)
  · rename_i h
    split
    · refine (moves_setKey s true).trans (moves_enterRestart _ ?_ ?_ (fun _ => rfl)) <;> simp [State.setKey, h]
    · exact moves_setKey s true
  all_goals exact moves_setKey s true

/-! ## Every command -/

/-- A condition on which a command acts: otherwise it leaves the state. -/
theorem moves_if {s t : State} {b : Bool} (h : b = true → Moves c s t) : Moves c s (if b then t else s) := by
  split
  · exact h (by assumption)
  · exact .refl s

theorem inPhase_and {s : State} {p : Phase} {b : Bool} (h : (s.inPhase p && b) = true) : s.inPhase p = true := by
  simp only [Bool.and_eq_true] at h
  exact h.1

/-- Every command is a run of moves, and none stops the machine. -/
theorem exec_moves (c : Instr) (s : State) : ∃ t, exec c s = .next t ∧ Moves c s t := by
  cases c <;> refine ⟨_, rfl, moves_conclude s ?_⟩
  case powerOn => exact .one (.power s _ _ _ _ _ _ rfl)
  case initEnd => exact moves_if fun h => moves_endInit s (by simp only [Bool.and_eq_true] at h; exact h.1)
  case clockFailure => exact moves_if fun _ => moves_reportAndSafe s _
  case wheelSample => exact moves_sampleIf s _ _ _
  case noiseOverrun => exact moves_sampleIf s _ _ _
  case amplitudeLoss => exact moves_sampleIf s _ _ _
  case cleanWindowRecovery => exact moves_sampleIf s _ _ _
  case locked => exact moves_sampleIf s _ _ _
  case lockNotAchieved => exact moves_sampleIf s _ _ _
  case stationaryAsserted => exact moves_sampleIf s _ _ _
  case breachVelocityTimeExpiry => exact moves_sampleIf s _ _ _
  case accelerometerReading => exact moves_if fun _ => moves_accelRead s _
  case accelerometerWindowFault => exact moves_if fun _ => moves_accelRead s _
  case gradeDisagreement => exact moves_if fun _ => moves_accelRead s _
  case loadReading => exact moves_if fun _ => moves_loadRead s _
  case loadInputFault => exact moves_if fun _ => moves_loadRead s _
  case declaration => exact moves_declarationArrives s _ _
  case peerStale => exact moves_if fun _ => moves_peerStale s _
  case peerExpired => exact moves_if fun _ => moves_peerExpired s _ _
  case alert => exact moves_alertArrives s _ _
  case lastAlertRemoval => exact moves_if fun _ => .one (.pvtDrop s _)
  case cabStatus => exact moves_stationFrame s _ _ _ fun _ => .one (.vir s _)
  case driveDemand =>
    exact moves_stationFrame s _ _ _ fun d =>
      (Moves.one (.vir s { s.vir with drive := some (d, RecordAge.new) })).trans (moves_driveHanded _ _)
  case drumStatus =>
    exact moves_stationFrame s _ _ _ fun d =>
      (Moves.one (.vir s { s.vir with drum := some (d, RecordAge.new) })).trans (moves_drumHanded _)
  case recordStale => exact moves_if fun _ => moves_staleRecord s _
  case captureQualifyingExpiry =>
    refine moves_if fun h => moves_enterCapturing s ?_
    simp only [State.captureConditions, Bool.and_eq_true] at h
    exact h.1.1.1.1.1
  case captureSettleExpiry =>
    exact moves_if fun h => moves_enterHolding (.refl s) _ _ (inHold_of_inPhase (inPhase_and h) rfl)
  case releaseRampStep =>
    split
    · rename_i r hr; exact moves_if fun _ => moves_rampRelease s r hr
    · exact .refl s
  case releaseTimeExpiry =>
    split
    · exact moves_if fun h => moves_abortRelease s (inHold_of_inPhase (inPhase_and h) rfl)
    · exact .refl s
  case insufficiencyTimeExpiry =>
    exact moves_if fun h => moves_insufficientFor500 s (by simp only [Bool.and_eq_true] at h; exact h.1)
  case driverAbsentTimeExpiry =>
    refine moves_if fun h => moves_trigger (.refl s) (inHold_capturingHolding ?_)
    rw [Bool.and_eq_true] at h
    exact h.2
  case secureTimeExpiry =>
    refine moves_if fun h => moves_trigger (.refl s) (inHold_capturingHolding ?_)
    rw [Bool.and_eq_true] at h
    exact h.1
  case handoverSettleExpiry =>
    split
    · rename_i x hx
      refine moves_if fun h => moves_endSettle s x hx (inHold_of_inPhase (p := .securing) ?_ rfl)
      simp only [Bool.and_eq_true] at h
      exact h.1.1
    · exact .refl s
  case handoverRampStep =>
    split
    · rename_i x hx
      refine moves_if fun h => moves_rampHandover s x hx (inHold_of_inPhase (p := .securing) ?_ rfl)
      simp only [Bool.and_eq_true] at h
      exact h.1.1
    · exact .refl s
  case wakeHoldExpiry =>
    refine moves_if fun h => moves_answerWatch s ?_
    simp only [Bool.and_eq_true] at h
    exact h.2
  case pressureReading => exact moves_pressureIf s _ _
  case chamberSensorOutOfRange => exact moves_pressureIf s _ _
  case settledReport => exact moves_pressureIf s _ _
  case applyTimeout => exact moves_pressureIf s _ _
  case ventTimeout => exact moves_pressureIf s _ _
  case readbackSample => exact moves_readbackTaken s _ _ _
  case readbackMismatch h a v =>
    split
    · exact .refl s
    · exact moves_readbackTaken s _ _ _
  case driveTimeExpiry => exact moves_if fun _ => .one (.pad s { s.pad with drive := .idle, driveTime := 0 } rfl rfl rfl)
  case springReading => exact moves_springIf s _ _
  case springSensorOutOfRange => exact moves_springIf s _ _
  case confirmTimeout =>
    exact moves_if fun _ =>
      (Moves.one (.pad s { s.pad with watch := .timedOut } rfl rfl rfl)).trans (moves_confirmTimedOut _)
  case confirmLost => exact moves_springIf s _ _
  case declarationTimerExpiry =>
    exact moves_if fun _ =>
      (Moves.one (.sgi s { s.sgi with declarationTimer := 0 } ⟨List.Sublist.refl _, rfl, fun x => .inl x⟩ id)).tail (.declaration _)
  case frameOffer =>
    refine .one (.sgi s _ ?_ ?_) <;> unfold Sgi.offer <;> split <;> try split
    all_goals first
      | exact ⟨List.Sublist.refl _, rfl, fun x => .inl x⟩
      | exact id
  case arbitrationLost => exact .one (.sgi s { s.sgi with inProgress := none } ⟨List.Sublist.refl _, rfl, fun x => .inl x⟩ id)
  case transmitError => exact moves_if fun _ => moves_transmitFailed s
  case transmitSuccess =>
    split
    · rename_i t ht
      refine moves_if fun h => moves_count s _ ⟨?_, rfl, fun x => .inl x⟩ fun k => ⟨?_, k.2.2.2⟩
      · unfold Sgi.sent
        dsimp only
        split
        · exact List.Sublist.refl _
        · exact List.eraseP_sublist
      · have := joined_counts h k
        dsimp only
        omega
    · exact .refl s
  case receiveError =>
    exact moves_if fun h => moves_count s _ ⟨List.Sublist.refl _, rfl, fun x => .inl x⟩ fun k =>
      ⟨joined_counts (g := s.sgi) (receives_joined h) k, by dsimp only; omega⟩
  case recessiveRun => exact moves_recessive s
  case qualifyingDominantPhase => exact moves_dominant s
  case rouseWindowExpiry =>
    exact moves_if fun _ => .one (.sgi s { s.sgi with rouseCount := 0, rouseWindow := 0 } ⟨List.Sublist.refl _, rfl, fun x => .inl x⟩ id)
  case keyLineEdge => exact moves_keyRises s
  case readStatus => exact moves_service s _ _ _ _ fun h _ _ => .one (.reply s _ _ _ _ h)
  case readBank => exact moves_service s _ _ _ _ fun h k a => moves_bankReply s k a h
  case clearBank => exact moves_service s _ _ _ _ fun h k a => moves_clearBankReply s k a rfl h
  case clearAll => exact moves_service s _ _ _ _ fun h k a => moves_clearAllReply s k a rfl h
  case readPeer => exact moves_service s _ _ _ _ fun h k a => moves_peerReply s k a h
  case restart => exact moves_service s _ _ _ _ fun h k a => moves_serviceRestart s k a h
  case undefinedServiceCommand => exact moves_service s _ _ _ _ fun h k a => moves_badArgument s k a h
  case configureGroup => exact moves_configured s _ _ _ _ (moves_report s _) fun h l => moves_takeGroupFrame s h l
  case configureClose =>
    refine moves_configured s _ _ _ _ (moves_lateClose s) fun h _ => moves_enterRun s ?_
    simp only [State.windowOpen, Bool.and_eq_true, beq_iff_eq] at h
    exact h.1
  case undefinedConfigureGroup => exact moves_configured s _ _ _ _ (moves_report s _) fun _ _ => moves_report s _
  case windowExpiry =>
    refine moves_if fun h => (moves_markExpired s true).trans (moves_enterRun (s.markExpired true) ?_)
    simp only [Bool.and_eq_true, beq_iff_eq] at h
    exact h.1
  case reliefTimeExpiry =>
    refine moves_if fun h => .one (.relieved s ?_)
    simp only [Bool.and_eq_true, beq_iff_eq] at h
    exact h.1
  case brownOut => exact moves_brownedOut s
  case reinitialisationComplete =>
    refine moves_if fun h => ?_
    simp only [Bool.and_eq_true, beq_iff_eq] at h
    exact (Moves.one (.mdc s { s.mdc with refStable := true, brownOut := false } rfl rfl rfl rfl rfl rfl)).trans
      (moves_resumeRun _ h.1)
  case restartTimeout => exact moves_if fun _ => moves_reportAndSafe s _
  case safeDwellExpiry => exact moves_if fun _ => .one (.mdc s { s.mdc with dwellDone := true } rfl rfl rfl rfl rfl rfl)
  case keyLineFallingEdge => exact moves_setKey s false
  case successfulReception =>
    exact moves_if fun h => moves_count s _ ⟨List.Sublist.refl _, rfl, fun x => .inl x⟩ fun k =>
      ⟨joined_counts (g := s.sgi) (receives_joined h) k, by have := k.2.2.2; dsimp only; omega⟩

/-- What a step does: the front command's moves on the state with the queue's rest, or a tick. -/
theorem step_cases (s : State) :
    (∃ c l t, s.pending = c :: l ∧ step s = .next t ∧ Moves c (s.withPending l) t)
      ∨ (s.pending = [] ∧ step s = .next s.tick) := by
  unfold step
  split
  · rename_i c l h
    obtain ⟨t, ht, hm⟩ := exec_moves c (s.withPending l)
    exact .inl ⟨c, l, t, h, ht, hm⟩
  · rename_i h
    exact .inr ⟨h, rfl⟩

end Sys2Proof.Machine
end

