-- ==== Sys2Proof/Laws/Steady.lean ====
section
/-! SUPPORT. Where nothing waits to be acted on, the end of a command only ends lapsed times and draws the next choices. -/

namespace Sys2Proof.Machine

/-- Rounds of a state that one round leaves as it is. -/
theorem reactFor_fixed {before s : State} (h : State.react before s = s) (n : Nat) : reactFor before n s = s := by
  induction n with
  | zero => rfl
  | succ n ih => rw [reactFor, h, ih]

/-- The end of a command in a state that one round leaves as it is. -/
theorem conclude_fixed {before s : State} (h : State.react before s = s) : conclude before s = s.lapse.drawn := by
  rw [conclude, reactFor_fixed h]

/-- A steady state is left as it is, whatever the state before. -/
theorem react_steady {s : State} (before : State) (h : s.steady) : State.react before s = s := by
  rcases h with h | ⟨h, k⟩ | ⟨h, k, -⟩
  · simp [State.react, h]
  · simp [State.react, h, State.reactSafe, k]
  · obtain ⟨m, p⟩ : s.mdc.mode = .run ∧ s.hpc.phase = .released := by simpa [State.inPhase] using h
    obtain ⟨d, e⟩ := Option.isSome_iff_exists.mp k
    simp [State.react, m, State.reactRun, p, State.followsNow, e]

/-- A retaining state is left as it is. -/
theorem react_retaining {s : State} (before : State) (h : s.retaining) : State.react before s = s := by
  obtain ⟨h, k, d, -⟩ := h
  obtain ⟨m, p⟩ : s.mdc.mode = .run ∧ s.hpc.phase = .secured := by simpa [State.inPhase] using h
  obtain ⟨x, e⟩ := Option.isSome_iff_exists.mp k
  simp [State.react, m, State.reactRun, p, d, State.requestsWatch, e]

/-- INIT and RESTART are left as they are. -/
theorem react_apart {s : State} (before : State) (h : s.mdc.mode = .init ∨ s.mdc.mode = .restart) :
    State.react before s = s := by
  rcases h with h | h <;> simp [State.react, h]

end Sys2Proof.Machine
end

