-- ==== Sys2Proof/WellFormed.lean ====
section
/-! DEFINITION. Which commands can reach the block at all: the ranges the spec gives the operands. The meanings are
defined on every command; this check says which of them the surroundings can send. -/

namespace Sys2Proof

/-- A frame of the CAN segment carries at most eight data bytes (R167 lists no longer one). -/
def frameOk (data : List Byte) : Bool := data.length ≤ 8

/-- Node numbers run from 1 to 8 (Conventions, "Node number and peers"). -/
def nodeOk (n : Nat) : Bool := 1 ≤ n && n ≤ 8

/-- An accelerometer component lies within −2,000..+2,000 mg (R43). -/
def accelOk : Option Accel → Bool
  | none => true
  | some a => a.x.natAbs ≤ 2000 && a.y.natAbs ≤ 2000 && a.z.natAbs ≤ 2000

/-- A service request row names the command code its frame carries (R182), where the frame has its right length. -/
def serviceOk (ok : Byte → Bool) (target : Nat) (data : List Byte) : Bool :=
  nodeOk target && frameOk data &&
    match data with
    | [c, _] => ok c
    | _ => true

/-- The configure rows name the group their frame carries (R187), where the frame has its right length. -/
def configureOk (ok : Byte → Bool) (data : List Byte) : Bool :=
  frameOk data && (data.length != 8 || ok (data.getD 1 0))

/-- The ranges of the operands, row by row. -/
def wellFormed : Instr → Bool
  | .accelerometerReading r => accelOk r
  | .accelerometerWindowFault r => accelOk r
  | .gradeDisagreement r => accelOk r
  | .declaration n d => nodeOk n && frameOk d
  | .alert n d => nodeOk n && frameOk d
  | .peerStale n => nodeOk n
  | .peerExpired n => nodeOk n
  | .lastAlertRemoval n => nodeOk n
  | .cabStatus d => frameOk d
  | .driveDemand d => frameOk d
  | .drumStatus d => frameOk d
  | .readStatus t d => serviceOk (· == 1#8) t d
  | .readBank t d => serviceOk (· == 2#8) t d
  | .clearBank t d => serviceOk (· == 3#8) t d
  | .clearAll t d => serviceOk (· == 4#8) t d
  | .readPeer t d => serviceOk (· == 5#8) t d
  | .restart t d => serviceOk (· == 6#8) t d
  | .undefinedServiceCommand t d => serviceOk (fun c => c == 0#8 || 6 < c.toNat) t d
  | .configureGroup d => configureOk (fun g => 1 ≤ g.toNat && g.toNat ≤ 5) d
  | .configureClose d => configureOk (· == 0#8) d
  | .undefinedConfigureGroup d => configureOk (fun g => 6 ≤ g.toNat) d
  | .powerOn .. => true
  | .initEnd => true
  | .clockFailure => true
  | .wheelSample .. => true
  | .noiseOverrun .. => true
  | .amplitudeLoss .. => true
  | .cleanWindowRecovery .. => true
  | .locked .. => true
  | .lockNotAchieved .. => true
  | .stationaryAsserted .. => true
  | .breachVelocityTimeExpiry .. => true
  | .loadReading _ => true
  | .loadInputFault _ => true
  | .recordStale _ => true
  | .captureQualifyingExpiry => true
  | .captureSettleExpiry => true
  | .releaseRampStep => true
  | .releaseTimeExpiry => true
  | .insufficiencyTimeExpiry => true
  | .driverAbsentTimeExpiry => true
  | .secureTimeExpiry => true
  | .handoverSettleExpiry => true
  | .handoverRampStep => true
  | .wakeHoldExpiry => true
  | .pressureReading _ => true
  | .chamberSensorOutOfRange _ => true
  | .settledReport _ => true
  | .applyTimeout _ => true
  | .ventTimeout _ => true
  | .readbackSample .. => true
  | .readbackMismatch .. => true
  | .driveTimeExpiry => true
  | .springReading _ => true
  | .springSensorOutOfRange _ => true
  | .confirmTimeout => true
  | .confirmLost _ => true
  | .declarationTimerExpiry => true
  | .frameOffer => true
  | .arbitrationLost => true
  | .transmitError => true
  | .transmitSuccess => true
  | .receiveError => true
  | .recessiveRun => true
  | .qualifyingDominantPhase => true
  | .rouseWindowExpiry => true
  | .keyLineEdge => true
  | .windowExpiry => true
  | .reliefTimeExpiry => true
  | .brownOut => true
  | .reinitialisationComplete => true
  | .restartTimeout => true
  | .safeDwellExpiry => true
  | .keyLineFallingEdge => true
  | .successfulReception => true

end Sys2Proof
end

