-- ==== Sys2Proof/Tests/Slice0.lean ====
section
/-! SUPPORT. The row's own tests: the well-formedness checks, the spec's worked figures, and a witness for the
hypotheses of each obligation, clause by clause. -/

namespace Sys2Proof.Machine.Tests

/-! ## States to test on -/

/-- A tracker in TRACKING with its last accepted samples on the cosine's crest. -/
def tracking : Wmt :=
  { Wmt.initial with sampling := true, fresh := false, signal := .tracking, positionValid := true, locked := true
                     stationary := true, stationaryTime := ms 200, highGain := false
                     cosine := { Channel.initial with last := 1400 } }

/-- Node 3, spring-fitted, at work in a mode and a phase, with a driver at the wheel and no drive demand. -/
def node (m : Mode) (p : Phase) : State :=
  { State.reset with
    wmt := tracking
    glu := { Glu.initial with reading := true }
    vir := { Vir.initial with
             cab := some ({ ignition := true, seat := true, door := false, rearControl := false, switchAuto := true },
                          { age := 0, fresh := true }) }
    hpc := { Hpc.initial with phase := p }
    cpr := { Cpr.initial with reading := true, sensor := .valid, regulating := m == .run && p.isHold
                              valves := if m == .run && p.isHold then .holdOnly else .passThrough }
    pad := { Pad.initial with reading := true, sensor := .valid }
    sgi := { Sgi.initial with bus := .active }
    mdc := { Mdc.initial with mode := m, straps := some { number := 3, spring := true, pol := false }, key := true
                              refStable := true, safeStationary := true } }

/-- The node with forward drive demand of 1,000 N. -/
def demanding (s : State) : State :=
  { s with vir := { s.vir with drive := some ({ gear := .forward, force := 100 }, { age := 0, fresh := true }) } }

/-- In the configuration window. -/
abbrev atConfig : State := node .config .released

/-- In SAFE with the vehicle found stationary. -/
abbrev inSafe : State := node .safe .holding

/-- In RELEASED under drive demand. -/
abbrev driving : State := demanding (node .run .released)

/-- SECURED with the ignition off and the line standing. -/
def parked (m : Mode) : State :=
  let s := node m .secured
  { s with vir := { s.vir with cab := s.vir.cab.map (fun c => ({ c.1 with ignition := false }, c.2)) }
           hpc := { s.hpc with request := true }
           pad := { s.pad with asserted := true, hpcRequest := .assert } }

/-- SECURED with service retained set. -/
abbrev retaining : State := { node .run .secured with hpc := { Hpc.initial with phase := .secured, retained := some 40 } }

/-- The same, rolling above the breach velocity for 99.9 ms. -/
abbrev rolling : State :=
  { retaining with wmt := { tracking with v := 100000, stationary := false }
                   csu := { Csu.initial 55 with anchor := .held 0, breachTime := 999 } }

/-- A frame of the node's own. -/
abbrev oneFrame : TxFrame := { kind := .reply, id := frameId 3 .reply, data := [0, 1, 0, 0, 0, 0, 0, 0] }

/-! ## Witnesses of the hypotheses -/

theorem witness_RecomputationDelivers_1_a : ∃ (s : State),
    s.mdc.mode = .run ∧ s.hal.lanes = .agreed ∧ s.free.laneFault = none :=
  ⟨(node .run .capturing), by decide⟩

theorem witness_RecomputationDelivers_1_b : ∃ (s : State),
    s.mdc.mode = .run ∧ s.hal.lanes = .agreed ∧ s.free.laneFault = none :=
  ⟨(node .run .holding), by decide⟩

theorem witness_RecomputationDelivers_1_c : ∃ (s : State),
    s.mdc.mode = .run ∧ s.hal.lanes = .agreed ∧ s.free.laneFault = none :=
  ⟨driving, by decide⟩

theorem witness_RecomputationDelivers_1_d : ∃ (s : State),
    s.mdc.mode = .run ∧ s.hal.lanes = .agreed ∧ s.free.laneFault = none :=
  ⟨{ (node .run .releasing) with hpc := { (node .run .releasing).hpc with release := some { preHold := 300, origin := none, travel := 0, time := sec 4, rampTime := 25, goal := 0 } } },
      by decide⟩

theorem witness_RecomputationDelivers_1_e : ∃ (s : State),
    s.mdc.mode = .run ∧ s.hal.lanes = .agreed ∧ s.free.laneFault = none :=
  ⟨retaining, by decide⟩

theorem witness_RecomputationDelivers_2_a : ∃ (s : State),
    (s.mdc.mode ≠ .run ∨ s.hal.lanes = .mismatched) :=
  ⟨atConfig, by decide⟩

theorem witness_RecomputationDelivers_2_b : ∃ (s : State),
    (s.mdc.mode ≠ .run ∨ s.hal.lanes = .mismatched) :=
  ⟨{ (node .run .holding) with hal := { (node .run .holding).hal with lanes := .mismatched } }, by decide⟩

theorem witness_LaneMismatchRestarts_1 : ∃ (s : State) (f : LaneFault),
    s.mdc.mode = .run ∧ s.hal.lanes = .agreed ∧ s.free.laneFault = some f ∧ f.after = 0 ∧ f.result ≠ s.laneResult ∧
    s.frb.banks.node = none ∧ s.pad.sensor ≠ .outOfRange ∧ s.mdc.restartCounter < s.mdc.settings.restartLimit :=
  ⟨{ (node .run .holding) with free := { (node .run .holding).free with laneFault := some { after := 0, result := Hal.initialResult } }, mdc := { (node .run .holding).mdc with restartCounter := 3 } },
      { after := 0, result := Hal.initialResult }, by decide⟩

theorem witness_LaneMismatchRestarts_2 : ∃ (s : State) (f : LaneFault),
    s.mdc.mode = .run ∧ s.hal.lanes = .agreed ∧ s.free.laneFault = some f ∧ f.after = 0 ∧ f.result ≠ s.laneResult ∧
    s.frb.banks.node = none ∧ s.mdc.settings.restartLimit ≤ s.mdc.restartCounter :=
  ⟨{ (node .run .holding) with free := { (node .run .holding).free with laneFault := some { after := 0, result := Hal.initialResult } }, mdc := { (node .run .holding).mdc with restartCounter := 4 } },
      { after := 0, result := Hal.initialResult }, by decide⟩

theorem witness_SevereReportResponse_1_a : ∃ (r : Report),
    r.severity = .severe :=
  ⟨chamberSensorReport, by decide⟩

theorem witness_SevereReportResponse_1_b : ∃ (r : Report),
    r.severity = .severe :=
  ⟨chamberSensorReport, by decide⟩

theorem witness_SevereReportResponse_1_c : ∃ (r : Report),
    r.severity = .severe :=
  ⟨chamberSensorReport, by decide⟩

theorem witness_SevereReportResponse_2 : ∃ (s : State) (r : Report),
    r.severity ≠ .severe ∧ s.free.laneFault = none :=
  ⟨(node .run .holding), loadReport, by decide⟩

theorem witness_EscalationRule_1_a : ∃ (s : State) (e : Int),
    s.inHold = true ∧ s.csu.effective = some e ∧ 0 < s.mdc.settings.escalateInterval ∧ s.csu.ownLevel ≤ 4 ∧
    s.free.laneFault = none :=
  ⟨{ (node .run .holding) with csu := { (node .run .holding).csu with effective := some 55 } }, 55, by decide⟩

theorem witness_EscalationRule_1_b : ∃ (s : State) (e : Int),
    s.inHold = true ∧ s.csu.effective = some e ∧ 0 < s.mdc.settings.escalateInterval ∧ s.csu.ownLevel ≤ 4 ∧
    s.free.laneFault = none :=
  ⟨{ (node .run .holding) with csu := { (node .run .holding).csu with effective := some 54 } }, 54, by decide⟩

theorem witness_EscalationRule_1_c : ∃ (s : State) (e : Int),
    s.inHold = true ∧ s.csu.effective = some e ∧ 0 < s.mdc.settings.escalateInterval ∧ s.csu.ownLevel ≤ 4 ∧
    s.free.laneFault = none :=
  ⟨{ (node .run .holding) with csu := { (node .run .holding).csu with effective := some 200, ownLevel := 3, nodeLevel := 3 } },
      200, by decide⟩

theorem witness_EscalationRule_2_a : ∃ (s : State) (e : Int),
    s.inHold = true ∧ s.csu.effective = some e :=
  ⟨{ (node .run .holding) with csu := { (node .run .holding).csu with effective := some 15 } }, 15, by decide⟩

theorem witness_EscalationRule_2_b : ∃ (s : State) (e : Int),
    s.inHold = true ∧ s.csu.effective = some e :=
  ⟨{ (node .run .capturing) with csu := { (node .run .capturing).csu with effective := some 14 } }, 14, by decide⟩

theorem witness_EscalationRule_2_c : ∃ (s : State) (e : Int),
    s.inHold = true ∧ s.csu.effective = some e :=
  ⟨{ (node .run .secured) with csu := { (node .run .secured).csu with effective := some 120, breach := true, notice := true } },
      120, by decide⟩

theorem witness_EscalationRule_3_a : ∃ (s : State) (e : Int) (h : HandoverRecord),
    s.inPhase .securing = true ∧ s.csu.effective = some e ∧ s.csu.notice = false ∧ s.csu.noticeBase +
    s.mdc.settings.noticeThreshold ≤ e ∧ s.hpc.handover = some h ∧ (h.stage = .settle ∨ h.stage = .ramp) ∧
    s.csu.ownLevel ≤ 4 ∧ s.free.laneFault = none :=
  ⟨{ (node .run .securing) with hpc := { (node .run .securing).hpc with handover := some { preHold := 300, stage := .settle, stageTime := 0, noSpringReported := false } }, csu := { (node .run .securing).csu with effective := some 15 } },
      15, { preHold := 300, stage := .settle, stageTime := 0, noSpringReported := false }, by decide⟩

theorem witness_EscalationRule_3_b : ∃ (s : State) (e : Int) (h : HandoverRecord),
    s.inPhase .securing = true ∧ s.csu.effective = some e ∧ s.csu.notice = false ∧ s.csu.noticeBase +
    s.mdc.settings.noticeThreshold ≤ e ∧ s.hpc.handover = some h ∧ (h.stage = .settle ∨ h.stage = .ramp) ∧
    s.csu.ownLevel ≤ 4 ∧ s.free.laneFault = none :=
  ⟨{ (node .run .securing) with hpc := { (node .run .securing).hpc with handover := some { preHold := 300, stage := .ramp, stageTime := 0, noSpringReported := false } }, csu := { (node .run .securing).csu with effective := some 90, ownLevel := 4, nodeLevel := 4 } },
      90, { preHold := 300, stage := .ramp, stageTime := 0, noSpringReported := false }, by decide⟩

theorem witness_EscalationRule_4_a : ∃ (s : State) (e : Int),
    s.inHold = true ∧ s.csu.effective = some e ∧ s.csu.breach = false ∧ s.mdc.settings.breachThreshold ≤ e ∧
    s.free.laneFault = none :=
  ⟨{ (node .run .holding) with csu := { (node .run .holding).csu with effective := some 120 } }, 120, by decide⟩

theorem witness_EscalationRule_4_b : ∃ (s : State) (e : Int),
    s.inHold = true ∧ s.csu.effective = some e ∧ s.csu.breach = false ∧ s.mdc.settings.breachThreshold ≤ e ∧
    s.free.laneFault = none :=
  ⟨{ retaining with csu := { retaining.csu with effective := some 120 } }, 120, by decide⟩

theorem witness_EscalationRule_4_c : ∃ (s : State) (e : Int),
    s.inHold = true ∧ s.csu.effective = some e ∧ s.csu.breach = false ∧ s.mdc.settings.breachThreshold ≤ e ∧
    s.free.laneFault = none :=
  ⟨{ (node .run .secured) with csu := { (node .run .secured).csu with effective := some 120 } }, 120, by decide⟩

theorem witness_EscalationRule_4_d : ∃ (s : State) (e : Int),
    s.inHold = true ∧ s.csu.effective = some e ∧ s.csu.breach = false ∧ s.mdc.settings.breachThreshold ≤ e ∧
    s.free.laneFault = none :=
  ⟨{ (node .run .releasing) with csu := { (node .run .releasing).csu with effective := some 120 }, hpc := { (node .run .releasing).hpc with release := some { preHold := 300, origin := none, travel := 0, time := sec 4, rampTime := 25, goal := 0 } } },
      120, by decide⟩

theorem witness_EscalationRule_4_e : ∃ (s : State) (e : Int),
    s.inHold = true ∧ s.csu.effective = some e ∧ s.csu.breach = false ∧ s.mdc.settings.breachThreshold ≤ e ∧
    s.free.laneFault = none :=
  ⟨{ (node .run .securing) with hpc := { (node .run .securing).hpc with handover := some { preHold := 300, stage := .ramp, stageTime := 0, noSpringReported := false } }, csu := { (node .run .securing).csu with effective := some 120 } },
      120, by decide⟩

theorem witness_EscalationRule_4_f : ∃ (s : State) (e : Int),
    s.inHold = true ∧ s.csu.effective = some e ∧ s.csu.breach = false ∧ s.mdc.settings.breachThreshold ≤ e ∧
    s.free.laneFault = none :=
  ⟨{ (node .run .securing) with hpc := { (node .run .securing).hpc with handover := some { preHold := 300, stage := .wait, stageTime := 0, noSpringReported := false } }, csu := { (node .run .securing).csu with effective := some 120 } },
      120, by decide⟩

theorem witness_EscalationRule_4_g : ∃ (s : State) (e : Int),
    s.inHold = true ∧ s.csu.effective = some e ∧ s.csu.breach = false ∧ s.mdc.settings.breachThreshold ≤ e ∧
    s.free.laneFault = none :=
  ⟨{ (node .run .capturing) with csu := { (node .run .capturing).csu with effective := some 121 }, hpc := { (node .run .capturing).hpc with handoverFailed := true } },
      121, by decide⟩

theorem witness_EscalationRule_5_a : ∃ (s : State) (entry : Bool),
    s.inHold = true ∧ s.csu.anchor ≠ .absent ∧ (s.csu.effective.isSome = true ∨ entry = true) ∧ s.csu.ownValid = false
    ∧ (∀ p ∈ s.pvt.entries, p.freshness = .fresh → p.decl.phase.isHold = true → p.decl.creepValid = false) ∧
    s.frb.responseActive = false ∧ s.pad.sensor ≠ .outOfRange ∧ s.free.laneFault = none :=
  ⟨{ (node .run .holding) with csu := { (node .run .holding).csu with effective := some 3, ownValid := false, anchor := .held 0 } },
      false, by decide⟩

theorem witness_EscalationRule_5_b : ∃ (s : State) (entry : Bool),
    s.inHold = true ∧ s.csu.anchor ≠ .absent ∧ (s.csu.effective.isSome = true ∨ entry = true) ∧ s.csu.ownValid = false
    ∧ (∀ p ∈ s.pvt.entries, p.freshness = .fresh → p.decl.phase.isHold = true → p.decl.creepValid = false) ∧
    s.frb.responseActive = false ∧ s.pad.sensor ≠ .outOfRange ∧ s.free.laneFault = none :=
  ⟨{ (node .run .securing) with csu := { (node .run .securing).csu with effective := some 3, ownValid := false, anchor := .held 0 }, hpc := { (node .run .securing).hpc with handover := some { preHold := 300, stage := .wait, stageTime := 0, noSpringReported := false } } },
      false, by decide⟩

theorem witness_EscalationRule_5_c : ∃ (s : State) (entry : Bool),
    s.inHold = true ∧ s.csu.anchor ≠ .absent ∧ (s.csu.effective.isSome = true ∨ entry = true) ∧ s.csu.ownValid = false
    ∧ (∀ p ∈ s.pvt.entries, p.freshness = .fresh → p.decl.phase.isHold = true → p.decl.creepValid = false) ∧
    s.frb.responseActive = false ∧ s.pad.sensor ≠ .outOfRange ∧ s.free.laneFault = none :=
  ⟨{ (node .run .releasing) with csu := { (node .run .releasing).csu with effective := some 3, ownValid := false, anchor := .held 0 }, hpc := { (node .run .releasing).hpc with release := some { preHold := 300, origin := none, travel := 0, time := sec 4, rampTime := 25, goal := 0 } } },
      false, by decide⟩

theorem witness_EscalationRule_5_d : ∃ (s : State) (entry : Bool),
    s.inHold = true ∧ s.csu.anchor ≠ .absent ∧ (s.csu.effective.isSome = true ∨ entry = true) ∧ s.csu.ownValid = false
    ∧ (∀ p ∈ s.pvt.entries, p.freshness = .fresh → p.decl.phase.isHold = true → p.decl.creepValid = false) ∧
    s.frb.responseActive = false ∧ s.pad.sensor ≠ .outOfRange ∧ s.free.laneFault = none :=
  ⟨{ retaining with csu := { retaining.csu with effective := some 3, ownValid := false, anchor := .held 0 } }, false,
      by decide⟩

theorem witness_EscalationRule_5_e : ∃ (s : State) (entry : Bool),
    s.inHold = true ∧ s.csu.anchor ≠ .absent ∧ (s.csu.effective.isSome = true ∨ entry = true) ∧ s.csu.ownValid = false
    ∧ (∀ p ∈ s.pvt.entries, p.freshness = .fresh → p.decl.phase.isHold = true → p.decl.creepValid = false) ∧
    s.frb.responseActive = false ∧ s.pad.sensor ≠ .outOfRange ∧ s.free.laneFault = none :=
  ⟨{ (node .run .capturing) with csu := { (node .run .capturing).csu with anchor := .pending } }, true, by decide⟩

theorem witness_EscalationRule_5_f : ∃ (s : State) (entry : Bool),
    s.inHold = true ∧ s.csu.anchor ≠ .absent ∧ (s.csu.effective.isSome = true ∨ entry = true) ∧ s.csu.ownValid = false
    ∧ (∀ p ∈ s.pvt.entries, p.freshness = .fresh → p.decl.phase.isHold = true → p.decl.creepValid = false) ∧
    s.frb.responseActive = false ∧ s.pad.sensor ≠ .outOfRange ∧ s.free.laneFault = none :=
  ⟨{ (node .run .holding) with csu := { (node .run .holding).csu with anchor := .pending, effective := some 3 }, hpc := { (node .run .holding).hpc with handoverFailed := true } },
      false, by decide⟩

theorem witness_InitEndsInConfigOrSafe_1 : ∃ (s : State),
    s.starting = true ∧ ms 25 ≤ s.mdc.initTime ∧ s.mdc.pendingSafe = false :=
  ⟨{ (node .init .released) with mdc := { (node .init .released).mdc with initTime := ms 25 } }, by decide⟩

theorem witness_InitEndsInConfigOrSafe_2 : ∃ (s : State),
    s.starting = true ∧ ms 25 ≤ s.mdc.initTime ∧ s.mdc.pendingSafe = true :=
  ⟨{ (node .init .released) with mdc := { (node .init .released).mdc with initTime := ms 25, pendingSafe := true } },
      by decide⟩

theorem witness_InitEndsInConfigOrSafe_3 : ∃ (s : State),
    s.starting = true ∧ ms 50 ≤ s.mdc.initTime ∧ s.mdc.refStable = false ∧ s.frb.banks.node = none :=
  ⟨{ (node .init .released) with mdc := { (node .init .released).mdc with initTime := ms 50, refStable := false } },
      by decide⟩

theorem witness_ConfigureFramesInTheWindow_1_a : ∃ (s : State) (m g : Byte),
    s.receives = true ∧ s.windowOpen = true ∧ (m = 0 ∨ m.toNat = s.number) ∧ (1 ≤ g.toNat ∧ g.toNat ≤ 5) ∧
    s.mdc.written.of g.toNat = false :=
  ⟨atConfig, 0, 1, by decide⟩

theorem witness_ConfigureFramesInTheWindow_1_b : ∃ (s : State) (m g : Byte),
    s.receives = true ∧ s.windowOpen = true ∧ (m = 0 ∨ m.toNat = s.number) ∧ (1 ≤ g.toNat ∧ g.toNat ≤ 5) ∧
    s.mdc.written.of g.toNat = false :=
  ⟨atConfig, 3, 5, by decide⟩

theorem witness_ConfigureFramesInTheWindow_2 : ∃ (s : State) (m g : Byte),
    s.receives = true ∧ s.windowOpen = true ∧ (m = 0 ∨ m.toNat = s.number) ∧ (1 ≤ g.toNat ∧ g.toNat ≤ 5) ∧
    s.mdc.written.of g.toNat = true :=
  ⟨{ atConfig with mdc := { atConfig.mdc with written := { Written.none with axle := true } } }, 0, 1, by decide⟩

theorem witness_ConfigureFramesInTheWindow_3 : ∃ (s : State) (m g : Byte),
    s.receives = true ∧ s.windowOpen = true ∧ (m = 0 ∨ m.toNat = s.number) ∧ 6 ≤ g.toNat :=
  ⟨atConfig, 0, 6, by decide⟩

theorem witness_ConfigureFramesInTheWindow_4_a : ∃ (s : State) (c : Instr) (m g b2 b3 b4 b5 b6 b7 : Byte),
    s.steady ∧ s.receives = true ∧ s.windowOpen = false ∧ (m = 0 ∨ m.toNat = s.number) ∧ ((1 ≤ g.toNat ∧ g.toNat ≤ 5 ∧
    c = .configureGroup [m, g, b2, b3, b4, b5, b6, b7]) ∨ (g = 0 ∧ s.mdc.windowExpired = false ∧ c =
    .configureClose [m, g, b2, b3, b4, b5, b6, b7]) ∨ (6 ≤ g.toNat ∧ c = .undefinedConfigureGroup [m, g, b2, b3,
    b4, b5, b6, b7])) :=
  ⟨inSafe, .configureGroup [3, 1, 1, 4, 128, 12, 0, 0], 3, 1, 1, 4, 128, 12, 0, 0, by decide⟩

theorem witness_ConfigureFramesInTheWindow_4_b : ∃ (s : State) (c : Instr) (m g b2 b3 b4 b5 b6 b7 : Byte),
    s.steady ∧ s.receives = true ∧ s.windowOpen = false ∧ (m = 0 ∨ m.toNat = s.number) ∧ ((1 ≤ g.toNat ∧ g.toNat ≤ 5 ∧
    c = .configureGroup [m, g, b2, b3, b4, b5, b6, b7]) ∨ (g = 0 ∧ s.mdc.windowExpired = false ∧ c =
    .configureClose [m, g, b2, b3, b4, b5, b6, b7]) ∨ (6 ≤ g.toNat ∧ c = .undefinedConfigureGroup [m, g, b2, b3,
    b4, b5, b6, b7])) :=
  ⟨driving, .configureClose [0, 0, 0, 0, 0, 0, 0, 0], 0, 0, 0, 0, 0, 0, 0, 0, by decide⟩

theorem witness_ConfigureFramesInTheWindow_4_c : ∃ (s : State) (c : Instr) (m g b2 b3 b4 b5 b6 b7 : Byte),
    s.steady ∧ s.receives = true ∧ s.windowOpen = false ∧ (m = 0 ∨ m.toNat = s.number) ∧ ((1 ≤ g.toNat ∧ g.toNat ≤ 5 ∧
    c = .configureGroup [m, g, b2, b3, b4, b5, b6, b7]) ∨ (g = 0 ∧ s.mdc.windowExpired = false ∧ c =
    .configureClose [m, g, b2, b3, b4, b5, b6, b7]) ∨ (6 ≤ g.toNat ∧ c = .undefinedConfigureGroup [m, g, b2, b3,
    b4, b5, b6, b7])) :=
  ⟨driving, .undefinedConfigureGroup [0, 6, 0, 0, 0, 0, 0, 0], 0, 6, 0, 0, 0, 0, 0, 0, by decide⟩

theorem witness_ConfigureFramesInTheWindow_5 : ∃ (s : State) (m : Byte),
    s.steady ∧ s.receives = true ∧ s.windowOpen = false ∧ (m = 0 ∨ m.toNat = s.number) ∧ s.mdc.windowExpired = true :=
  ⟨{ driving with mdc := { driving.mdc with windowExpired := true } }, 3, by decide⟩

theorem witness_WindowEndsInRun_1_a : ∃ (s : State) (c : Instr) (m b2 b3 b4 b5 b6 b7 : Byte),
    s.mdc.mode = .config ∧ s.demand.isSome = true ∧ s.free.laneFault = none ∧ ((c = .configureClose [m, 0, b2, b3, b4,
    b5, b6, b7] ∧ s.receives = true ∧ s.windowOpen = true ∧ (m = 0 ∨ m.toNat = s.number)) ∨ (c = .windowExpiry ∧
    ms 500 ≤ s.mdc.windowTime)) :=
  ⟨(demanding atConfig), .configureClose [0, 0, 0, 0, 0, 0, 0, 0], 0, 0, 0, 0, 0, 0, 0, by decide⟩

theorem witness_WindowEndsInRun_1_b : ∃ (s : State) (c : Instr) (m b2 b3 b4 b5 b6 b7 : Byte),
    s.mdc.mode = .config ∧ s.demand.isSome = true ∧ s.free.laneFault = none ∧ ((c = .configureClose [m, 0, b2, b3, b4,
    b5, b6, b7] ∧ s.receives = true ∧ s.windowOpen = true ∧ (m = 0 ∨ m.toNat = s.number)) ∨ (c = .windowExpiry ∧
    ms 500 ≤ s.mdc.windowTime)) :=
  ⟨{ (demanding atConfig) with mdc := { (demanding atConfig).mdc with windowTime := ms 500 } }, .windowExpiry, 0, 0, 0,
      0, 0, 0, 0, by decide⟩

theorem witness_WindowEndsInRun_1_c : ∃ (s : State) (c : Instr) (m b2 b3 b4 b5 b6 b7 : Byte),
    s.mdc.mode = .config ∧ s.demand.isSome = true ∧ s.free.laneFault = none ∧ ((c = .configureClose [m, 0, b2, b3, b4,
    b5, b6, b7] ∧ s.receives = true ∧ s.windowOpen = true ∧ (m = 0 ∨ m.toNat = s.number)) ∨ (c = .windowExpiry ∧
    ms 500 ≤ s.mdc.windowTime)) :=
  ⟨{ (demanding atConfig) with mdc := { (demanding atConfig).mdc with windowTime := ms 500 }, pvt := { (demanding atConfig).pvt with entries := [{ node := 1, decl := { (default : Declared) with phase := .phase .holding }, creepSteady := false, age := 5, freshness := .fresh, lastAlert := none }, { node := 2, decl := { (default : Declared) with phase := .phase .holding }, creepSteady := false, age := 5, freshness := .fresh, lastAlert := none }, { node := 5, decl := { (default : Declared) with phase := .phase .holding }, creepSteady := false, age := 5, freshness := .fresh, lastAlert := none }, { node := 8, decl := { (default : Declared) with phase := .phase .holding }, creepSteady := false, age := 5, freshness := .fresh, lastAlert := none }] } },
      .windowExpiry, 0, 0, 0, 0, 0, 0, 0, by decide⟩

theorem witness_WheelSampleIsTaken_1_a : ∃ (s : State) (a b : Code) (c : Instr) (happens : Bool),
    s.steady ∧ s.wmt.sampling = true ∧ ((c, happens) ∈ [(.wheelSample a b, true), (.noiseOverrun a b, (s.wheel a
    b).2.noise), (.amplitudeLoss a b, (s.wheel a b).2.amplitude), (.cleanWindowRecovery a b, (s.wheel a
    b).2.recovered), (.locked a b, (s.wheel a b).2.becameLocked), (.lockNotAchieved a b, (s.wheel a
    b).2.lockNotAchieved), (.stationaryAsserted a b, (s.wheel a b).2.becameStationary)]) :=
  ⟨atConfig, 0, 1400, .wheelSample 0 1400, true, by decide⟩

theorem witness_WheelSampleIsTaken_1_b : ∃ (s : State) (a b : Code) (c : Instr) (happens : Bool),
    s.steady ∧ s.wmt.sampling = true ∧ ((c, happens) ∈ [(.wheelSample a b, true), (.noiseOverrun a b, (s.wheel a
    b).2.noise), (.amplitudeLoss a b, (s.wheel a b).2.amplitude), (.cleanWindowRecovery a b, (s.wheel a
    b).2.recovered), (.locked a b, (s.wheel a b).2.becameLocked), (.lockNotAchieved a b, (s.wheel a
    b).2.lockNotAchieved), (.stationaryAsserted a b, (s.wheel a b).2.becameStationary)]) :=
  ⟨inSafe, 0, 1400, .noiseOverrun 0 1400, false, by decide⟩

theorem witness_SignalErrorsLosePositionAndRecover_1 : ∃ (s : State) (a : Code),
    s.steady ∧ s.wmt.sampling = true ∧ s.wmt.signal = .tracking ∧ s.wmt.fresh = false ∧ s.wmt.noiseTested
    s.mdc.settings.circumference = true ∧ 256 < (rawSine s.pol a - s.wmt.sine.last).natAbs ∧ s.wmt.sine.rejections
    = 3 :=
  ⟨{ atConfig with wmt := { atConfig.wmt with sine := { Channel.initial with rejections := 3 }, cosine := { Channel.initial with last := 1400 } } },
      257, by decide⟩

theorem witness_SignalErrorsLosePositionAndRecover_2 : ∃ (s : State) (a b : Code),
    s.steady ∧ s.wmt.sampling = true ∧ s.wmt.signal = .tracking ∧ s.wmt.amplitudeRun = 4 ∧ amplitudeInside
    (s.wmt.condition s.mdc.settings.circumference (rawSine s.pol a) b.toInt).a2 = false :=
  ⟨{ atConfig with wmt := { atConfig.wmt with amplitudeRun := 4, cosine := Channel.initial } }, 0, 0, by decide⟩

theorem witness_SignalErrorsLosePositionAndRecover_3 : ∃ (s : State) (a b : Code),
    s.steady ∧ s.wmt.sampling = true ∧ s.wmt.signal ≠ .tracking ∧ (s.wmt.condition s.mdc.settings.circumference
    (rawSine s.pol a) b.toInt).clean = true ∧ ms 10 ≤ (s.wmt.cleanCount + 1) * s.wmt.period :=
  ⟨{ atConfig with wmt := { atConfig.wmt with signal := .starting, positionValid := false, fresh := true, cleanCount := 99 } },
      0, 1400, by decide⟩

theorem witness_SignalErrorsLosePositionAndRecover_4 : ∃ (s : State) (a b : Code),
    s.steady ∧ s.wmt.sampling = true ∧ s.wmt.signal = .tracking ∧ s.wmt.fresh = false ∧ rawSine s.pol a =
    s.wmt.sine.raw ∧ s.wmt.sine.stuckRun = 63 ∧ 64 < max s.wmt.sine.otherHigh b.toInt - min s.wmt.sine.otherLow
    b.toInt ∧ s.wmt.sine.stuck = false ∧ b.toInt ≠ s.wmt.cosine.raw ∧ ((rawSine s.pol a - s.wmt.sine.last).natAbs
    ≤ 256 ∧ (b.toInt - s.wmt.cosine.last).natAbs ≤ 256) ∧ s.wmt.amplitudeRun < 4 :=
  ⟨{ atConfig with wmt := { atConfig.wmt with sine := { Channel.initial with raw := 7, last := 7, stuckRun := 63, otherLow := 1335, otherHigh := 1335 } } },
      7, 1400, by decide⟩

theorem witness_SignalErrorsLosePositionAndRecover_5 : ∃ (s : State) (b : Code),
    s.steady ∧ s.wmt.sampling = true ∧ s.wmt.signal = .tracking ∧ s.wmt.fresh = false ∧ s.wmt.noiseTested
    s.mdc.settings.circumference = true ∧ 256 < (b.toInt - s.wmt.cosine.last).natAbs ∧ s.wmt.cosine.rejections = 3 :=
  ⟨{ atConfig with wmt := { atConfig.wmt with sine := Channel.initial, cosine := { Channel.initial with rejections := 3 } } },
      257, by decide⟩

theorem witness_SignalErrorsLosePositionAndRecover_6 : ∃ (s : State) (a b : Code),
    s.steady ∧ s.wmt.sampling = true ∧ s.wmt.signal = .tracking ∧ s.wmt.fresh = false ∧ b.toInt = s.wmt.cosine.raw ∧
    s.wmt.cosine.stuckRun = 63 ∧ 64 < max s.wmt.cosine.otherHigh (rawSine s.pol a) - min s.wmt.cosine.otherLow
    (rawSine s.pol a) ∧ s.wmt.cosine.stuck = false ∧ rawSine s.pol a ≠ s.wmt.sine.raw ∧ ((rawSine s.pol a -
    s.wmt.sine.last).natAbs ≤ 256 ∧ (b.toInt - s.wmt.cosine.last).natAbs ≤ 256) ∧ s.wmt.amplitudeRun < 4 :=
  ⟨{ atConfig with wmt := { atConfig.wmt with cosine := { Channel.initial with raw := 1400, last := 1400, stuckRun := 63, otherLow := 66, otherHigh := 66 } } },
      1, 1400, by decide⟩

theorem witness_TrackingSampleAdvancesLoop_1 : ∃ (w : Wmt) (pol : Bool) (k : Nat) (a b : Code),
    w.signal = .tracking ∧ w.ok ∧ (w.condition k (rawSine pol a) b.toInt).reports = [] :=
  ⟨tracking, false, 3200, 0, 1400, by decide⟩

theorem witness_TrackingSampleAdvancesLoop_2_a : ∃ (w : Wmt) (pol : Bool) (k : Nat) (a b : Code),
    w.signal = .tracking ∧ w.ok ∧ (w.condition k (rawSine pol a) b.toInt).reports = [] :=
  ⟨{ tracking with v := 30000, locked := false, lockWatch := 1999 }, false, 3200, 0, 1400, by decide⟩

theorem witness_TrackingSampleAdvancesLoop_2_b : ∃ (w : Wmt) (pol : Bool) (k : Nat) (a b : Code),
    w.signal = .tracking ∧ w.ok ∧ (w.condition k (rawSine pol a) b.toInt).reports = [] :=
  ⟨{ tracking with v := 30000, locked := false, lockWatch := 1998 }, false, 3200, 0, 1400, by decide⟩

theorem witness_TrackingSampleAdvancesLoop_2_c : ∃ (w : Wmt) (pol : Bool) (k : Nat) (a b : Code),
    w.signal = .tracking ∧ w.ok ∧ (w.condition k (rawSine pol a) b.toInt).reports = [] :=
  ⟨{ tracking with v := 30000, locked := false, lockWatch := 2000, lockReported := true }, true, 3200, 0, 1400,
      by decide⟩

set_option maxRecDepth 8000 in
theorem witness_TrackingSampleAdvancesLoop_3_a : ∃ (w : Wmt) (pol : Bool) (k : Nat) (a b : Code),
    w.signal = .tracking ∧ w.ok ∧ (w.condition k (rawSine pol a) b.toInt).reports = [] ∧ (w.slow = true ∨ ((w.sample
    pol k a b).1).locked = false ∨ (((w.sample pol k a b).1).speed k).natAbs ≤ 20 ∨ (w.condition k (rawSine pol a)
    b.toInt).rejected = true) :=
  ⟨tracking, false, 3200, 0, 1400, by decide⟩

set_option maxRecDepth 8000 in
theorem witness_TrackingSampleAdvancesLoop_3_b : ∃ (w : Wmt) (pol : Bool) (k : Nat) (a b : Code),
    w.signal = .tracking ∧ w.ok ∧ (w.condition k (rawSine pol a) b.toInt).reports = [] ∧ (w.slow = true ∨ ((w.sample
    pol k a b).1).locked = false ∨ (((w.sample pol k a b).1).speed k).natAbs ≤ 20 ∨ (w.condition k (rawSine pol a)
    b.toInt).rejected = true) :=
  ⟨{ tracking with v := 30000, learning := some (LearnCycle.opened true) }, false, 3200, 257, 1400, by decide⟩

set_option maxRecDepth 8000 in
theorem witness_TrackingSampleAdvancesLoop_4_a : ∃ (w : Wmt) (pol : Bool) (k : Nat) (a b : Code),
    w.signal = .tracking ∧ w.ok ∧ (w.condition k (rawSine pol a) b.toInt).reports = [] ∧ w.slow = false ∧ ((w.sample
    pol k a b).1).locked = true ∧ 20 < (((w.sample pol k a b).1).speed k).natAbs ∧ (w.condition k (rawSine pol a)
    b.toInt).rejected = false ∧ (0 ≤ (w.phi + ((w.sample pol k a b).1).v + proportionalStep (w.selectGain
    (deviation w.phi (w.condition k (rawSine pol a) b.toInt).s (w.condition k (rawSine pol a) b.toInt).c
    (w.condition k (rawSine pol a) b.toInt).a2)) (angleError (deviation w.phi (w.condition k (rawSine pol a)
    b.toInt).s (w.condition k (rawSine pol a) b.toInt).c (w.condition k (rawSine pol a) b.toInt).a2))) ∧ (w.phi +
    ((w.sample pol k a b).1).v + proportionalStep (w.selectGain (deviation w.phi (w.condition k (rawSine pol a)
    b.toInt).s (w.condition k (rawSine pol a) b.toInt).c (w.condition k (rawSine pol a) b.toInt).a2)) (angleError
    (deviation w.phi (w.condition k (rawSine pol a) b.toInt).s (w.condition k (rawSine pol a) b.toInt).c
    (w.condition k (rawSine pol a) b.toInt).a2))) < cycleUnits) :=
  ⟨{ tracking with v := 30000, learning := some { LearnCycle.opened true with count := 5 } }, false, 3200, 0, 1400,
      by decide⟩

set_option maxRecDepth 8000 in
theorem witness_TrackingSampleAdvancesLoop_4_b : ∃ (w : Wmt) (pol : Bool) (k : Nat) (a b : Code),
    w.signal = .tracking ∧ w.ok ∧ (w.condition k (rawSine pol a) b.toInt).reports = [] ∧ w.slow = false ∧ ((w.sample
    pol k a b).1).locked = true ∧ 20 < (((w.sample pol k a b).1).speed k).natAbs ∧ (w.condition k (rawSine pol a)
    b.toInt).rejected = false ∧ (0 ≤ (w.phi + ((w.sample pol k a b).1).v + proportionalStep (w.selectGain
    (deviation w.phi (w.condition k (rawSine pol a) b.toInt).s (w.condition k (rawSine pol a) b.toInt).c
    (w.condition k (rawSine pol a) b.toInt).a2)) (angleError (deviation w.phi (w.condition k (rawSine pol a)
    b.toInt).s (w.condition k (rawSine pol a) b.toInt).c (w.condition k (rawSine pol a) b.toInt).a2))) ∧ (w.phi +
    ((w.sample pol k a b).1).v + proportionalStep (w.selectGain (deviation w.phi (w.condition k (rawSine pol a)
    b.toInt).s (w.condition k (rawSine pol a) b.toInt).c (w.condition k (rawSine pol a) b.toInt).a2)) (angleError
    (deviation w.phi (w.condition k (rawSine pol a) b.toInt).s (w.condition k (rawSine pol a) b.toInt).c
    (w.condition k (rawSine pol a) b.toInt).a2))) < cycleUnits) :=
  ⟨{ tracking with v := 30000, learning := some (LearnCycle.opened true) }, false, 3200, 0, 1400, by decide⟩

set_option maxRecDepth 8000 in
theorem witness_TrackingSampleAdvancesLoop_4_c : ∃ (w : Wmt) (pol : Bool) (k : Nat) (a b : Code),
    w.signal = .tracking ∧ w.ok ∧ (w.condition k (rawSine pol a) b.toInt).reports = [] ∧ w.slow = false ∧ ((w.sample
    pol k a b).1).locked = true ∧ 20 < (((w.sample pol k a b).1).speed k).natAbs ∧ (w.condition k (rawSine pol a)
    b.toInt).rejected = false ∧ (0 ≤ (w.phi + ((w.sample pol k a b).1).v + proportionalStep (w.selectGain
    (deviation w.phi (w.condition k (rawSine pol a) b.toInt).s (w.condition k (rawSine pol a) b.toInt).c
    (w.condition k (rawSine pol a) b.toInt).a2)) (angleError (deviation w.phi (w.condition k (rawSine pol a)
    b.toInt).s (w.condition k (rawSine pol a) b.toInt).c (w.condition k (rawSine pol a) b.toInt).a2))) ∧ (w.phi +
    ((w.sample pol k a b).1).v + proportionalStep (w.selectGain (deviation w.phi (w.condition k (rawSine pol a)
    b.toInt).s (w.condition k (rawSine pol a) b.toInt).c (w.condition k (rawSine pol a) b.toInt).a2)) (angleError
    (deviation w.phi (w.condition k (rawSine pol a) b.toInt).s (w.condition k (rawSine pol a) b.toInt).c
    (w.condition k (rawSine pol a) b.toInt).a2))) < cycleUnits) :=
  ⟨{ tracking with v := 30000 }, false, 3200, 0, 1400, by decide⟩

set_option maxRecDepth 8000 in
theorem witness_TrackingSampleAdvancesLoop_5_a : ∃ (w : Wmt) (pol : Bool) (k : Nat) (a b : Code),
    w.signal = .tracking ∧ w.ok ∧ (w.condition k (rawSine pol a) b.toInt).reports = [] ∧ w.slow = false ∧ ((w.sample
    pol k a b).1).locked = true ∧ 20 < (((w.sample pol k a b).1).speed k).natAbs ∧ (w.condition k (rawSine pol a)
    b.toInt).rejected = false ∧ ((w.phi + ((w.sample pol k a b).1).v + proportionalStep (w.selectGain (deviation
    w.phi (w.condition k (rawSine pol a) b.toInt).s (w.condition k (rawSine pol a) b.toInt).c (w.condition k
    (rawSine pol a) b.toInt).a2)) (angleError (deviation w.phi (w.condition k (rawSine pol a) b.toInt).s
    (w.condition k (rawSine pol a) b.toInt).c (w.condition k (rawSine pol a) b.toInt).a2))) < 0 ∨ cycleUnits ≤
    (w.phi + ((w.sample pol k a b).1).v + proportionalStep (w.selectGain (deviation w.phi (w.condition k (rawSine
    pol a) b.toInt).s (w.condition k (rawSine pol a) b.toInt).c (w.condition k (rawSine pol a) b.toInt).a2))
    (angleError (deviation w.phi (w.condition k (rawSine pol a) b.toInt).s (w.condition k (rawSine pol a)
    b.toInt).c (w.condition k (rawSine pol a) b.toInt).a2)))) :=
  ⟨{ tracking with v := -30000 }, false, 3200, 0, 1400, by decide⟩

set_option maxRecDepth 8000 in
theorem witness_TrackingSampleAdvancesLoop_5_b : ∃ (w : Wmt) (pol : Bool) (k : Nat) (a b : Code),
    w.signal = .tracking ∧ w.ok ∧ (w.condition k (rawSine pol a) b.toInt).reports = [] ∧ w.slow = false ∧ ((w.sample
    pol k a b).1).locked = true ∧ 20 < (((w.sample pol k a b).1).speed k).natAbs ∧ (w.condition k (rawSine pol a)
    b.toInt).rejected = false ∧ ((w.phi + ((w.sample pol k a b).1).v + proportionalStep (w.selectGain (deviation
    w.phi (w.condition k (rawSine pol a) b.toInt).s (w.condition k (rawSine pol a) b.toInt).c (w.condition k
    (rawSine pol a) b.toInt).a2)) (angleError (deviation w.phi (w.condition k (rawSine pol a) b.toInt).s
    (w.condition k (rawSine pol a) b.toInt).c (w.condition k (rawSine pol a) b.toInt).a2))) < 0 ∨ cycleUnits ≤
    (w.phi + ((w.sample pol k a b).1).v + proportionalStep (w.selectGain (deviation w.phi (w.condition k (rawSine
    pol a) b.toInt).s (w.condition k (rawSine pol a) b.toInt).c (w.condition k (rawSine pol a) b.toInt).a2))
    (angleError (deviation w.phi (w.condition k (rawSine pol a) b.toInt).s (w.condition k (rawSine pol a)
    b.toInt).c (w.condition k (rawSine pol a) b.toInt).a2)))) :=
  ⟨{ tracking with v := -30000, learning := some { LearnCycle.opened false with count := 5 } }, false, 3200, 0, 1400,
      by decide⟩

set_option maxRecDepth 8000 in
theorem witness_TrackingSampleAdvancesLoop_5_c : ∃ (w : Wmt) (pol : Bool) (k : Nat) (a b : Code),
    w.signal = .tracking ∧ w.ok ∧ (w.condition k (rawSine pol a) b.toInt).reports = [] ∧ w.slow = false ∧ ((w.sample
    pol k a b).1).locked = true ∧ 20 < (((w.sample pol k a b).1).speed k).natAbs ∧ (w.condition k (rawSine pol a)
    b.toInt).rejected = false ∧ ((w.phi + ((w.sample pol k a b).1).v + proportionalStep (w.selectGain (deviation
    w.phi (w.condition k (rawSine pol a) b.toInt).s (w.condition k (rawSine pol a) b.toInt).c (w.condition k
    (rawSine pol a) b.toInt).a2)) (angleError (deviation w.phi (w.condition k (rawSine pol a) b.toInt).s
    (w.condition k (rawSine pol a) b.toInt).c (w.condition k (rawSine pol a) b.toInt).a2))) < 0 ∨ cycleUnits ≤
    (w.phi + ((w.sample pol k a b).1).v + proportionalStep (w.selectGain (deviation w.phi (w.condition k (rawSine
    pol a) b.toInt).s (w.condition k (rawSine pol a) b.toInt).c (w.condition k (rawSine pol a) b.toInt).a2))
    (angleError (deviation w.phi (w.condition k (rawSine pol a) b.toInt).s (w.condition k (rawSine pol a)
    b.toInt).c (w.condition k (rawSine pol a) b.toInt).a2)))) :=
  ⟨{ tracking with v := 67108864, phi := 201326592, learning := some { LearnCycle.opened true with count := 5 } },
      false, 3200, -1400, 0, by decide⟩

set_option maxRecDepth 8000 in
theorem witness_TrackingSampleAdvancesLoop_5_d : ∃ (w : Wmt) (pol : Bool) (k : Nat) (a b : Code),
    w.signal = .tracking ∧ w.ok ∧ (w.condition k (rawSine pol a) b.toInt).reports = [] ∧ w.slow = false ∧ ((w.sample
    pol k a b).1).locked = true ∧ 20 < (((w.sample pol k a b).1).speed k).natAbs ∧ (w.condition k (rawSine pol a)
    b.toInt).rejected = false ∧ ((w.phi + ((w.sample pol k a b).1).v + proportionalStep (w.selectGain (deviation
    w.phi (w.condition k (rawSine pol a) b.toInt).s (w.condition k (rawSine pol a) b.toInt).c (w.condition k
    (rawSine pol a) b.toInt).a2)) (angleError (deviation w.phi (w.condition k (rawSine pol a) b.toInt).s
    (w.condition k (rawSine pol a) b.toInt).c (w.condition k (rawSine pol a) b.toInt).a2))) < 0 ∨ cycleUnits ≤
    (w.phi + ((w.sample pol k a b).1).v + proportionalStep (w.selectGain (deviation w.phi (w.condition k (rawSine
    pol a) b.toInt).s (w.condition k (rawSine pol a) b.toInt).c (w.condition k (rawSine pol a) b.toInt).a2))
    (angleError (deviation w.phi (w.condition k (rawSine pol a) b.toInt).s (w.condition k (rawSine pol a)
    b.toInt).c (w.condition k (rawSine pol a) b.toInt).a2)))) :=
  ⟨{ tracking with v := -30000, learning := some { LearnCycle.opened true with count := 5 } }, false, 3200, 0, 1400,
      by decide⟩

set_option maxRecDepth 8000 in
theorem witness_BreachVelocityRaisesBreach_1 : ∃ (s : State) (a b : Code),
    s.retaining ∧ s.wmt.sampling = true ∧ (s.wheel a b).2.reports = [] ∧ (s.wheel a b).2.lostStationary = false ∧ ({ s
    with wmt := (s.wheel a b).1 } : State).velocityDue = true :=
  ⟨rolling, 0, 1400, by decide⟩

set_option maxRecDepth 8000 in
theorem witness_BreachVelocityRaisesBreach_2_a : ∃ (s : State) (a b : Code),
    (s.inPhase .capturing = true ∨ s.inPhase .holding = true) ∧ s.attended ∧ s.demand = none ∧ s.spring = true ∧
    s.pad.sensor ≠ .outOfRange ∧ s.free.laneFault = none ∧ s.wmt.sampling = true ∧ (s.wheel a b).2.reports = [] ∧
    (s.wheel a b).2.lostStationary = false ∧ ({ s with wmt := (s.wheel a b).1 } : State).velocityDue = true :=
  ⟨{ (node .run .capturing) with wmt := rolling.wmt, csu := rolling.csu }, 0, 1400, by decide⟩

set_option maxRecDepth 8000 in
theorem witness_BreachVelocityRaisesBreach_2_b : ∃ (s : State) (a b : Code),
    (s.inPhase .capturing = true ∨ s.inPhase .holding = true) ∧ s.attended ∧ s.demand = none ∧ s.spring = true ∧
    s.pad.sensor ≠ .outOfRange ∧ s.free.laneFault = none ∧ s.wmt.sampling = true ∧ (s.wheel a b).2.reports = [] ∧
    (s.wheel a b).2.lostStationary = false ∧ ({ s with wmt := (s.wheel a b).1 } : State).velocityDue = true :=
  ⟨{ (node .run .holding) with wmt := rolling.wmt, csu := rolling.csu, hpc := { (node .run .holding).hpc with handoverFailed := true } },
      0, 1400, by decide⟩

set_option maxRecDepth 8000 in
theorem witness_BreachVelocityRaisesBreach_3_a : ∃ (s : State),
    s.inHold = true ∧ s.csu.anchor ≠ .absent ∧ s.csu.breach = false ∧ s.free.laneFault = none :=
  ⟨rolling, by decide⟩

set_option maxRecDepth 8000 in
theorem witness_BreachVelocityRaisesBreach_3_b : ∃ (s : State),
    s.inHold = true ∧ s.csu.anchor ≠ .absent ∧ s.csu.breach = false ∧ s.free.laneFault = none :=
  ⟨{ rolling with csu := { rolling.csu with breachTime := 998 } }, by decide⟩

set_option maxRecDepth 8000 in
theorem witness_BreachVelocityRaisesBreach_3_c : ∃ (s : State),
    s.inHold = true ∧ s.csu.anchor ≠ .absent ∧ s.csu.breach = false ∧ s.free.laneFault = none :=
  ⟨{ rolling with wmt := { rolling.wmt with v := 0 } }, by decide⟩

set_option maxRecDepth 8000 in
theorem witness_BreachVelocityRaisesBreach_3_d : ∃ (s : State),
    s.inHold = true ∧ s.csu.anchor ≠ .absent ∧ s.csu.breach = false ∧ s.free.laneFault = none :=
  ⟨{ (node .run .holding) with wmt := rolling.wmt, csu := rolling.csu }, by decide⟩

set_option maxRecDepth 8000 in
theorem witness_BreachVelocityRaisesBreach_3_e : ∃ (s : State),
    s.inHold = true ∧ s.csu.anchor ≠ .absent ∧ s.csu.breach = false ∧ s.free.laneFault = none :=
  ⟨{ (node .run .releasing) with wmt := rolling.wmt, csu := rolling.csu, hpc := { (node .run .releasing).hpc with release := some { preHold := 300, origin := none, travel := 0, time := sec 4, rampTime := 25, goal := 0 } } },
      by decide⟩

set_option maxRecDepth 8000 in
theorem witness_BreachVelocityRaisesBreach_3_f : ∃ (s : State),
    s.inHold = true ∧ s.csu.anchor ≠ .absent ∧ s.csu.breach = false ∧ s.free.laneFault = none :=
  ⟨{ (node .run .securing) with wmt := rolling.wmt, csu := rolling.csu, hpc := { (node .run .securing).hpc with handover := some { preHold := 300, stage := .wait, stageTime := 0, noSpringReported := false } } },
      by decide⟩

set_option maxRecDepth 8000 in
theorem witness_BreachVelocityRaisesBreach_4_a : ∃ (s : State),
    (s.inHold = false ∨ s.csu.breach = true) :=
  ⟨{ rolling with csu := { rolling.csu with breach := true } }, by decide⟩

set_option maxRecDepth 8000 in
theorem witness_BreachVelocityRaisesBreach_4_b : ∃ (s : State),
    (s.inHold = false ∨ s.csu.breach = true) :=
  ⟨atConfig, by decide⟩

theorem witness_AccelerometerReadingFormsGrade_1_a : ∃ (s : State) (r : Option Accel) (c : Instr) (happens : Bool),
    s.steady ∧ s.glu.reading = true ∧ ((c, happens) ∈ [(.accelerometerReading r, true), (.accelerometerWindowFault r,
    (Glu.windowFault s.glu (s.glu.take r s.wmt.stationary))), (.gradeDisagreement r, (if Glu.gradeTaken s.glu
    (s.glu.take r s.wmt.stationary) then (s.glu.take r s.wmt.stationary).chooseGrade s.pvt.entries else
    (s.glu.take r s.wmt.stationary)).disagreementFault)]) :=
  ⟨atConfig, some ⟨0, 0, 1000⟩, .accelerometerReading (some ⟨0, 0, 1000⟩), true, by decide⟩

theorem witness_AccelerometerReadingFormsGrade_1_b : ∃ (s : State) (r : Option Accel) (c : Instr) (happens : Bool),
    s.steady ∧ s.glu.reading = true ∧ ((c, happens) ∈ [(.accelerometerReading r, true), (.accelerometerWindowFault r,
    (Glu.windowFault s.glu (s.glu.take r s.wmt.stationary))), (.gradeDisagreement r, (if Glu.gradeTaken s.glu
    (s.glu.take r s.wmt.stationary) then (s.glu.take r s.wmt.stationary).chooseGrade s.pvt.entries else
    (s.glu.take r s.wmt.stationary)).disagreementFault)]) :=
  ⟨{ atConfig with glu := { atConfig.glu with windowRun := 9 } }, none, .accelerometerWindowFault none, true, by decide⟩

theorem witness_LoadReadingFormsLoad_1_a : ∃ (s : State) (v : Nat),
    s.steady ∧ s.glu.reading = true ∧ (250 ≤ v ∧ v ≤ 4750) :=
  ⟨atConfig, 250, by decide⟩

theorem witness_LoadReadingFormsLoad_1_b : ∃ (s : State) (v : Nat),
    s.steady ∧ s.glu.reading = true ∧ (250 ≤ v ∧ v ≤ 4750) :=
  ⟨driving, 4750, by decide⟩

theorem witness_LoadReadingFormsLoad_2 : ∃ (s : State) (v : Nat),
    s.steady ∧ s.glu.reading = true ∧ (v < 250 ∨ 4750 < v) ∧ s.glu.loadRun < 4 :=
  ⟨atConfig, 249, by decide⟩

theorem witness_LoadReadingFormsLoad_3 : ∃ (s : State) (v : Nat) (c : Instr),
    s.steady ∧ s.glu.reading = true ∧ (v < 250 ∨ 4750 < v) ∧ s.glu.loadRun = 4 ∧ (c = .loadReading v ∨ c =
    .loadInputFault v) :=
  ⟨{ atConfig with glu := { atConfig.glu with loadRun := 4 } }, 4751, .loadInputFault 4751, by decide⟩

theorem witness_LoadReadingFormsLoad_4_a : ∃ (s : State) (v : Nat),
    s.steady ∧ ((250 ≤ v ∧ v ≤ 4750) ∨ s.glu.loadRun ≠ 4) ∧ s.glu.loadRun ≤ 5 :=
  ⟨atConfig, 249, by decide⟩

theorem witness_LoadReadingFormsLoad_4_b : ∃ (s : State) (v : Nat),
    s.steady ∧ ((250 ≤ v ∧ v ≤ 4750) ∨ s.glu.loadRun ≠ 4) ∧ s.glu.loadRun ≤ 5 :=
  ⟨{ atConfig with glu := { atConfig.glu with loadRun := 4 } }, 250, by decide⟩

theorem witness_DeclarationEntersTable_1_a : ∃ (s : State) (n : Nat) (data : List Byte) (d : Declared),
    s.steady ∧ s.takesFrom n = true ∧ n ≠ s.number ∧ decodeDeclaration data = some d :=
  ⟨atConfig, 1, [2, 13, 0, 4, 0, 0, 0, 0], (decodeDeclaration [2, 13, 0, 4, 0, 0, 0, 0]).getD default, by decide⟩

theorem witness_DeclarationEntersTable_1_b : ∃ (s : State) (n : Nat) (data : List Byte) (d : Declared),
    s.steady ∧ s.takesFrom n = true ∧ n ≠ s.number ∧ decodeDeclaration data = some d :=
  ⟨driving, 8, [2, 13, 0, 4, 0, 0, 0, 0], (decodeDeclaration [2, 13, 0, 4, 0, 0, 0, 0]).getD default, by decide⟩

theorem witness_BadFramesAreReported_1_a : ∃ (s : State) (c : Instr) (e : Element) (n : Nat) (data : List Byte),
    s.steady ∧ s.receives = true ∧ ((c = .declaration n data ∧ e = .peer n ∧ 1 ≤ n ∧ n ≤ 8 ∧ decodeDeclaration data =
    none) ∨ (c = .alert n data ∧ e = .peer n ∧ 1 ≤ n ∧ n ≤ 8 ∧ decodeAlert data = none) ∨ (c = .cabStatus data ∧ e
    = .cabStation ∧ decodeCab data = none) ∨ (c = .driveDemand data ∧ e = .powertrainStation ∧ decodeDrive data =
    none) ∨ (c = .drumStatus data ∧ e = .drumStation ∧ decodeDrum data = none)) :=
  ⟨atConfig, .declaration 8 [7, 0, 0, 0, 0, 0, 0, 0], .peer 8, 8, [7, 0, 0, 0, 0, 0, 0, 0], by decide⟩

theorem witness_BadFramesAreReported_1_b : ∃ (s : State) (c : Instr) (e : Element) (n : Nat) (data : List Byte),
    s.steady ∧ s.receives = true ∧ ((c = .declaration n data ∧ e = .peer n ∧ 1 ≤ n ∧ n ≤ 8 ∧ decodeDeclaration data =
    none) ∨ (c = .alert n data ∧ e = .peer n ∧ 1 ≤ n ∧ n ≤ 8 ∧ decodeAlert data = none) ∨ (c = .cabStatus data ∧ e
    = .cabStation ∧ decodeCab data = none) ∨ (c = .driveDemand data ∧ e = .powertrainStation ∧ decodeDrive data =
    none) ∨ (c = .drumStatus data ∧ e = .drumStation ∧ decodeDrum data = none)) :=
  ⟨inSafe, .alert 1 [5, 0, 0], .peer 1, 1, [5, 0, 0], by decide⟩

theorem witness_BadFramesAreReported_1_c : ∃ (s : State) (c : Instr) (e : Element) (n : Nat) (data : List Byte),
    s.steady ∧ s.receives = true ∧ ((c = .declaration n data ∧ e = .peer n ∧ 1 ≤ n ∧ n ≤ 8 ∧ decodeDeclaration data =
    none) ∨ (c = .alert n data ∧ e = .peer n ∧ 1 ≤ n ∧ n ≤ 8 ∧ decodeAlert data = none) ∨ (c = .cabStatus data ∧ e
    = .cabStation ∧ decodeCab data = none) ∨ (c = .driveDemand data ∧ e = .powertrainStation ∧ decodeDrive data =
    none) ∨ (c = .drumStatus data ∧ e = .drumStation ∧ decodeDrum data = none)) :=
  ⟨atConfig, .cabStatus [0, 2], .cabStation, 0, [0, 2], by decide⟩

theorem witness_BadFramesAreReported_1_d : ∃ (s : State) (c : Instr) (e : Element) (n : Nat) (data : List Byte),
    s.steady ∧ s.receives = true ∧ ((c = .declaration n data ∧ e = .peer n ∧ 1 ≤ n ∧ n ≤ 8 ∧ decodeDeclaration data =
    none) ∨ (c = .alert n data ∧ e = .peer n ∧ 1 ≤ n ∧ n ≤ 8 ∧ decodeAlert data = none) ∨ (c = .cabStatus data ∧ e
    = .cabStation ∧ decodeCab data = none) ∨ (c = .driveDemand data ∧ e = .powertrainStation ∧ decodeDrive data =
    none) ∨ (c = .drumStatus data ∧ e = .drumStation ∧ decodeDrum data = none)) :=
  ⟨atConfig, .driveDemand [3, 0, 0, 0], .powertrainStation, 0, [3, 0, 0, 0], by decide⟩

theorem witness_BadFramesAreReported_1_e : ∃ (s : State) (c : Instr) (e : Element) (n : Nat) (data : List Byte),
    s.steady ∧ s.receives = true ∧ ((c = .declaration n data ∧ e = .peer n ∧ 1 ≤ n ∧ n ≤ 8 ∧ decodeDeclaration data =
    none) ∨ (c = .alert n data ∧ e = .peer n ∧ 1 ≤ n ∧ n ≤ 8 ∧ decodeAlert data = none) ∨ (c = .cabStatus data ∧ e
    = .cabStation ∧ decodeCab data = none) ∨ (c = .driveDemand data ∧ e = .powertrainStation ∧ decodeDrive data =
    none) ∨ (c = .drumStatus data ∧ e = .drumStation ∧ decodeDrum data = none)) :=
  ⟨atConfig, .drumStatus [0, 0], .drumStation, 0, [0, 0], by decide⟩

theorem witness_BadFramesAreReported_2_a : ∃ (s : State) (c : Instr) (data : List Byte),
    s.steady ∧ s.takesFrom s.number = true ∧ (s.frb.responseActive = false ∨ s.pvt.clashTime.isSome = true) ∧ ((c =
    .declaration s.number data ∧ (decodeDeclaration data).isSome = true) ∨ (c = .alert s.number data ∧
    (decodeAlert data).isSome = true)) :=
  ⟨atConfig, .declaration 3 [2, 13, 0, 4, 0, 0, 0, 0], [2, 13, 0, 4, 0, 0, 0, 0], by decide⟩

theorem witness_BadFramesAreReported_2_b : ∃ (s : State) (c : Instr) (data : List Byte),
    s.steady ∧ s.takesFrom s.number = true ∧ (s.frb.responseActive = false ∨ s.pvt.clashTime.isSome = true) ∧ ((c =
    .declaration s.number data ∧ (decodeDeclaration data).isSome = true) ∨ (c = .alert s.number data ∧
    (decodeAlert data).isSome = true)) :=
  ⟨{ atConfig with pvt := { atConfig.pvt with clashTime := some 2999 } }, .alert 3 [1, 4, 0], [1, 4, 0], by decide⟩

theorem witness_PeerAgesAreHandedOn_1 : ∃ (s : State) (n : Nat),
    s.steady ∧ s.entryDue n (ms 60) .fresh = true :=
  ⟨{ atConfig with pvt := { atConfig.pvt with entries := [{ node := 5, decl := { (default : Declared) with springFitted := true, phase := .phase .holding }, creepSteady := false, age := ms 60, freshness := .fresh, lastAlert := none }] } },
      5, by decide⟩

theorem witness_PeerAgesAreHandedOn_2 : ∃ (s : State) (n : Nat),
    s.steady ∧ s.entryDue n (ms 300) .stale = true :=
  ⟨{ inSafe with pvt := { inSafe.pvt with entries := [{ node := 5, decl := { (default : Declared) with springFitted := true, phase := .phase .holding }, creepSteady := false, age := ms 300, freshness := .stale, lastAlert := none }] } },
      5, by decide⟩

theorem witness_PeerAgesAreHandedOn_3 : ∃ (s : State) (n : Nat),
    s.retaining ∧ s.entryDue n (ms 300) .stale = true :=
  ⟨{ retaining with pvt := { retaining.pvt with entries := [{ node := 5, decl := { (default : Declared) with springFitted := true, phase := .phase .holding }, creepSteady := false, age := ms 300, freshness := .stale, lastAlert := none }] } },
      5, by decide⟩

theorem witness_PeerAgesAreHandedOn_4 : ∃ (s : State) (n : Nat),
    s.steady ∧ s.alertDue n = true :=
  ⟨{ atConfig with pvt := { atConfig.pvt with entries := [{ node := 5, decl := { (default : Declared) with springFitted := true, phase := .phase .holding }, creepSteady := false, age := 7, freshness := .fresh, lastAlert := some { cause := .breach, level := 4, creep := 1, age := sec 2 } }] } },
      5, by decide⟩

theorem witness_AlertRaisesNodeLevel_1 : ∃ (s : State) (n : Nat) (data : List Byte) (a : LastAlert),
    s.steady ∧ s.takesFrom n = true ∧ n ≠ s.number ∧ decodeAlert data = some a :=
  ⟨atConfig, 8, [4, 5, 128], (decodeAlert [4, 5, 128]).getD default, by decide⟩

theorem witness_AlertRaisesNodeLevel_2_a : ∃ (s : State) (n : Nat) (data : List Byte) (a : LastAlert),
    s.retaining ∧ s.takesFrom n = true ∧ n ≠ s.number ∧ decodeAlert data = some a :=
  ⟨retaining, 1, [1, 4, 127], (decodeAlert [1, 4, 127]).getD default, by decide⟩

theorem witness_AlertRaisesNodeLevel_2_b : ∃ (s : State) (n : Nat) (data : List Byte) (a : LastAlert),
    s.retaining ∧ s.takesFrom n = true ∧ n ≠ s.number ∧ decodeAlert data = some a :=
  ⟨retaining, 8, [3, 0, 0], (decodeAlert [3, 0, 0]).getD default, by decide⟩

theorem witness_StationRecordsAreKept_1 : ∃ (s : State) (data : List Byte) (x : CabFields),
    s.steady ∧ s.receives = true ∧ decodeCab data = some x :=
  ⟨atConfig, [3, 1], (decodeCab [3, 1]).getD default, by decide⟩

theorem witness_StationRecordsAreKept_2_a : ∃ (s : State) (data : List Byte) (x : DriveFields),
    s.steady ∧ s.receives = true ∧ decodeDrive data = some x ∧ (s.mdc.mode ≠ .run ∨ (x.gear ≠ .neutral ∧ 0 < x.force)
    ∨ s.vehicleStationary = false) :=
  ⟨atConfig, [0, 0, 0, 0], (decodeDrive [0, 0, 0, 0]).getD default, by decide⟩

theorem witness_StationRecordsAreKept_2_b : ∃ (s : State) (data : List Byte) (x : DriveFields),
    s.steady ∧ s.receives = true ∧ decodeDrive data = some x ∧ (s.mdc.mode ≠ .run ∨ (x.gear ≠ .neutral ∧ 0 < x.force)
    ∨ s.vehicleStationary = false) :=
  ⟨driving, [2, 0, 255, 255], (decodeDrive [2, 0, 255, 255]).getD default, by decide⟩

theorem witness_StationRecordsAreKept_3 : ∃ (s : State) (data : List Byte) (x : DrumFields),
    s.steady ∧ s.receives = true ∧ decodeDrum data = some x :=
  ⟨atConfig, [2, 0, 0], (decodeDrum [2, 0, 0]).getD default, by decide⟩

theorem witness_StationRecordsAreKept_4_a : ∃ (s : State) (x : Station),
    s.steady ∧ s.recordDue x = true ∧ (x = .drive → s.mdc.mode ≠ .run ∨ s.vehicleStationary = false) :=
  ⟨{ atConfig with vir := { atConfig.vir with cab := some (default, { age := ms 200, fresh := true }) } }, .cab,
      by decide⟩

theorem witness_StationRecordsAreKept_4_b : ∃ (s : State) (x : Station),
    s.steady ∧ s.recordDue x = true ∧ (x = .drive → s.mdc.mode ≠ .run ∨ s.vehicleStationary = false) :=
  ⟨{ atConfig with vir := { atConfig.vir with drive := some (default, { age := ms 200, fresh := true }) } }, .drive,
      by decide⟩

theorem witness_StationRecordsAreKept_4_c : ∃ (s : State) (x : Station),
    s.steady ∧ s.recordDue x = true ∧ (x = .drive → s.mdc.mode ≠ .run ∨ s.vehicleStationary = false) :=
  ⟨{ inSafe with vir := { inSafe.vir with drum := some (default, { age := ms 200, fresh := true }) } }, .drum,
      by decide⟩

theorem witness_CaptureEntersCapturing_1_a : ∃ (s : State) (c : Instr) (n : Nat) (data : List Byte),
    s.inPhase .released = true ∧ s.attended ∧ s.wmt.positionValid = true ∧ s.mdc.settings.ok ∧ s.anyFreshHold = false
    ∧ s.free.laneFault = none ∧ ((c = .captureQualifyingExpiry ∧ s.captureConditions = true ∧ ms 150 ≤
    s.hpc.qualifyingTime) ∨ (c = .alert n data ∧ s.takesFrom n = true ∧ n ≠ s.number ∧ (decodeAlert data).isSome =
    true ∧ s.vehicleStationary = true ∧ s.demand = none)) :=
  ⟨{ (node .run .released) with hpc := { (node .run .released).hpc with qualifyingTime := ms 150 }, cpr := { (node .run .released).cpr with measured := 60 } },
      .captureQualifyingExpiry, 0, [], by decide⟩

theorem witness_CaptureEntersCapturing_1_b : ∃ (s : State) (c : Instr) (n : Nat) (data : List Byte),
    s.inPhase .released = true ∧ s.attended ∧ s.wmt.positionValid = true ∧ s.mdc.settings.ok ∧ s.anyFreshHold = false
    ∧ s.free.laneFault = none ∧ ((c = .captureQualifyingExpiry ∧ s.captureConditions = true ∧ ms 150 ≤
    s.hpc.qualifyingTime) ∨ (c = .alert n data ∧ s.takesFrom n = true ∧ n ≠ s.number ∧ (decodeAlert data).isSome =
    true ∧ s.vehicleStationary = true ∧ s.demand = none)) :=
  ⟨(node .run .released), .alert 1 [1, 4, 9], 1, [1, 4, 9], by decide⟩

theorem witness_CaptureEntersCapturing_2 : ∃ (s : State),
    s.captureConditions = true ∧ ms 150 ≤ s.hpc.qualifyingTime ∧ s.wmt.positionValid = false ∧ (∀ p ∈ s.pvt.entries,
    p.freshness = .fresh → p.decl.phase.isHold = true → p.decl.creepValid = false) ∧ s.spring = true ∧
    s.pad.sensor ≠ .outOfRange ∧ s.frb.responseActive = false ∧ s.free.laneFault = none :=
  ⟨{ (node .run .released) with hpc := { (node .run .released).hpc with qualifyingTime := ms 150 }, cpr := { (node .run .released).cpr with measured := 60 }, glu := { (node .run .released).glu with vehicleGrade := 30, gradeStatus := .formed }, wmt := Wmt.initial, pvt := { (node .run .released).pvt with entries := [{ node := 1, decl := { (default : Declared) with phase := .phase .holding }, creepSteady := false, age := 5, freshness := .fresh, lastAlert := none }, { node := 2, decl := { (default : Declared) with phase := .phase .holding }, creepSteady := false, age := 5, freshness := .fresh, lastAlert := none }] } },
      by decide⟩

theorem witness_CaptureEndsInHolding_1_a : ∃ (s : State) (c : Instr) (p : Int),
    s.inPhase .capturing = true ∧ s.demand = none ∧ s.attended ∧ s.free.laneFault = none ∧ ((c = .captureSettleExpiry
    ∧ ms 300 ≤ s.hpc.settleTime) ∨ (c = .settledReport p ∧ s.cpr.reading = true ∧ (s.cpr.read p).2.settled =
    true)) :=
  ⟨{ (node .run .capturing) with hpc := { (node .run .capturing).hpc with settleTime := ms 300 } },
      .captureSettleExpiry, 0, by decide⟩

theorem witness_CaptureEndsInHolding_1_b : ∃ (s : State) (c : Instr) (p : Int),
    s.inPhase .capturing = true ∧ s.demand = none ∧ s.attended ∧ s.free.laneFault = none ∧ ((c = .captureSettleExpiry
    ∧ ms 300 ≤ s.hpc.settleTime) ∨ (c = .settledReport p ∧ s.cpr.reading = true ∧ (s.cpr.read p).2.settled =
    true)) :=
  ⟨{ (node .run .capturing) with cpr := { (node .run .capturing).cpr with settleTime := 49, settleOwed := true } },
      .settledReport 15, 15, by decide⟩

theorem witness_CaptureEndsInHolding_2 : ∃ (s : State) (p : Int),
    s.inPhase .holding = true ∧ s.demand = none ∧ s.attended ∧ s.free.laneFault = none ∧ s.hpc.withdrawalPending =
    true ∧ s.pad.mdcRequest = false ∧ s.cpr.reading = true ∧ (s.cpr.read p).2.settled = true :=
  ⟨{ (node .run .holding) with hpc := { (node .run .holding).hpc with withdrawalPending := true, request := true }, pad := { (node .run .holding).pad with asserted := true, hpcRequest := .assert }, cpr := { (node .run .holding).cpr with settleTime := 49, settleOwed := true } },
      -20, by decide⟩

theorem witness_ReleaseRampsDownOrAborts_1_a : ∃ (s : State) (r : ReleaseRecord),
    s.inPhase .releasing = true ∧ s.hpc.release = some r ∧ 25 ≤ r.rampTime ∧ s.demand.isSome = true ∧
    s.hpc.last.release.isSome = true ∧ s.free.laneFault = none ∧ s.cpr.target ≤ s.mdc.settings.pMax :=
  ⟨(demanding
      { (node .run .releasing) with hpc := { (node .run .releasing).hpc with release := some { preHold := 300, origin := none, travel := 0, time := sec 4, rampTime := 25, goal := 0 }, last := { pCalc := 0, insufficient := false, fGrav := 0, release := some 0 } }, cpr := { (node .run .releasing).cpr with target := 1 } }),
        { preHold := 300, origin := none, travel := 0, time := sec 4, rampTime := 25, goal := 0 }, by decide⟩

theorem witness_ReleaseRampsDownOrAborts_1_b : ∃ (s : State) (r : ReleaseRecord),
    s.inPhase .releasing = true ∧ s.hpc.release = some r ∧ 25 ≤ r.rampTime ∧ s.demand.isSome = true ∧
    s.hpc.last.release.isSome = true ∧ s.free.laneFault = none ∧ s.cpr.target ≤ s.mdc.settings.pMax :=
  ⟨(demanding
      { (node .run .releasing) with hpc := { (node .run .releasing).hpc with release := some { preHold := 300, origin := none, travel := 0, time := sec 4, rampTime := 25, goal := 0 }, last := { pCalc := 0, insufficient := false, fGrav := 0, release := some 0 } }, cpr := { (node .run .releasing).cpr with target := 41 } }),
        { preHold := 300, origin := none, travel := 0, time := sec 4, rampTime := 25, goal := 0 }, by decide⟩

theorem witness_ReleaseRampsDownOrAborts_2 : ∃ (s : State) (r : ReleaseRecord),
    s.inPhase .releasing = true ∧ s.hpc.release = some r ∧ sec 4 ≤ r.time ∧ s.attended ∧ s.free.laneFault = none :=
  ⟨{ (node .run .releasing) with hpc := { (node .run .releasing).hpc with release := some { preHold := 300, origin := none, travel := 0, time := sec 4, rampTime := 25, goal := 0 } } },
      { preHold := 300, origin := none, travel := 0, time := sec 4, rampTime := 25, goal := 0 }, by decide⟩

theorem witness_ReleaseRampsDownOrAborts_4_a : ∃ (s : State) (data : List Byte) (x : DriveFields),
    s.inPhase .holding = true ∧ s.attended ∧ s.free.laneFault = none ∧ s.hal.lanes = .agreed ∧ s.hpc.last.release =
    none ∧ s.receives = true ∧ decodeDrive data = some x ∧ x.gear ≠ .neutral ∧ 0 < x.force ∧ (s.glu.uphill x.gear
    = false ∨ (({ s with vir := { s.vir with drive := some (x, { age := 0, fresh := true }) } } :
    State).laneResult).fGrav ≤ 10 * (10 * x.force)) ∧ s.csu.notice = false ∧ s.csu.nodeLevel ≤ 2 ∧
    s.frb.banks.releasePermitted = true ∧ (∀ p ∈ s.pvt.entries, (p.freshness = .fresh → p.decl.releasePermitted =
    true) ∧ p.lastAlert = none) ∧ s.hpc.releaseArmed = true ∧ s.hpc.withdrawalPending = false ∧ s.cpr.target = min
    s.mdc.settings.pMax s.hpc.pHold ∧ 0 < s.cpr.target :=
  ⟨{ (node .run .holding) with hpc := { (node .run .holding).hpc with pHold := 300 }, cpr := { (node .run .holding).cpr with target := 300 } },
      [1, 0, 100, 0], (decodeDrive [1, 0, 100, 0]).getD default, by decide⟩

theorem witness_ReleaseRampsDownOrAborts_4_b : ∃ (s : State) (data : List Byte) (x : DriveFields),
    s.inPhase .holding = true ∧ s.attended ∧ s.free.laneFault = none ∧ s.hal.lanes = .agreed ∧ s.hpc.last.release =
    none ∧ s.receives = true ∧ decodeDrive data = some x ∧ x.gear ≠ .neutral ∧ 0 < x.force ∧ (s.glu.uphill x.gear
    = false ∨ (({ s with vir := { s.vir with drive := some (x, { age := 0, fresh := true }) } } :
    State).laneResult).fGrav ≤ 10 * (10 * x.force)) ∧ s.csu.notice = false ∧ s.csu.nodeLevel ≤ 2 ∧
    s.frb.banks.releasePermitted = true ∧ (∀ p ∈ s.pvt.entries, (p.freshness = .fresh → p.decl.releasePermitted =
    true) ∧ p.lastAlert = none) ∧ s.hpc.releaseArmed = true ∧ s.hpc.withdrawalPending = false ∧ s.cpr.target = min
    s.mdc.settings.pMax s.hpc.pHold ∧ 0 < s.cpr.target :=
  ⟨{ (node .run .holding) with hpc := { (node .run .holding).hpc with pHold := 1 }, cpr := { (node .run .holding).cpr with target := 1 }, pad := { (node .run .holding).pad with asserted := true, hpcRequest := .assert }, glu := { (node .run .holding).glu with vehicleGrade := 30, gradeStatus := .formed, mass := 1000 } },
      [1, 0, 255, 0], (decodeDrive [1, 0, 255, 0]).getD default, by decide⟩

theorem witness_SecureTriggersHandOver_1_a : ∃ (s : State) (c : Instr),
    (s.inPhase .capturing = true ∨ s.inPhase .holding = true) ∧ s.hpc.handoverFailed = false ∧ s.free.laneFault = none
    ∧ s.spring = true ∧ s.pad.sensor ≠ .outOfRange ∧ ((c = .secureTimeExpiry ∧ sec s.mdc.settings.tSec ≤
    s.hpc.holdTime) ∨ (c = .driverAbsentTimeExpiry ∧ s.driverAbsent = true ∧ sec 10 ≤ s.hpc.driverAbsentTime) ∨ (c
    = .insufficiencyTimeExpiry ∧ s.hpc.last.insufficient = true ∧ ms 500 ≤ s.hpc.insufficiencyTime)) :=
  ⟨{ (node .run .holding) with hpc := { (node .run .holding).hpc with holdTime := sec 180 } }, .secureTimeExpiry,
      by decide⟩

theorem witness_SecureTriggersHandOver_1_b : ∃ (s : State) (c : Instr),
    (s.inPhase .capturing = true ∨ s.inPhase .holding = true) ∧ s.hpc.handoverFailed = false ∧ s.free.laneFault = none
    ∧ s.spring = true ∧ s.pad.sensor ≠ .outOfRange ∧ ((c = .secureTimeExpiry ∧ sec s.mdc.settings.tSec ≤
    s.hpc.holdTime) ∨ (c = .driverAbsentTimeExpiry ∧ s.driverAbsent = true ∧ sec 10 ≤ s.hpc.driverAbsentTime) ∨ (c
    = .insufficiencyTimeExpiry ∧ s.hpc.last.insufficient = true ∧ ms 500 ≤ s.hpc.insufficiencyTime)) :=
  ⟨{ (node .run .capturing) with hpc := { (node .run .capturing).hpc with driverAbsentTime := sec 10 }, vir := Vir.initial },
      .driverAbsentTimeExpiry, by decide⟩

theorem witness_SecureTriggersHandOver_1_c : ∃ (s : State) (c : Instr),
    (s.inPhase .capturing = true ∨ s.inPhase .holding = true) ∧ s.hpc.handoverFailed = false ∧ s.free.laneFault = none
    ∧ s.spring = true ∧ s.pad.sensor ≠ .outOfRange ∧ ((c = .secureTimeExpiry ∧ sec s.mdc.settings.tSec ≤
    s.hpc.holdTime) ∨ (c = .driverAbsentTimeExpiry ∧ s.driverAbsent = true ∧ sec 10 ≤ s.hpc.driverAbsentTime) ∨ (c
    = .insufficiencyTimeExpiry ∧ s.hpc.last.insufficient = true ∧ ms 500 ≤ s.hpc.insufficiencyTime)) :=
  ⟨{ (node .run .holding) with hpc := { (node .run .holding).hpc with insufficiencyTime := ms 500, last := { pCalc := 0, insufficient := true, fGrav := 0, release := none } } },
      .insufficiencyTimeExpiry, by decide⟩

theorem witness_SecureTriggersHandOver_2 : ∃ (s : State) (c : Instr),
    (s.inPhase .capturing = true ∨ s.inPhase .holding = true) ∧ s.hpc.handoverFailed = false ∧ s.free.laneFault = none
    ∧ s.spring = false ∧ s.springPeers.any (fun e => e.decl.phase != .phase .secured) = true ∧ ((c =
    .secureTimeExpiry ∧ sec s.mdc.settings.tSec ≤ s.hpc.holdTime) ∨ (c = .driverAbsentTimeExpiry ∧ s.driverAbsent
    = true ∧ sec 10 ≤ s.hpc.driverAbsentTime) ∨ (c = .insufficiencyTimeExpiry ∧ s.hpc.last.insufficient = true ∧
    ms 500 ≤ s.hpc.insufficiencyTime)) :=
  ⟨{ (node .run .holding) with hpc := { (node .run .holding).hpc with holdTime := sec 180 }, mdc := { (node .run .holding).mdc with straps := some { number := 3, spring := false, pol := true } }, pvt := { (node .run .holding).pvt with entries := [{ node := 5, decl := { (default : Declared) with springFitted := true, phase := .phase .holding }, creepSteady := false, age := 5, freshness := .fresh, lastAlert := none }] } },
      .secureTimeExpiry, by decide⟩

theorem witness_SecureTriggersHandOver_3_a : ∃ (s : State) (c : Instr),
    (s.inPhase .capturing = true ∨ s.inPhase .holding = true) ∧ s.hpc.handoverFailed = true ∧ s.demand = none ∧ ((c =
    .secureTimeExpiry ∧ sec s.mdc.settings.tSec ≤ s.hpc.holdTime) ∨ (c = .driverAbsentTimeExpiry ∧ s.driverAbsent
    = true ∧ sec 10 ≤ s.hpc.driverAbsentTime) ∨ (c = .insufficiencyTimeExpiry ∧ s.hpc.last.insufficient = true ∧
    ms 500 ≤ s.hpc.insufficiencyTime)) :=
  ⟨{ (node .run .holding) with hpc := { (node .run .holding).hpc with handoverFailed := true, holdTime := sec 180 } },
      .secureTimeExpiry, by decide⟩

theorem witness_SecureTriggersHandOver_3_b : ∃ (s : State) (c : Instr),
    (s.inPhase .capturing = true ∨ s.inPhase .holding = true) ∧ s.hpc.handoverFailed = true ∧ s.demand = none ∧ ((c =
    .secureTimeExpiry ∧ sec s.mdc.settings.tSec ≤ s.hpc.holdTime) ∨ (c = .driverAbsentTimeExpiry ∧ s.driverAbsent
    = true ∧ sec 10 ≤ s.hpc.driverAbsentTime) ∨ (c = .insufficiencyTimeExpiry ∧ s.hpc.last.insufficient = true ∧
    ms 500 ≤ s.hpc.insufficiencyTime)) :=
  ⟨{ (node .run .holding) with hpc := { (node .run .holding).hpc with handoverFailed := true, insufficiencyTime := ms 500, last := { pCalc := 0, insufficient := true, fGrav := 0, release := none } } },
      .insufficiencyTimeExpiry, by decide⟩

theorem witness_HandoverRunsThroughItsStages_1_a : ∃ (s : State) (h : HandoverRecord),
    s.inPhase .securing = true ∧ s.hpc.handover = some h ∧ h.stage = .settle ∧ ms 1000 ≤ h.stageTime ∧ s.ignition =
    true ∧ s.driveAway = false :=
  ⟨{ (node .run .securing) with hpc := { (node .run .securing).hpc with handover := some { preHold := 300, stage := .settle, stageTime := ms 1000, noSpringReported := false } } },
      { preHold := 300, stage := .settle, stageTime := ms 1000, noSpringReported := false }, by decide⟩

theorem witness_HandoverRunsThroughItsStages_1_b : ∃ (s : State) (h : HandoverRecord),
    s.inPhase .securing = true ∧ s.hpc.handover = some h ∧ h.stage = .settle ∧ ms 1000 ≤ h.stageTime ∧ s.ignition =
    true ∧ s.driveAway = false :=
  ⟨{ (node .run .securing) with hpc := { (node .run .securing).hpc with handover := some { preHold := 40, stage := .settle, stageTime := ms 1000, noSpringReported := false } } },
      { preHold := 40, stage := .settle, stageTime := ms 1000, noSpringReported := false }, by decide⟩

theorem witness_HandoverRunsThroughItsStages_2_a : ∃ (s : State) (h : HandoverRecord),
    s.inPhase .securing = true ∧ s.hpc.handover = some h ∧ h.stage = .ramp ∧ ms 5 ≤ h.stageTime ∧ s.ignition = true ∧
    s.driveAway = false ∧ s.cpr.target ≤ s.mdc.settings.pMax :=
  ⟨{ (node .run .securing) with hpc := { (node .run .securing).hpc with handover := some { preHold := 300, stage := .ramp, stageTime := ms 5, noSpringReported := false } }, cpr := { (node .run .securing).cpr with target := 42 } },
      { preHold := 300, stage := .ramp, stageTime := ms 5, noSpringReported := false }, by decide⟩

theorem witness_HandoverRunsThroughItsStages_2_b : ∃ (s : State) (h : HandoverRecord),
    s.inPhase .securing = true ∧ s.hpc.handover = some h ∧ h.stage = .ramp ∧ ms 5 ≤ h.stageTime ∧ s.ignition = true ∧
    s.driveAway = false ∧ s.cpr.target ≤ s.mdc.settings.pMax :=
  ⟨{ (node .run .securing) with hpc := { (node .run .securing).hpc with handover := some { preHold := 300, stage := .ramp, stageTime := ms 5, noSpringReported := false } }, cpr := { (node .run .securing).cpr with target := 41 } },
      { preHold := 300, stage := .ramp, stageTime := ms 5, noSpringReported := false }, by decide⟩

theorem witness_HandoverRunsThroughItsStages_3 : ∃ (s : State) (h : HandoverRecord) (p : Int),
    s.inPhase .securing = true ∧ s.hpc.handover = some h ∧ h.stage = .confirm ∧ s.spring = true ∧ s.pad.reading = true
    ∧ s.pad.watch = .waiting ∧ (-20 ≤ p ∧ p < 50) :=
  ⟨{ (node .run .securing) with hpc := { (node .run .securing).hpc with handover := some { preHold := 300, stage := .confirm, stageTime := 0, noSpringReported := false } }, pad := { (node .run .securing).pad with watch := .waiting } },
      { preHold := 300, stage := .confirm, stageTime := 0, noSpringReported := false }, 49, by decide⟩

theorem witness_HandoverRunsThroughItsStages_4 : ∃ (s : State) (h : HandoverRecord),
    s.inPhase .securing = true ∧ s.hpc.handover = some h ∧ h.stage = .confirm ∧ s.spring = true ∧ s.pad.watch =
    .waiting ∧ ms 1500 ≤ s.pad.confirmTime ∧ s.demand = none ∧ s.free.laneFault = none ∧ s.frb.responseActive =
    false ∧ s.frb.banks.spring = none :=
  ⟨{ (node .run .securing) with hpc := { (node .run .securing).hpc with handover := some { preHold := 300, stage := .confirm, stageTime := 0, noSpringReported := false } }, pad := { (node .run .securing).pad with watch := .waiting, confirmTime := ms 1500 } },
      { preHold := 300, stage := .confirm, stageTime := 0, noSpringReported := false }, by decide⟩

theorem witness_HandoverRunsThroughItsStages_5_a : ∃ (s : State) (data : List Byte) (x : DriveFields) (h :
HandoverRecord),
    s.inPhase .securing = true ∧ s.hpc.handover = some h ∧ s.attended ∧ s.demand = none ∧ s.free.laneFault = none ∧
    s.receives = true ∧ decodeDrive data = some x ∧ x.gear ≠ .neutral ∧ 0 < x.force ∧ s.cpr.regulating = true :=
  ⟨{ (node .run .securing) with hpc := { (node .run .securing).hpc with handover := some { preHold := 300, stage := .confirm, stageTime := 0, noSpringReported := false } } },
      [1, 0, 1, 0], (decodeDrive [1, 0, 1, 0]).getD default,
        { preHold := 300, stage := .confirm, stageTime := 0, noSpringReported := false }, by decide⟩

theorem witness_HandoverRunsThroughItsStages_5_b : ∃ (s : State) (data : List Byte) (x : DriveFields) (h :
HandoverRecord),
    s.inPhase .securing = true ∧ s.hpc.handover = some h ∧ s.attended ∧ s.demand = none ∧ s.free.laneFault = none ∧
    s.receives = true ∧ decodeDrive data = some x ∧ x.gear ≠ .neutral ∧ 0 < x.force ∧ s.cpr.regulating = true :=
  ⟨{ (node .run .securing) with hpc := { (node .run .securing).hpc with handover := some { preHold := 300, stage := .ramp, stageTime := 49, noSpringReported := false } } },
      [2, 0, 1, 0], (decodeDrive [2, 0, 1, 0]).getD default,
        { preHold := 300, stage := .ramp, stageTime := 49, noSpringReported := false }, by decide⟩

theorem witness_HandoverRunsThroughItsStages_6_a : ∃ (s : State) (data : List Byte) (x : DriveFields),
    s.inPhase .secured = true ∧ s.attended ∧ s.demand = none ∧ s.free.laneFault = none ∧ s.receives = true ∧
    decodeDrive data = some x ∧ x.gear ≠ .neutral ∧ 0 < x.force ∧ s.cpr.regulating = true :=
  ⟨(node .run .secured), [1, 0, 1, 0], (decodeDrive [1, 0, 1, 0]).getD default, by decide⟩

theorem witness_HandoverRunsThroughItsStages_6_b : ∃ (s : State) (data : List Byte) (x : DriveFields),
    s.inPhase .secured = true ∧ s.attended ∧ s.demand = none ∧ s.free.laneFault = none ∧ s.receives = true ∧
    decodeDrive data = some x ∧ x.gear ≠ .neutral ∧ 0 < x.force ∧ s.cpr.regulating = true :=
  ⟨retaining, [2, 0, 1, 0], (decodeDrive [2, 0, 1, 0]).getD default, by decide⟩

theorem witness_HandoverRunsThroughItsStages_7_a : ∃ (s : State) (h : HandoverRecord),
    s.inPhase .securing = true ∧ s.hpc.handover = some h ∧ h.stage = .wait :=
  ⟨{ (node .run .securing) with hpc := { (node .run .securing).hpc with handover := some { preHold := 300, stage := .wait, stageTime := 0, noSpringReported := false } } },
      { preHold := 300, stage := .wait, stageTime := 0, noSpringReported := false }, by decide⟩

theorem witness_HandoverRunsThroughItsStages_7_b : ∃ (s : State) (h : HandoverRecord),
    s.inPhase .securing = true ∧ s.hpc.handover = some h ∧ h.stage = .wait :=
  ⟨{ (node .run .securing) with hpc := { (node .run .securing).hpc with handover := some { preHold := 300, stage := .wait, stageTime := 0, noSpringReported := false } }, pvt := { (node .run .securing).pvt with entries := [{ node := 5, decl := { (default : Declared) with springFitted := true, phase := .phase .holding }, creepSteady := false, age := 5, freshness := .fresh, lastAlert := none }] } },
      { preHold := 300, stage := .wait, stageTime := 0, noSpringReported := false }, by decide⟩

theorem witness_HandoverRunsThroughItsStages_7_c : ∃ (s : State) (h : HandoverRecord),
    s.inPhase .securing = true ∧ s.hpc.handover = some h ∧ h.stage = .wait :=
  ⟨{ (node .run .securing) with hpc := { (node .run .securing).hpc with handover := some { preHold := 40, stage := .wait, stageTime := 0, noSpringReported := false } }, pvt := { (node .run .securing).pvt with entries := [{ node := 5, decl := { (default : Declared) with springFitted := true, phase := .phase .secured }, creepSteady := false, age := 5, freshness := .fresh, lastAlert := none }] } },
      { preHold := 40, stage := .wait, stageTime := 0, noSpringReported := false }, by decide⟩

theorem witness_WatchRequestIsAnswered_1 : ∃ (s : State),
    s.wakeHoldOver = true ∧ s.requestsWatch = true ∧ s.wmt.positionValid = true ∧ s.csu.notice = false ∧
    s.csu.noticeReached s.mdc.settings = false ∧ s.lineOk ∧ s.pad.mdcRequest = false :=
  ⟨{ (parked .run) with mdc := { (parked .run).mdc with wakeHold := sec 1, woken := true }, csu := { (parked .run).csu with effective := some 14 } },
      by decide⟩

theorem witness_WatchRequestIsAnswered_2_a : ∃ (s : State),
    s.wakeHoldOver = true ∧ s.requestsWatch = true ∧ (s.wmt.positionValid = false ∨ s.csu.notice = true) ∧
    s.free.laneFault = none :=
  ⟨{ (parked .run) with mdc := { (parked .run).mdc with wakeHold := sec 1, woken := true }, csu := { (parked .run).csu with notice := true } },
      by decide⟩

theorem witness_WatchRequestIsAnswered_2_b : ∃ (s : State),
    s.wakeHoldOver = true ∧ s.requestsWatch = true ∧ (s.wmt.positionValid = false ∨ s.csu.notice = true) ∧
    s.free.laneFault = none :=
  ⟨{ (parked .run) with mdc := { (parked .run).mdc with wakeHold := sec 1, woken := true }, wmt := Wmt.initial },
      by decide⟩

theorem witness_PressureReadingIsTaken_1_a : ∃ (s : State) (p : Int),
    s.steady ∧ s.cpr.reading = true ∧ s.cpr.regulating = false ∧ (-20 ≤ p ∧ p ≤ 1050) :=
  ⟨atConfig, -20, by decide⟩

theorem witness_PressureReadingIsTaken_1_b : ∃ (s : State) (p : Int),
    s.steady ∧ s.cpr.reading = true ∧ s.cpr.regulating = false ∧ (-20 ≤ p ∧ p ≤ 1050) :=
  ⟨driving, 1050, by decide⟩

theorem witness_PressureReadingIsTaken_2 : ∃ (s : State) (p : Int),
    s.steady ∧ s.cpr.reading = true ∧ s.cpr.regulating = false ∧ (p < -20 ∨ 1050 < p) ∧ s.cpr.rangeRun < 4 :=
  ⟨atConfig, -21, by decide⟩

theorem witness_PressureReadingIsTaken_3 : ∃ (s : State) (p : Int) (c : Instr),
    s.steady ∧ s.cpr.reading = true ∧ s.cpr.regulating = false ∧ s.frb.responseActive = false ∧ (p < -20 ∨ 1050 < p) ∧
    s.cpr.rangeRun = 4 ∧ s.cpr.sensor ≠ .outOfRange ∧ (c = .pressureReading p ∨ c = .chamberSensorOutOfRange p) :=
  ⟨{ atConfig with cpr := { atConfig.cpr with rangeRun := 4 } }, 1051, .chamberSensorOutOfRange 1051, by decide⟩

theorem witness_PressureReadingIsTaken_4_a : ∃ (s : State) (p : Int),
    s.steady ∧ s.cpr.regulating = false ∧ ((-20 ≤ p ∧ p ≤ 1050) ∨ s.cpr.rangeRun ≠ 4 ∨ s.cpr.sensor = .outOfRange) ∧
    s.cpr.rangeRun ≤ 5 ∧ (s.cpr.rangeRun = 5 → s.cpr.sensor = .outOfRange) :=
  ⟨atConfig, 1051, by decide⟩

theorem witness_PressureReadingIsTaken_4_b : ∃ (s : State) (p : Int),
    s.steady ∧ s.cpr.regulating = false ∧ ((-20 ≤ p ∧ p ≤ 1050) ∨ s.cpr.rangeRun ≠ 4 ∨ s.cpr.sensor = .outOfRange) ∧
    s.cpr.rangeRun ≤ 5 ∧ (s.cpr.rangeRun = 5 → s.cpr.sensor = .outOfRange) :=
  ⟨{ atConfig with cpr := { atConfig.cpr with rangeRun := 4 } }, 1050, by decide⟩

theorem witness_RegulatedReadingDrivesToBand_1_a : ∃ (k : Cpr) (p : Int),
    k.regulating = true ∧ k.abandoned = false ∧ (-20 ≤ p ∧ p ≤ 1050) :=
  ⟨{ Cpr.initial with regulating := true, target := 300 }, 284, by decide⟩

theorem witness_RegulatedReadingDrivesToBand_1_b : ∃ (k : Cpr) (p : Int),
    k.regulating = true ∧ k.abandoned = false ∧ (-20 ≤ p ∧ p ≤ 1050) :=
  ⟨{ Cpr.initial with regulating := true, target := 300 }, 285, by decide⟩

theorem witness_RegulatedReadingDrivesToBand_1_c : ∃ (k : Cpr) (p : Int),
    k.regulating = true ∧ k.abandoned = false ∧ (-20 ≤ p ∧ p ≤ 1050) :=
  ⟨{ Cpr.initial with regulating := true, target := 300 }, 315, by decide⟩

theorem witness_RegulatedReadingDrivesToBand_1_d : ∃ (k : Cpr) (p : Int),
    k.regulating = true ∧ k.abandoned = false ∧ (-20 ≤ p ∧ p ≤ 1050) :=
  ⟨{ Cpr.initial with regulating := true, target := 300 }, 316, by decide⟩

theorem witness_RegulatedReadingDrivesToBand_1_e : ∃ (k : Cpr) (p : Int),
    k.regulating = true ∧ k.abandoned = false ∧ (-20 ≤ p ∧ p ≤ 1050) :=
  ⟨{ Cpr.initial with regulating := true, target := 300, operation := some { direction := .apply, time := 799 } }, 284,
      by decide⟩

theorem witness_RegulatedReadingDrivesToBand_1_f : ∃ (k : Cpr) (p : Int),
    k.regulating = true ∧ k.abandoned = false ∧ (-20 ≤ p ∧ p ≤ 1050) :=
  ⟨{ Cpr.initial with regulating := true, target := 300, operation := some { direction := .apply, time := 798 } }, 284,
      by decide⟩

theorem witness_RegulatedReadingDrivesToBand_1_g : ∃ (k : Cpr) (p : Int),
    k.regulating = true ∧ k.abandoned = false ∧ (-20 ≤ p ∧ p ≤ 1050) :=
  ⟨{ Cpr.initial with regulating := true, target := 300, operation := some { direction := .vent, time := 799 }, ventReported := true },
      316, by decide⟩

theorem witness_RegulatedReadingDrivesToBand_1_h : ∃ (k : Cpr) (p : Int),
    k.regulating = true ∧ k.abandoned = false ∧ (-20 ≤ p ∧ p ≤ 1050) :=
  ⟨{ Cpr.initial with regulating := true, target := 300, operation := some { direction := .apply, time := 799 } }, 316,
      by decide⟩

theorem witness_RegulatedReadingDrivesToBand_2 : ∃ (k : Cpr) (p : Int),
    k.regulating = true ∧ (p < -20 ∨ 1050 < p) ∧ 4 ≤ k.rangeRun ∧ k.sensor ≠ .outOfRange :=
  ⟨{ Cpr.initial with regulating := true, rangeRun := 4 }, 1051, by decide⟩

theorem witness_TimeoutsAreAnsweredInHolding_1 : ∃ (s : State) (p : Int),
    s.inPhase .holding = true ∧ s.attended ∧ s.demand = none ∧ s.free.laneFault = none ∧ s.mdc.settings.pMax ≤
    s.hpc.pHold ∧ s.frb.banks.valve = none ∧ s.frb.responseActive = false ∧ s.cpr.reading = true ∧
    s.cpr.applyReported = false ∧ (s.cpr.read p).2.applyTimeout = true :=
  ⟨{ (node .run .holding) with hpc := { (node .run .holding).hpc with pHold := 800 }, cpr := { (node .run .holding).cpr with target := 800, operation := some { direction := .apply, time := 799 } } },
      784, by decide⟩

theorem witness_TimeoutsAreAnsweredInHolding_2 : ∃ (s : State) (p : Int),
    s.inPhase .holding = true ∧ s.attended ∧ s.demand = none ∧ s.free.laneFault = none ∧ s.frb.banks.valve = none ∧
    s.cpr.reading = true ∧ s.cpr.ventReported = false ∧ (s.cpr.read p).2.ventTimeout = true :=
  ⟨{ (node .run .holding) with hpc := { (node .run .holding).hpc with pHold := 200 }, cpr := { (node .run .holding).cpr with target := 200, operation := some { direction := .vent, time := 799 } } },
      216, by decide⟩

theorem witness_ReadbackMismatchIsReported_1_a : ∃ (s : State) (h a v : Bool) (c : Instr) (happens : Bool),
    (s.steady ∨ s.mdc.mode = .init) ∧ s.frb.responseActive = false ∧ (((if ((fun r x l => x != l && !r.reported &&
    decide (19 ≤ r.mismatch)) : Readback → Bool → Bool → Bool) s.cpr.holdBack h s.cpr.valves.hold then
    [.holdValve] else []) ++ (if ((fun r x l => x != l && !r.reported && decide (19 ≤ r.mismatch)) : Readback →
    Bool → Bool → Bool) s.cpr.applyBack a s.cpr.valves.apply then [.applyValve] else []) ++ (if ((fun r x l => x
    != l && !r.reported && decide (19 ≤ r.mismatch)) : Readback → Bool → Bool → Bool) s.cpr.ventBack v
    s.cpr.valves.vent then [.ventValve] else [])) : List Element).length ≤ 1 ∧ ((c, happens) ∈ [(.readbackSample h
    a v, true), (.readbackMismatch h a v, !(((if ((fun r x l => x != l && !r.reported && decide (19 ≤ r.mismatch))
    : Readback → Bool → Bool → Bool) s.cpr.holdBack h s.cpr.valves.hold then [.holdValve] else []) ++ (if ((fun r
    x l => x != l && !r.reported && decide (19 ≤ r.mismatch)) : Readback → Bool → Bool → Bool) s.cpr.applyBack a
    s.cpr.valves.apply then [.applyValve] else []) ++ (if ((fun r x l => x != l && !r.reported && decide (19 ≤
    r.mismatch)) : Readback → Bool → Bool → Bool) s.cpr.ventBack v s.cpr.valves.vent then [.ventValve] else [])) :
    List Element).isEmpty)]) :=
  ⟨atConfig, false, false, false, .readbackSample false false false, true, by decide⟩

theorem witness_ReadbackMismatchIsReported_1_b : ∃ (s : State) (h a v : Bool) (c : Instr) (happens : Bool),
    (s.steady ∨ s.mdc.mode = .init) ∧ s.frb.responseActive = false ∧ (((if ((fun r x l => x != l && !r.reported &&
    decide (19 ≤ r.mismatch)) : Readback → Bool → Bool → Bool) s.cpr.holdBack h s.cpr.valves.hold then
    [.holdValve] else []) ++ (if ((fun r x l => x != l && !r.reported && decide (19 ≤ r.mismatch)) : Readback →
    Bool → Bool → Bool) s.cpr.applyBack a s.cpr.valves.apply then [.applyValve] else []) ++ (if ((fun r x l => x
    != l && !r.reported && decide (19 ≤ r.mismatch)) : Readback → Bool → Bool → Bool) s.cpr.ventBack v
    s.cpr.valves.vent then [.ventValve] else [])) : List Element).length ≤ 1 ∧ ((c, happens) ∈ [(.readbackSample h
    a v, true), (.readbackMismatch h a v, !(((if ((fun r x l => x != l && !r.reported && decide (19 ≤ r.mismatch))
    : Readback → Bool → Bool → Bool) s.cpr.holdBack h s.cpr.valves.hold then [.holdValve] else []) ++ (if ((fun r
    x l => x != l && !r.reported && decide (19 ≤ r.mismatch)) : Readback → Bool → Bool → Bool) s.cpr.applyBack a
    s.cpr.valves.apply then [.applyValve] else []) ++ (if ((fun r x l => x != l && !r.reported && decide (19 ≤
    r.mismatch)) : Readback → Bool → Bool → Bool) s.cpr.ventBack v s.cpr.valves.vent then [.ventValve] else [])) :
    List Element).isEmpty)]) :=
  ⟨{ (node .init .released) with cpr := { (node .init .released).cpr with holdBack := { Readback.initial with mismatch := 19 } } },
      true, false, false, .readbackMismatch true false false, true, by decide⟩

theorem witness_ReadbackMismatchIsReported_1_c : ∃ (s : State) (h a v : Bool) (c : Instr) (happens : Bool),
    (s.steady ∨ s.mdc.mode = .init) ∧ s.frb.responseActive = false ∧ (((if ((fun r x l => x != l && !r.reported &&
    decide (19 ≤ r.mismatch)) : Readback → Bool → Bool → Bool) s.cpr.holdBack h s.cpr.valves.hold then
    [.holdValve] else []) ++ (if ((fun r x l => x != l && !r.reported && decide (19 ≤ r.mismatch)) : Readback →
    Bool → Bool → Bool) s.cpr.applyBack a s.cpr.valves.apply then [.applyValve] else []) ++ (if ((fun r x l => x
    != l && !r.reported && decide (19 ≤ r.mismatch)) : Readback → Bool → Bool → Bool) s.cpr.ventBack v
    s.cpr.valves.vent then [.ventValve] else [])) : List Element).length ≤ 1 ∧ ((c, happens) ∈ [(.readbackSample h
    a v, true), (.readbackMismatch h a v, !(((if ((fun r x l => x != l && !r.reported && decide (19 ≤ r.mismatch))
    : Readback → Bool → Bool → Bool) s.cpr.holdBack h s.cpr.valves.hold then [.holdValve] else []) ++ (if ((fun r
    x l => x != l && !r.reported && decide (19 ≤ r.mismatch)) : Readback → Bool → Bool → Bool) s.cpr.applyBack a
    s.cpr.valves.apply then [.applyValve] else []) ++ (if ((fun r x l => x != l && !r.reported && decide (19 ≤
    r.mismatch)) : Readback → Bool → Bool → Bool) s.cpr.ventBack v s.cpr.valves.vent then [.ventValve] else [])) :
    List Element).isEmpty)]) :=
  ⟨atConfig, true, false, false, .readbackMismatch true false false, false, by decide⟩

theorem witness_ReadbackMismatchIsReported_1_d : ∃ (s : State) (h a v : Bool) (c : Instr) (happens : Bool),
    (s.steady ∨ s.mdc.mode = .init) ∧ s.frb.responseActive = false ∧ (((if ((fun r x l => x != l && !r.reported &&
    decide (19 ≤ r.mismatch)) : Readback → Bool → Bool → Bool) s.cpr.holdBack h s.cpr.valves.hold then
    [.holdValve] else []) ++ (if ((fun r x l => x != l && !r.reported && decide (19 ≤ r.mismatch)) : Readback →
    Bool → Bool → Bool) s.cpr.applyBack a s.cpr.valves.apply then [.applyValve] else []) ++ (if ((fun r x l => x
    != l && !r.reported && decide (19 ≤ r.mismatch)) : Readback → Bool → Bool → Bool) s.cpr.ventBack v
    s.cpr.valves.vent then [.ventValve] else [])) : List Element).length ≤ 1 ∧ ((c, happens) ∈ [(.readbackSample h
    a v, true), (.readbackMismatch h a v, !(((if ((fun r x l => x != l && !r.reported && decide (19 ≤ r.mismatch))
    : Readback → Bool → Bool → Bool) s.cpr.holdBack h s.cpr.valves.hold then [.holdValve] else []) ++ (if ((fun r
    x l => x != l && !r.reported && decide (19 ≤ r.mismatch)) : Readback → Bool → Bool → Bool) s.cpr.applyBack a
    s.cpr.valves.apply then [.applyValve] else []) ++ (if ((fun r x l => x != l && !r.reported && decide (19 ≤
    r.mismatch)) : Readback → Bool → Bool → Bool) s.cpr.ventBack v s.cpr.valves.vent then [.ventValve] else [])) :
    List Element).isEmpty)]) :=
  ⟨{ (node .init .released) with cpr := { (node .init .released).cpr with applyBack := { Readback.initial with mismatch := 19 } } },
      false, true, false, .readbackMismatch false true false, true, by decide⟩

theorem witness_ReadbackMismatchIsReported_1_e : ∃ (s : State) (h a v : Bool) (c : Instr) (happens : Bool),
    (s.steady ∨ s.mdc.mode = .init) ∧ s.frb.responseActive = false ∧ (((if ((fun r x l => x != l && !r.reported &&
    decide (19 ≤ r.mismatch)) : Readback → Bool → Bool → Bool) s.cpr.holdBack h s.cpr.valves.hold then
    [.holdValve] else []) ++ (if ((fun r x l => x != l && !r.reported && decide (19 ≤ r.mismatch)) : Readback →
    Bool → Bool → Bool) s.cpr.applyBack a s.cpr.valves.apply then [.applyValve] else []) ++ (if ((fun r x l => x
    != l && !r.reported && decide (19 ≤ r.mismatch)) : Readback → Bool → Bool → Bool) s.cpr.ventBack v
    s.cpr.valves.vent then [.ventValve] else [])) : List Element).length ≤ 1 ∧ ((c, happens) ∈ [(.readbackSample h
    a v, true), (.readbackMismatch h a v, !(((if ((fun r x l => x != l && !r.reported && decide (19 ≤ r.mismatch))
    : Readback → Bool → Bool → Bool) s.cpr.holdBack h s.cpr.valves.hold then [.holdValve] else []) ++ (if ((fun r
    x l => x != l && !r.reported && decide (19 ≤ r.mismatch)) : Readback → Bool → Bool → Bool) s.cpr.applyBack a
    s.cpr.valves.apply then [.applyValve] else []) ++ (if ((fun r x l => x != l && !r.reported && decide (19 ≤
    r.mismatch)) : Readback → Bool → Bool → Bool) s.cpr.ventBack v s.cpr.valves.vent then [.ventValve] else [])) :
    List Element).isEmpty)]) :=
  ⟨{ atConfig with cpr := { atConfig.cpr with ventBack := { Readback.initial with mismatch := 19 } } }, false, false,
      true, .readbackSample false false true, true, by decide⟩

theorem witness_ReadbackMismatchIsReported_1_f : ∃ (s : State) (h a v : Bool) (c : Instr) (happens : Bool),
    (s.steady ∨ s.mdc.mode = .init) ∧ s.frb.responseActive = false ∧ (((if ((fun r x l => x != l && !r.reported &&
    decide (19 ≤ r.mismatch)) : Readback → Bool → Bool → Bool) s.cpr.holdBack h s.cpr.valves.hold then
    [.holdValve] else []) ++ (if ((fun r x l => x != l && !r.reported && decide (19 ≤ r.mismatch)) : Readback →
    Bool → Bool → Bool) s.cpr.applyBack a s.cpr.valves.apply then [.applyValve] else []) ++ (if ((fun r x l => x
    != l && !r.reported && decide (19 ≤ r.mismatch)) : Readback → Bool → Bool → Bool) s.cpr.ventBack v
    s.cpr.valves.vent then [.ventValve] else [])) : List Element).length ≤ 1 ∧ ((c, happens) ∈ [(.readbackSample h
    a v, true), (.readbackMismatch h a v, !(((if ((fun r x l => x != l && !r.reported && decide (19 ≤ r.mismatch))
    : Readback → Bool → Bool → Bool) s.cpr.holdBack h s.cpr.valves.hold then [.holdValve] else []) ++ (if ((fun r
    x l => x != l && !r.reported && decide (19 ≤ r.mismatch)) : Readback → Bool → Bool → Bool) s.cpr.applyBack a
    s.cpr.valves.apply then [.applyValve] else []) ++ (if ((fun r x l => x != l && !r.reported && decide (19 ≤
    r.mismatch)) : Readback → Bool → Bool → Bool) s.cpr.ventBack v s.cpr.valves.vent then [.ventValve] else [])) :
    List Element).isEmpty)]) :=
  ⟨{ atConfig with cpr := { atConfig.cpr with holdBack := { Readback.initial with mismatch := 20, reported := true } } },
      true, false, false, .readbackSample true false false, true, by decide⟩

theorem witness_ReadbackMismatchIsReported_1_g : ∃ (s : State) (h a v : Bool) (c : Instr) (happens : Bool),
    (s.steady ∨ s.mdc.mode = .init) ∧ s.frb.responseActive = false ∧ (((if ((fun r x l => x != l && !r.reported &&
    decide (19 ≤ r.mismatch)) : Readback → Bool → Bool → Bool) s.cpr.holdBack h s.cpr.valves.hold then
    [.holdValve] else []) ++ (if ((fun r x l => x != l && !r.reported && decide (19 ≤ r.mismatch)) : Readback →
    Bool → Bool → Bool) s.cpr.applyBack a s.cpr.valves.apply then [.applyValve] else []) ++ (if ((fun r x l => x
    != l && !r.reported && decide (19 ≤ r.mismatch)) : Readback → Bool → Bool → Bool) s.cpr.ventBack v
    s.cpr.valves.vent then [.ventValve] else [])) : List Element).length ≤ 1 ∧ ((c, happens) ∈ [(.readbackSample h
    a v, true), (.readbackMismatch h a v, !(((if ((fun r x l => x != l && !r.reported && decide (19 ≤ r.mismatch))
    : Readback → Bool → Bool → Bool) s.cpr.holdBack h s.cpr.valves.hold then [.holdValve] else []) ++ (if ((fun r
    x l => x != l && !r.reported && decide (19 ≤ r.mismatch)) : Readback → Bool → Bool → Bool) s.cpr.applyBack a
    s.cpr.valves.apply then [.applyValve] else []) ++ (if ((fun r x l => x != l && !r.reported && decide (19 ≤
    r.mismatch)) : Readback → Bool → Bool → Bool) s.cpr.ventBack v s.cpr.valves.vent then [.ventValve] else [])) :
    List Element).isEmpty)]) :=
  ⟨{ atConfig with cpr := { atConfig.cpr with holdBack := { Readback.initial with mismatch := 18 } } }, true, false,
      false, .readbackMismatch true false false, false, by decide⟩

theorem witness_TimesRunOutAtTheirLimits_1 : ∃ (s : State),
    s.steady ∧ s.pad.drive ≠ .idle ∧ ms 100 ≤ s.pad.driveTime :=
  ⟨{ atConfig with pad := { atConfig.pad with drive := .withdraw, driveTime := ms 100 } }, by decide⟩

theorem witness_TimesRunOutAtTheirLimits_2 : ∃ (s : State),
    s.steady ∧ s.mdc.mode = .safe ∧ sec 2 ≤ s.mdc.dwellTime :=
  ⟨{ inSafe with mdc := { inSafe.mdc with dwellTime := sec 2 } }, by decide⟩

theorem witness_TimesRunOutAtTheirLimits_3 : ∃ (s : State),
    s.steady ∧ s.mdc.mode = .run ∧ sec 120 ≤ s.mdc.reliefTime :=
  ⟨{ driving with mdc := { driving.mdc with reliefTime := sec 120 } }, by decide⟩

theorem witness_TimesRunOutAtTheirLimits_4 : ∃ (s : State),
    s.mdc.mode = .watch ∧ s.csu.noticeReached s.mdc.settings = false ∧ 0 < s.sgi.rouseCount ∧ ms 2 ≤ s.sgi.rouseWindow :=
  ⟨{ (parked .watch) with sgi := { (parked .watch).sgi with rouseCount := 2, rouseWindow := ms 2 } }, by decide⟩

theorem witness_TimesRunOutAtTheirLimits_5_a : ∃ (s : State),
    s.mdc.mode = .watch ∧ s.csu.noticeReached s.mdc.settings = false ∧ s.sgi.rouseCount < 2 :=
  ⟨parked .watch, by decide⟩

theorem witness_TimesRunOutAtTheirLimits_5_b : ∃ (s : State),
    s.mdc.mode = .watch ∧ s.csu.noticeReached s.mdc.settings = false ∧ s.sgi.rouseCount < 2 :=
  ⟨{ (parked .watch) with sgi := { (parked .watch).sgi with rouseCount := 1 } }, by decide⟩

theorem witness_TimesRunOutAtTheirLimits_6_a : ∃ (s : State),
    (s.steady ∨ (s.mdc.mode = .watch ∧ s.csu.noticeReached s.mdc.settings = false)) :=
  ⟨atConfig, by decide⟩

theorem witness_TimesRunOutAtTheirLimits_6_b : ∃ (s : State),
    (s.steady ∨ (s.mdc.mode = .watch ∧ s.csu.noticeReached s.mdc.settings = false)) :=
  ⟨parked .watch, by decide⟩

theorem witness_TimesRunOutAtTheirLimits_7_a : ∃ (s : State),
    s.steady ∧ (s.mdc.mode = .safe → s.mdc.dwellDone = false ∨ s.frb.banks.anySevere = true) :=
  ⟨inSafe, by decide⟩

theorem witness_TimesRunOutAtTheirLimits_7_b : ∃ (s : State),
    s.steady ∧ (s.mdc.mode = .safe → s.mdc.dwellDone = false ∨ s.frb.banks.anySevere = true) :=
  ⟨driving, by decide⟩

theorem witness_SpringReadingIsTaken_1_a : ∃ (s : State) (p : Int) (c : Instr) (happens : Bool),
    s.steady ∧ s.spring = true ∧ s.pad.reading = true ∧ s.frb.responseActive = false ∧ ((c, happens) ∈
    [(.springReading p, true), (.springSensorOutOfRange p, (!(decide (-20 ≤ p) && decide (p ≤ 1050)) && decide (4
    ≤ s.pad.rangeRun) && s.pad.sensor != .outOfRange)), (.confirmLost p, ((decide (-20 ≤ p) && decide (p ≤ 1050))
    && (if (decide (-20 ≤ p) && decide (p ≤ 1050)) = true ∧ s.pad.watch = .waiting ∧ ((max 0 (min 1000 p)).toNat)
    < 50 then Watch.confirmed else s.pad.watch) == .confirmed && s.pad.asserted && decide (100 ≤ ((max 0 (min 1000
    p)).toNat)) && decide (490 ≤ s.pad.lostTime) && !s.pad.lostReported))]) :=
  ⟨atConfig, 49, .springReading 49, true, by decide⟩

theorem witness_SpringReadingIsTaken_1_b : ∃ (s : State) (p : Int) (c : Instr) (happens : Bool),
    s.steady ∧ s.spring = true ∧ s.pad.reading = true ∧ s.frb.responseActive = false ∧ ((c, happens) ∈
    [(.springReading p, true), (.springSensorOutOfRange p, (!(decide (-20 ≤ p) && decide (p ≤ 1050)) && decide (4
    ≤ s.pad.rangeRun) && s.pad.sensor != .outOfRange)), (.confirmLost p, ((decide (-20 ≤ p) && decide (p ≤ 1050))
    && (if (decide (-20 ≤ p) && decide (p ≤ 1050)) = true ∧ s.pad.watch = .waiting ∧ ((max 0 (min 1000 p)).toNat)
    < 50 then Watch.confirmed else s.pad.watch) == .confirmed && s.pad.asserted && decide (100 ≤ ((max 0 (min 1000
    p)).toNat)) && decide (490 ≤ s.pad.lostTime) && !s.pad.lostReported))]) :=
  ⟨{ atConfig with pad := { atConfig.pad with rangeRun := 4 } }, 1051, .springSensorOutOfRange 1051, true, by decide⟩

theorem witness_SpringReadingIsTaken_1_c : ∃ (s : State) (p : Int) (c : Instr) (happens : Bool),
    s.steady ∧ s.spring = true ∧ s.pad.reading = true ∧ s.frb.responseActive = false ∧ ((c, happens) ∈
    [(.springReading p, true), (.springSensorOutOfRange p, (!(decide (-20 ≤ p) && decide (p ≤ 1050)) && decide (4
    ≤ s.pad.rangeRun) && s.pad.sensor != .outOfRange)), (.confirmLost p, ((decide (-20 ≤ p) && decide (p ≤ 1050))
    && (if (decide (-20 ≤ p) && decide (p ≤ 1050)) = true ∧ s.pad.watch = .waiting ∧ ((max 0 (min 1000 p)).toNat)
    < 50 then Watch.confirmed else s.pad.watch) == .confirmed && s.pad.asserted && decide (100 ≤ ((max 0 (min 1000
    p)).toNat)) && decide (490 ≤ s.pad.lostTime) && !s.pad.lostReported))]) :=
  ⟨atConfig, 100, .confirmLost 100, false, by decide⟩

theorem witness_SpringReadingIsTaken_1_d : ∃ (s : State) (p : Int) (c : Instr) (happens : Bool),
    s.steady ∧ s.spring = true ∧ s.pad.reading = true ∧ s.frb.responseActive = false ∧ ((c, happens) ∈
    [(.springReading p, true), (.springSensorOutOfRange p, (!(decide (-20 ≤ p) && decide (p ≤ 1050)) && decide (4
    ≤ s.pad.rangeRun) && s.pad.sensor != .outOfRange)), (.confirmLost p, ((decide (-20 ≤ p) && decide (p ≤ 1050))
    && (if (decide (-20 ≤ p) && decide (p ≤ 1050)) = true ∧ s.pad.watch = .waiting ∧ ((max 0 (min 1000 p)).toNat)
    < 50 then Watch.confirmed else s.pad.watch) == .confirmed && s.pad.asserted && decide (100 ≤ ((max 0 (min 1000
    p)).toNat)) && decide (490 ≤ s.pad.lostTime) && !s.pad.lostReported))]) :=
  ⟨{ atConfig with pad := { atConfig.pad with watch := .confirmed, asserted := true, lostTime := 490 } }, 100,
      .confirmLost 100, true, by decide⟩

theorem witness_SpringReadingIsTaken_1_e : ∃ (s : State) (p : Int) (c : Instr) (happens : Bool),
    s.steady ∧ s.spring = true ∧ s.pad.reading = true ∧ s.frb.responseActive = false ∧ ((c, happens) ∈
    [(.springReading p, true), (.springSensorOutOfRange p, (!(decide (-20 ≤ p) && decide (p ≤ 1050)) && decide (4
    ≤ s.pad.rangeRun) && s.pad.sensor != .outOfRange)), (.confirmLost p, ((decide (-20 ≤ p) && decide (p ≤ 1050))
    && (if (decide (-20 ≤ p) && decide (p ≤ 1050)) = true ∧ s.pad.watch = .waiting ∧ ((max 0 (min 1000 p)).toNat)
    < 50 then Watch.confirmed else s.pad.watch) == .confirmed && s.pad.asserted && decide (100 ≤ ((max 0 (min 1000
    p)).toNat)) && decide (490 ≤ s.pad.lostTime) && !s.pad.lostReported))]) :=
  ⟨{ atConfig with pad := { atConfig.pad with watch := .confirmed, asserted := true, lostTime := 489 } }, 100,
      .confirmLost 100, false, by decide⟩

theorem witness_SpringReadingIsTaken_1_f : ∃ (s : State) (p : Int) (c : Instr) (happens : Bool),
    s.steady ∧ s.spring = true ∧ s.pad.reading = true ∧ s.frb.responseActive = false ∧ ((c, happens) ∈
    [(.springReading p, true), (.springSensorOutOfRange p, (!(decide (-20 ≤ p) && decide (p ≤ 1050)) && decide (4
    ≤ s.pad.rangeRun) && s.pad.sensor != .outOfRange)), (.confirmLost p, ((decide (-20 ≤ p) && decide (p ≤ 1050))
    && (if (decide (-20 ≤ p) && decide (p ≤ 1050)) = true ∧ s.pad.watch = .waiting ∧ ((max 0 (min 1000 p)).toNat)
    < 50 then Watch.confirmed else s.pad.watch) == .confirmed && s.pad.asserted && decide (100 ≤ ((max 0 (min 1000
    p)).toNat)) && decide (490 ≤ s.pad.lostTime) && !s.pad.lostReported))]) :=
  ⟨{ atConfig with pad := { atConfig.pad with watch := .confirmed, asserted := true, lostTime := 490 } }, 99,
      .springReading 99, true, by decide⟩

theorem witness_SpringReadingIsTaken_1_g : ∃ (s : State) (p : Int) (c : Instr) (happens : Bool),
    s.steady ∧ s.spring = true ∧ s.pad.reading = true ∧ s.frb.responseActive = false ∧ ((c, happens) ∈
    [(.springReading p, true), (.springSensorOutOfRange p, (!(decide (-20 ≤ p) && decide (p ≤ 1050)) && decide (4
    ≤ s.pad.rangeRun) && s.pad.sensor != .outOfRange)), (.confirmLost p, ((decide (-20 ≤ p) && decide (p ≤ 1050))
    && (if (decide (-20 ≤ p) && decide (p ≤ 1050)) = true ∧ s.pad.watch = .waiting ∧ ((max 0 (min 1000 p)).toNat)
    < 50 then Watch.confirmed else s.pad.watch) == .confirmed && s.pad.asserted && decide (100 ≤ ((max 0 (min 1000
    p)).toNat)) && decide (490 ≤ s.pad.lostTime) && !s.pad.lostReported))]) :=
  ⟨{ atConfig with pad := { atConfig.pad with watch := .waiting, rangeRun := 4 } }, -21, .springSensorOutOfRange (-21),
      true, by decide⟩

theorem witness_SpringReadingIsTaken_1_h : ∃ (s : State) (p : Int) (c : Instr) (happens : Bool),
    s.steady ∧ s.spring = true ∧ s.pad.reading = true ∧ s.frb.responseActive = false ∧ ((c, happens) ∈
    [(.springReading p, true), (.springSensorOutOfRange p, (!(decide (-20 ≤ p) && decide (p ≤ 1050)) && decide (4
    ≤ s.pad.rangeRun) && s.pad.sensor != .outOfRange)), (.confirmLost p, ((decide (-20 ≤ p) && decide (p ≤ 1050))
    && (if (decide (-20 ≤ p) && decide (p ≤ 1050)) = true ∧ s.pad.watch = .waiting ∧ ((max 0 (min 1000 p)).toNat)
    < 50 then Watch.confirmed else s.pad.watch) == .confirmed && s.pad.asserted && decide (100 ≤ ((max 0 (min 1000
    p)).toNat)) && decide (490 ≤ s.pad.lostTime) && !s.pad.lostReported))]) :=
  ⟨{ atConfig with pad := { atConfig.pad with rangeRun := 3 } }, 1051, .springSensorOutOfRange 1051, false, by decide⟩

theorem witness_SpringReadingIsTaken_2 : ∃ (s : State),
    s.steady ∧ s.spring = true ∧ s.pad.watch = .waiting ∧ ms 1500 ≤ s.pad.confirmTime ∧ s.frb.responseActive = false :=
  ⟨{ inSafe with pad := { inSafe.pad with watch := .waiting, confirmTime := ms 1500 } }, by decide⟩

theorem witness_TransmissionFollowsTheList_1 : ∃ (s : State) (f : TxFrame) (l : List TxFrame),
    s.steady ∧ s.sgi.joined = true ∧ s.sgi.list = f :: l ∧ s.sgi.inProgress = none :=
  ⟨{ atConfig with sgi := { atConfig.sgi with list := [oneFrame] } }, oneFrame, [], by decide⟩

theorem witness_TransmissionFollowsTheList_2_a : ∃ (s : State),
    s.steady :=
  ⟨atConfig, by decide⟩

theorem witness_TransmissionFollowsTheList_2_b : ∃ (s : State),
    s.steady :=
  ⟨inSafe, by decide⟩

theorem witness_TransmissionFollowsTheList_2_c : ∃ (s : State),
    s.steady :=
  ⟨driving, by decide⟩

theorem witness_TransmissionFollowsTheList_3_a : ∃ (s : State) (x : Transmission),
    s.steady ∧ s.sgi.joined = true ∧ s.sgi.countsOk ∧ s.sgi.inProgress = some x :=
  ⟨{ atConfig with sgi := { atConfig.sgi with list := [oneFrame], inProgress := some { frame := oneFrame, replaced := false } } },
      { frame := oneFrame, replaced := false }, by decide⟩

theorem witness_TransmissionFollowsTheList_3_b : ∃ (s : State) (x : Transmission),
    s.steady ∧ s.sgi.joined = true ∧ s.sgi.countsOk ∧ s.sgi.inProgress = some x :=
  ⟨{ inSafe with sgi := { inSafe.sgi with list := [oneFrame], inProgress := some { frame := oneFrame, replaced := true } } },
      { frame := oneFrame, replaced := true }, by decide⟩

theorem witness_TransmissionFollowsTheList_4_a : ∃ (s : State),
    s.steady ∧ s.mdc.mode ≠ .config ∧ ms 20 ≤ s.sgi.declarationTimer :=
  ⟨{ inSafe with sgi := { inSafe.sgi with declarationTimer := ms 20 } }, by decide⟩

theorem witness_TransmissionFollowsTheList_4_b : ∃ (s : State),
    s.steady ∧ s.mdc.mode ≠ .config ∧ ms 20 ≤ s.sgi.declarationTimer :=
  ⟨{ driving with sgi := { driving.sgi with declarationTimer := ms 20, bus := .off } }, by decide⟩

theorem witness_ErrorCountsDriveBusState_1_a : ∃ (s : State) (c : Instr) (tx rx : Nat),
    s.steady ∧ s.sgi.countsOk ∧ ((c = .transmitError ∧ s.sgi.joined = true ∧ s.sgi.inProgress.isSome = true ∧ tx =
    s.sgi.txErrors + 8 ∧ tx ≤ 255 ∧ rx = s.sgi.rxErrors) ∨ (c = .receiveError ∧ s.receives = true ∧ tx =
    s.sgi.txErrors ∧ rx = min 255 (s.sgi.rxErrors + 1)) ∨ (c = .successfulReception ∧ s.receives = true ∧ tx =
    s.sgi.txErrors ∧ rx = s.sgi.rxErrors - 1)) :=
  ⟨{ atConfig with sgi := { atConfig.sgi with txErrors := 120, inProgress := some { frame := oneFrame, replaced := false } } },
      .transmitError, 128, 0, by decide⟩

theorem witness_ErrorCountsDriveBusState_1_b : ∃ (s : State) (c : Instr) (tx rx : Nat),
    s.steady ∧ s.sgi.countsOk ∧ ((c = .transmitError ∧ s.sgi.joined = true ∧ s.sgi.inProgress.isSome = true ∧ tx =
    s.sgi.txErrors + 8 ∧ tx ≤ 255 ∧ rx = s.sgi.rxErrors) ∨ (c = .receiveError ∧ s.receives = true ∧ tx =
    s.sgi.txErrors ∧ rx = min 255 (s.sgi.rxErrors + 1)) ∨ (c = .successfulReception ∧ s.receives = true ∧ tx =
    s.sgi.txErrors ∧ rx = s.sgi.rxErrors - 1)) :=
  ⟨{ atConfig with sgi := { atConfig.sgi with rxErrors := 255, bus := .passive } }, .receiveError, 0, 255, by decide⟩

theorem witness_ErrorCountsDriveBusState_1_c : ∃ (s : State) (c : Instr) (tx rx : Nat),
    s.steady ∧ s.sgi.countsOk ∧ ((c = .transmitError ∧ s.sgi.joined = true ∧ s.sgi.inProgress.isSome = true ∧ tx =
    s.sgi.txErrors + 8 ∧ tx ≤ 255 ∧ rx = s.sgi.rxErrors) ∨ (c = .receiveError ∧ s.receives = true ∧ tx =
    s.sgi.txErrors ∧ rx = min 255 (s.sgi.rxErrors + 1)) ∨ (c = .successfulReception ∧ s.receives = true ∧ tx =
    s.sgi.txErrors ∧ rx = s.sgi.rxErrors - 1)) :=
  ⟨atConfig, .successfulReception, 0, 0, by decide⟩

theorem witness_ErrorCountsDriveBusState_2 : ∃ (s : State),
    s.steady ∧ s.sgi.joined = true ∧ s.sgi.inProgress.isSome = true ∧ 247 < s.sgi.txErrors :=
  ⟨{ atConfig with sgi := { atConfig.sgi with txErrors := 248, bus := .passive, inProgress := some { frame := oneFrame, replaced := false } } },
      by decide⟩

theorem witness_ErrorCountsDriveBusState_3_a : ∃ (s : State),
    s.steady :=
  ⟨{ atConfig with sgi := { atConfig.sgi with bus := .stopped } }, by decide⟩

theorem witness_ErrorCountsDriveBusState_3_b : ∃ (s : State),
    s.steady :=
  ⟨{ driving with sgi := { driving.sgi with bus := .off, recovery := 127 } }, by decide⟩

theorem witness_ErrorCountsDriveBusState_3_c : ∃ (s : State),
    s.steady :=
  ⟨{ driving with sgi := { driving.sgi with bus := .off, recovery := 126 } }, by decide⟩

theorem witness_ErrorCountsDriveBusState_3_d : ∃ (s : State),
    s.steady :=
  ⟨inSafe, by decide⟩

theorem witness_WakeReturnsToSecured_1_a : ∃ (s : State) (c : Instr),
    s.wakes ∧ (c = .keyLineEdge ∨ (c = .qualifyingDominantPhase ∧ 2 ≤ s.sgi.rouseCount)) :=
  ⟨{ (parked .watch) with csu := { (parked .watch).csu with effective := some 14 } }, .keyLineEdge, by decide⟩

theorem witness_WakeReturnsToSecured_1_b : ∃ (s : State) (c : Instr),
    s.wakes ∧ (c = .keyLineEdge ∨ (c = .qualifyingDominantPhase ∧ 2 ≤ s.sgi.rouseCount)) :=
  ⟨{ (parked .watch) with csu := { (parked .watch).csu with effective := some 0 }, sgi := { (parked .watch).sgi with rouseCount := 2 } },
      .qualifyingDominantPhase, by decide⟩

set_option maxRecDepth 8000 in
theorem witness_WakeReturnsToSecured_2 : ∃ (s : State) (a b : Code),
    s.mdc.mode = .watch ∧ s.hpc.phase = .secured ∧ s.lineOk ∧ s.pad.mdcRequest = false ∧ s.driveAway = false ∧
    s.free.laneFault = none ∧ s.mdc.settings.ok ∧ s.glu.reading = false ∧ s.wmt.sampling = true ∧ s.csu.anchor ≠
    .absent ∧ (s.wheel a b).2.reports = [] ∧ (s.wheel a b).1.positionValid = true ∧ ((s.csu.sampleCreep (s.wheel a
    b).1 s.glu s.mdc.settings (s.wheel a b).2.gap).recompute s.pvt.entries).noticeReached s.mdc.settings = true :=
  ⟨{ (parked .watch) with glu := { (parked .watch).glu with reading := false }, wmt := { (parked .watch).wmt with position := 1000 }, csu := { (parked .watch).csu with anchor := .held 0 } },
      0, 1400, by decide⟩

theorem witness_WakeReturnsToSecured_3_a : ∃ (s : State) (c : Instr),
    s.mdc.mode = .watch ∧ s.hpc.phase = .secured ∧ s.lineOk ∧ s.pad.mdcRequest = false ∧ s.driveAway = false ∧
    s.free.laneFault = none ∧ s.csu.anchor ≠ .absent ∧ s.csu.effective = none ∧ s.frb.responseActive = false ∧ (c
    = .keyLineEdge ∨ (c = .qualifyingDominantPhase ∧ 2 ≤ s.sgi.rouseCount)) :=
  ⟨{ (parked .watch) with csu := { (parked .watch).csu with anchor := .held 0, effective := none } }, .keyLineEdge,
      by decide⟩

theorem witness_WakeReturnsToSecured_3_b : ∃ (s : State) (c : Instr),
    s.mdc.mode = .watch ∧ s.hpc.phase = .secured ∧ s.lineOk ∧ s.pad.mdcRequest = false ∧ s.driveAway = false ∧
    s.free.laneFault = none ∧ s.csu.anchor ≠ .absent ∧ s.csu.effective = none ∧ s.frb.responseActive = false ∧ (c
    = .keyLineEdge ∨ (c = .qualifyingDominantPhase ∧ 2 ≤ s.sgi.rouseCount)) :=
  ⟨{ (parked .watch) with csu := { (parked .watch).csu with anchor := .pending, effective := none }, sgi := { (parked .watch).sgi with rouseCount := 2 } },
      .qualifyingDominantPhase, by decide⟩

theorem witness_ServiceRequestsAreAnswered_1 : ∃ (s : State),
    s.steady ∧ s.receives = true ∧ s.sgi.replies < 3 :=
  ⟨atConfig, by decide⟩

theorem witness_ServiceRequestsAreAnswered_2_a : ∃ (s : State),
    s.steady ∧ s.receives = true ∧ s.sgi.replies < 3 :=
  ⟨atConfig, by decide⟩

theorem witness_ServiceRequestsAreAnswered_2_b : ∃ (s : State),
    s.steady ∧ s.receives = true ∧ s.sgi.replies < 3 :=
  ⟨inSafe, by decide⟩

theorem witness_ServiceRequestsAreAnswered_3_a : ∃ (s : State) (n part : Nat),
    s.steady ∧ s.receives = true ∧ s.sgi.replies < 3 ∧ (1 ≤ n ∧ n ≤ 8) ∧ n ≠ s.number ∧ part ≤ 2 :=
  ⟨atConfig, 8, 2, by decide⟩

theorem witness_ServiceRequestsAreAnswered_3_b : ∃ (s : State) (n part : Nat),
    s.steady ∧ s.receives = true ∧ s.sgi.replies < 3 ∧ (1 ≤ n ∧ n ≤ 8) ∧ n ≠ s.number ∧ part ≤ 2 :=
  ⟨inSafe, 1, 0, by decide⟩

theorem witness_ServiceRequestsAreAnswered_4_a : ∃ (s : State) (a : Byte),
    s.steady ∧ s.receives = true ∧ s.sgi.replies < 3 ∧ (a.toNat % 16 = 0 ∨ 8 < a.toNat % 16 ∨ a.toNat % 16 = s.number
    ∨ a.toNat / 16 % 4 = 3) :=
  ⟨atConfig, 3, by decide⟩

theorem witness_ServiceRequestsAreAnswered_4_b : ∃ (s : State) (a : Byte),
    s.steady ∧ s.receives = true ∧ s.sgi.replies < 3 ∧ (a.toNat % 16 = 0 ∨ 8 < a.toNat % 16 ∨ a.toNat % 16 = s.number
    ∨ a.toNat / 16 % 4 = 3) :=
  ⟨atConfig, 9, by decide⟩

theorem witness_ServiceRequestsAreAnswered_4_c : ∃ (s : State) (a : Byte),
    s.steady ∧ s.receives = true ∧ s.sgi.replies < 3 ∧ (a.toNat % 16 = 0 ∨ 8 < a.toNat % 16 ∨ a.toNat % 16 = s.number
    ∨ a.toNat / 16 % 4 = 3) :=
  ⟨atConfig, 49, by decide⟩

theorem witness_ServiceRequestsAreAnswered_5_a : ∃ (s : State) (x : Byte),
    s.steady ∧ s.receives = true ∧ s.sgi.replies < 3 ∧ (x = 0 ∨ 6 < x.toNat) :=
  ⟨atConfig, 7, by decide⟩

theorem witness_ServiceRequestsAreAnswered_5_b : ∃ (s : State) (x : Byte),
    s.steady ∧ s.receives = true ∧ s.sgi.replies < 3 ∧ (x = 0 ∨ 6 < x.toNat) :=
  ⟨atConfig, 0, by decide⟩

theorem witness_ServiceRequestsAreAnswered_6_a : ∃ (s : State) (c : Instr) (x a : Byte),
    s.steady ∧ s.receives = true ∧ 3 ≤ s.sgi.replies ∧ ((x = 1 ∧ c = .readStatus s.number [x, a]) ∨ (x = 2 ∧ c =
    .readBank s.number [x, a]) ∨ (x = 3 ∧ c = .clearBank s.number [x, a]) ∨ (x = 4 ∧ c = .clearAll s.number [x,
    a]) ∨ (x = 5 ∧ c = .readPeer s.number [x, a]) ∨ (x = 6 ∧ c = .restart s.number [x, a]) ∨ ((x = 0 ∨ 6 <
    x.toNat) ∧ c = .undefinedServiceCommand s.number [x, a])) :=
  ⟨{ atConfig with sgi := { atConfig.sgi with list := [oneFrame, oneFrame, oneFrame] } }, .restart 3 [6, 0], 6, 0,
      by decide⟩

theorem witness_ServiceRequestsAreAnswered_6_b : ∃ (s : State) (c : Instr) (x a : Byte),
    s.steady ∧ s.receives = true ∧ 3 ≤ s.sgi.replies ∧ ((x = 1 ∧ c = .readStatus s.number [x, a]) ∨ (x = 2 ∧ c =
    .readBank s.number [x, a]) ∨ (x = 3 ∧ c = .clearBank s.number [x, a]) ∨ (x = 4 ∧ c = .clearAll s.number [x,
    a]) ∨ (x = 5 ∧ c = .readPeer s.number [x, a]) ∨ (x = 6 ∧ c = .restart s.number [x, a]) ∨ ((x = 0 ∨ 6 <
    x.toNat) ∧ c = .undefinedServiceCommand s.number [x, a])) :=
  ⟨{ atConfig with sgi := { atConfig.sgi with list := [oneFrame, oneFrame, oneFrame] } }, .undefinedServiceCommand 3 [7,
      0], 7, 0, by decide⟩

theorem witness_ClearsEmptyTheBanks_2 : ∃ (s : State) (a : Byte),
    s.steady ∧ s.receives = true ∧ s.sgi.replies < 3 ∧ 5 < a.toNat :=
  ⟨atConfig, 6, by decide⟩

theorem witness_RestartIsEntered_1 : ∃ (s : State),
    s.inPhase .released = true ∧ s.vehicleStationary = true ∧ s.receives = true ∧ s.sgi.replies < 3 :=
  ⟨node .run .released, by decide⟩

theorem witness_RestartIsEntered_2_a : ∃ (s : State),
    s.steady ∧ s.receives = true ∧ s.sgi.replies < 3 ∧ (s.inPhase .released = false ∨ s.vehicleStationary = false) :=
  ⟨atConfig, by decide⟩

theorem witness_RestartIsEntered_2_b : ∃ (s : State),
    s.steady ∧ s.receives = true ∧ s.sgi.replies < 3 ∧ (s.inPhase .released = false ∨ s.vehicleStationary = false) :=
  ⟨{ driving with wmt := { driving.wmt with stationary := false } }, by decide⟩

theorem witness_RestartIsEntered_3_a : ∃ (s : State),
    (s.mdc.mode = .run ∨ s.mdc.mode = .watch) ∧ s.mdc.restartCounter < s.mdc.settings.restartLimit ∧ s.frb.banks.node
    = none ∧ (s.spring = false ∨ s.pad.sensor ≠ .outOfRange) :=
  ⟨{ (node .run .holding) with mdc := { (node .run .holding).mdc with restartCounter := 3 } }, by decide⟩

theorem witness_RestartIsEntered_3_b : ∃ (s : State),
    (s.mdc.mode = .run ∨ s.mdc.mode = .watch) ∧ s.mdc.restartCounter < s.mdc.settings.restartLimit ∧ s.frb.banks.node
    = none ∧ (s.spring = false ∨ s.pad.sensor ≠ .outOfRange) :=
  ⟨{ (parked .watch) with mdc := { (parked .watch).mdc with restartCounter := 3 } }, by decide⟩

theorem witness_RestartIsEntered_4_a : ∃ (s : State),
    (s.mdc.mode = .run ∨ s.mdc.mode = .watch) ∧ s.mdc.settings.restartLimit ≤ s.mdc.restartCounter ∧ s.frb.banks.node
    = none :=
  ⟨{ (node .run .holding) with mdc := { (node .run .holding).mdc with restartCounter := 4 } }, by decide⟩

theorem witness_RestartIsEntered_4_b : ∃ (s : State),
    (s.mdc.mode = .run ∨ s.mdc.mode = .watch) ∧ s.mdc.settings.restartLimit ≤ s.mdc.restartCounter ∧ s.frb.banks.node
    = none :=
  ⟨{ (node .run .released) with mdc := { (node .run .released).mdc with restartCounter := 4 }, sgi := { (node .run .released).sgi with list := [{ kind := .alert, id := frameId 3 .alert, data := [1, 4, 9] }] } },
      by decide⟩

theorem witness_RestartIsEntered_4_c : ∃ (s : State),
    (s.mdc.mode = .run ∨ s.mdc.mode = .watch) ∧ s.mdc.settings.restartLimit ≤ s.mdc.restartCounter ∧ s.frb.banks.node
    = none :=
  ⟨{ (parked .watch) with mdc := { (parked .watch).mdc with restartCounter := 4 }, sgi := { (parked .watch).sgi with bus := .stopped } },
      by decide⟩

theorem witness_RestartIsEntered_5_a : ∃ (s : State),
    (s.mdc.mode = .init ∨ (s.mdc.mode = .safe ∧ s.mdc.safeStationary = true)) :=
  ⟨node .init .released, by decide⟩

theorem witness_RestartIsEntered_5_b : ∃ (s : State),
    (s.mdc.mode = .init ∨ (s.mdc.mode = .safe ∧ s.mdc.safeStationary = true)) :=
  ⟨inSafe, by decide⟩

theorem witness_RestartIsEntered_6 : ∃ (s : State),
    s.mdc.mode = .safe ∧ s.mdc.dwellDone = true ∧ s.frb.banks.anySevere = false :=
  ⟨{ inSafe with mdc := { inSafe.mdc with dwellDone := true } }, by decide⟩

set_option maxRecDepth 8000 in
theorem witness_RestartIsEntered_7_a : ∃ (s : State) (a b : Code),
    s.mdc.mode = .safe ∧ s.mdc.safeStationary = false ∧ s.pad.hpcRequest = .lapsed ∧ s.lineOk ∧ (s.spring = false ∨
    s.pad.sensor ≠ .outOfRange) ∧ s.wmt.sampling = true ∧ (s.wheel a b).2.reports = [] :=
  ⟨{ (node .safe .released) with mdc := { (node .safe .released).mdc with safeStationary := false }, pad := { (node .safe .released).pad with hpcRequest := .lapsed } },
      0, 1400, by decide⟩

set_option maxRecDepth 8000 in
theorem witness_RestartIsEntered_7_b : ∃ (s : State) (a b : Code),
    s.mdc.mode = .safe ∧ s.mdc.safeStationary = false ∧ s.pad.hpcRequest = .lapsed ∧ s.lineOk ∧ (s.spring = false ∨
    s.pad.sensor ≠ .outOfRange) ∧ s.wmt.sampling = true ∧ (s.wheel a b).2.reports = [] :=
  ⟨{ (node .safe .released) with mdc := { (node .safe .released).mdc with safeStationary := false }, pad := { (node .safe .released).pad with hpcRequest := .lapsed }, wmt := { Wmt.initial with sampling := true }, pvt := { (node .safe .released).pvt with entries := [{ node := 1, decl := { (default : Declared) with phase := .phase .holding }, creepSteady := false, age := 5, freshness := .fresh, lastAlert := none }, { node := 2, decl := { (default : Declared) with phase := .phase .holding }, creepSteady := false, age := 5, freshness := .fresh, lastAlert := none }] } },
      0, 1400, by decide⟩

set_option maxRecDepth 8000 in
theorem witness_RestartIsEntered_7_c : ∃ (s : State) (a b : Code),
    s.mdc.mode = .safe ∧ s.mdc.safeStationary = false ∧ s.pad.hpcRequest = .lapsed ∧ s.lineOk ∧ (s.spring = false ∨
    s.pad.sensor ≠ .outOfRange) ∧ s.wmt.sampling = true ∧ (s.wheel a b).2.reports = [] :=
  ⟨{ (node .safe .released) with mdc := { (node .safe .released).mdc with safeStationary := false }, pad := { (node .safe .released).pad with hpcRequest := .lapsed }, wmt := { (node .safe .released).wmt with stationary := false, stationaryTime := 0, v := 60000 } },
      0, 1400, by decide⟩

theorem witness_RestartEndsInRunOrSafe_1 : ∃ (s : State),
    s.mdc.mode = .restart ∧ ms 50 ≤ s.mdc.reinitTime ∧ s.free.laneFault = none ∧ s.vir = .initial ∧ s.pvt.entries = []
    ∧ s.wmt.positionValid = false ∧ s.hpc.resume = none :=
  ⟨{ (node .restart .secured) with mdc := { (node .restart .secured).mdc with reinitTime := ms 50 }, vir := Vir.initial, wmt := Wmt.initial },
      by decide⟩

theorem witness_RestartEndsInRunOrSafe_2 : ∃ (s : State) (r : Resume),
    s.mdc.mode = .restart ∧ ms 50 ≤ s.mdc.reinitTime ∧ s.free.laneFault = none ∧ s.vir = .initial ∧ s.pvt.entries = []
    ∧ s.wmt.positionValid = false ∧ s.hpc.resume = some r ∧ s.mdc.key = true ∧ s.pad.asserted = true ∧ (r.phase =
    .capturing ∨ r.phase = .holding) :=
  ⟨{ (node .restart .secured) with mdc := { (node .restart .secured).mdc with reinitTime := ms 50 }, vir := Vir.initial, wmt := Wmt.initial, pad := { (node .restart .secured).pad with asserted := true }, hpc := { (node .restart .secured).hpc with resume := some { phase := .holding, level := 2, pressure := 300, creep := 7 } } },
      { phase := .holding, level := 2, pressure := 300, creep := 7 }, by decide⟩

theorem witness_RestartEndsInRunOrSafe_3 : ∃ (s : State) (r : Resume),
    s.mdc.mode = .restart ∧ ms 50 ≤ s.mdc.reinitTime ∧ s.free.laneFault = none ∧ s.vir = .initial ∧ s.pvt.entries = []
    ∧ s.wmt.positionValid = false ∧ s.hpc.resume = some r ∧ s.mdc.key = true ∧ s.pad.asserted = true ∧ (r.phase =
    .securing ∨ r.phase = .secured) :=
  ⟨{ (node .restart .secured) with mdc := { (node .restart .secured).mdc with reinitTime := ms 50 }, vir := Vir.initial, wmt := Wmt.initial, pad := { (node .restart .secured).pad with asserted := true }, hpc := { (node .restart .secured).hpc with resume := some { phase := .secured, level := 2, pressure := 300, creep := 7 } } },
      { phase := .secured, level := 2, pressure := 300, creep := 7 }, by decide⟩

theorem witness_RestartEndsInRunOrSafe_4 : ∃ (s : State),
    s.mdc.mode = .restart ∧ sec 1 ≤ s.mdc.restartTimer ∧ s.frb.banks.node = none :=
  ⟨{ (node .restart .secured) with mdc := { (node .restart .secured).mdc with restartTimer := sec 1 }, vir := Vir.initial, wmt := Wmt.initial },
      by decide⟩

theorem witness_ClearsEmptyTheBanks_1_a : ∃ (s : State) (c : Instr) (x a : Byte) (z : Frb),
    s.steady ∧ s.receives = true ∧ s.sgi.replies < 3 ∧ x = 3 ∧ c = .clearBank s.number [x, a]
      ∧ ∃ b, bankOfCode a.toNat = some b ∧ z = { s.frb with banks := s.frb.banks.put b none } :=
  ⟨atConfig, .clearBank 3 [3, 5], 3, 5, atConfig.frb, by decide, by decide, by decide, rfl, rfl, .node, rfl, rfl⟩

theorem witness_ClearsEmptyTheBanks_1_b : ∃ (s : State) (c : Instr) (x a : Byte) (z : Frb),
    s.steady ∧ s.receives = true ∧ s.sgi.replies < 3 ∧ x = 4 ∧ c = .clearAll s.number [x, a]
      ∧ z = { banks := Banks.empty, responseActive := false } :=
  ⟨inSafe, .clearAll 3 [4, 0], 4, 0, _, by decide, by decide, by decide, rfl, rfl, rfl⟩

/-! ## Witnesses of the statements about every step -/

/-- A hold with a peer, a reply to send and a severe record, and one command waiting. -/
abbrev busy : State :=
  { node .run .holding with
    pvt := { Pvt.initial with entries := [{ (default : PeerEntry) with node := 1 }] }
    sgi := { Sgi.initial with bus := .active, list := [oneFrame] }
    frb := { banks := { Banks.empty with valve := some { (default : FaultRecord) with severity := .severe } }
             responseActive := true }
    pending := [.keyLineEdge] }

theorem witness_StepRunsFrontCommand : ∃ (c : Instr) (l : List Instr) (s t : State),
    s.pending = c :: l ∧ exec c (s.withPending l) = .next t := ⟨.keyLineEdge, [], busy, _, rfl, rfl⟩

theorem witness_StepKeepsMotion : ∃ s t : State, s.motionOk ∧ step s = .next t := ⟨busy, _, by decide, rfl⟩

theorem witness_StepKeepsLevels : ∃ s t : State, s.levelsOk ∧ step s = .next t := ⟨busy, _, by decide, rfl⟩

theorem witness_StepKeepsTable : ∃ s t : State, s.tableOk ∧ step s = .next t := ⟨busy, _, by decide, rfl⟩

theorem witness_StepKeepsPhaseRecords : ∃ s t : State, s.phaseOk ∧ step s = .next t := ⟨busy, _, by decide, rfl⟩

theorem witness_StepKeepsValves : ∃ s t : State, s.phaseOk ∧ s.valvesOk ∧ step s = .next t :=
  ⟨busy, _, by decide, by decide, rfl⟩

theorem witness_StepKeepsLine : ∃ s t : State, s.lineOk ∧ step s = .next t := ⟨busy, _, by decide, rfl⟩

theorem witness_StepKeepsTransmitList : ∃ s t : State, s.listOk ∧ s.sgi.countsOk ∧ step s = .next t :=
  ⟨busy, _, by decide, by decide, rfl⟩

theorem witness_StepKeepsSettings : ∃ s t : State, s.settingsOk ∧ step s = .next t := ⟨busy, _, by decide, rfl⟩

theorem witness_StepKeepsFaultResponse : ∃ s t : State, s.faultsOk ∧ step s = .next t := ⟨busy, _, by decide, rfl⟩

theorem witness_SevereRecordStays : ∃ (c : Instr) (s t : State) (k : Bank) (r : FaultRecord),
    clears c = false ∧ exec c s = .next t ∧ s.frb.banks.get k = some r ∧ r.severity = .severe :=
  ⟨.keyLineEdge, busy, _, .valve, { (default : FaultRecord) with severity := .severe }, rfl, rfl, rfl, rfl⟩

theorem witness_FrozenSettingsStay : ∃ (c : Instr) (s t : State),
    powersOn c = false ∧ s.settingsOk ∧ s.mdc.frozen = true ∧ exec c s = .next t :=
  ⟨.keyLineEdge, { busy with mdc := { busy.mdc with frozen := true } }, _, rfl, by decide, rfl, rfl⟩

theorem witness_ModesFollowTheirOrder : ∃ (c : Instr) (s t : State), powersOn c = false ∧ exec c s = .next t :=
  ⟨.keyLineEdge, inSafe, _, rfl, rfl⟩

/-- Before POWER_ON, and in RUN with the oscillator stable. -/
theorem witness_TicksAdvanceTimes : (State.reset.pending = [] ∧ State.reset.mdc.straps = none)
    ∧ ∃ s t : State, s.pending = [] ∧ s.mdc.straps.isSome = true ∧ s.mdc.refStable = true ∧ s.mdc.mode = .run
      ∧ step s = .next t := ⟨⟨rfl, rfl⟩, node .run .holding, _, rfl, rfl, rfl, rfl, rfl⟩

/-- A position read against an anchor, a pending anchor, an outage, and a gap. -/
theorem witness_EffectiveCreepRule : ∃ (u v : Csu) (w x : Wmt) (o : Count), u.anchor = .held o ∧ v.anchor = .pending
    ∧ w.positionValid = true ∧ x.positionValid = false :=
  ⟨{ Csu.initial 55 with anchor := .held 7 }, { Csu.initial 55 with anchor := .pending }, tracking, .initial, 7, rfl, rfl,
    rfl, rfl⟩

/-! ## Witnesses of the rules of the hold computation, the grade and the banks -/

/-- Node 1 of the first worked case of chapter 5: 8,000 kg, K = 110, µ = 50, G = +180, margin 140, captured at 180 kPa. -/
def nodeOne : State :=
  { node .run .holding with
    glu := { Glu.initial with reading := true, vehicleGrade := 180, gradeStatus := .formed, ownLoad := 8000
                              mass := 34000, lifted := false }
    hal := { Hal.initial with margin := 140 }
    hpc := { Hpc.initial with phase := .holding, pCap := some 180 }
    pvt := { Pvt.initial with
             entries := [(3433, 2), (4659, 4), (4659, 5)].map (fun p =>
               { (default : PeerEntry) with node := p.2, decl := { (default : Declared) with capacity := p.1 } }) }
    mdc := { (node .run .holding).mdc with settings := { Settings.default with gain := 110, friction := 50 } } }

theorem witness_ForceAndCapacityRule : ∃ (c : Instr) (s t : State),
    s.mdc.settings.ok ∧ s.glu.mass ≤ 200000 ∧ s.glu.gradeMagnitude ≤ 400 ∧ s.hal.margin ≤ 250 ∧ s.glu.ownLoad ≤ 25000
      ∧ s.capacityForced = false ∧ powersOn c = false ∧ s.settingsOk ∧ s.mdc.frozen = true ∧ exec c s = .next t :=
  ⟨.keyLineFallingEdge, { nodeOne with mdc := { nodeOne.mdc with frozen := true } }, _, by decide, by decide, by decide,
    by decide, by decide, by decide, rfl, by decide, rfl, rfl⟩

theorem witness_CapacitySumAndShareRule : ∃ (s : State) (p : Pvt) (n m : Nat), 0 < s.laneResult.sumC
    ∧ (∀ e ∈ p.entries, e.node = n → e.freshness = .fresh) ∧ ∀ e ∈ p.entries, e.node = m → e.freshness = .stale :=
  ⟨nodeOne, { Pvt.initial with entries := [{ (default : PeerEntry) with node := 2 },
    { (default : PeerEntry) with node := 4, freshness := .stale }] }, 2, 4, by decide⟩

theorem witness_PressureRule : ∃ s : State, s.mdc.settings.ok ∧ 0 < s.laneResult.share := ⟨nodeOne, by decide⟩

theorem witness_ReleaseRule : ∃ (s : State) (gear : Gear) (force : Nat), s.mdc.settings.ok
    ∧ s.demand = some (gear, force) ∧ s.glu.uphill gear = true ∧ 0 < s.laneResult.sumC :=
  ⟨demanding nodeOne, .forward, 1000, by decide⟩

theorem witness_VehicleGradeRule : ∃ (g : Glu) (entries : List PeerEntry), g.candidates entries = [-30, 30] :=
  ⟨{ Glu.initial with ownGrade := -30, gradeValid := true },
    [{ (default : PeerEntry) with decl := { (default : Declared) with grade := 30, gradeValid := true } }], by decide⟩

theorem witness_OverwriteRule : ∃ (s : State) (a b : Report), a.bank = b.bank ∧ a.severity = .severe ∧ b.severity ≠ .severe
    ∧ s.frb.banks.get a.bank = none := ⟨atConfig, chamberSensorReport, ventTimeoutReport, by decide⟩

/-! ## The spec's worked figures -/

/-- Chapter 5, first worked case, node 1: F_req 84,053, C_own 39,240, ΣC 166,750, share 19,780. -/
theorem test_worked_shares :
    (nodeOne.laneResult.fReq, nodeOne.laneResult.cOwn, nodeOne.laneResult.sumC, nodeOne.laneResult.share)
      = (84053, 39240, 166750, 19780) := by decide

/-- The same: the base 220 kPa stands above the captured 180 kPa. -/
theorem test_worked_pressure : nodeOne.laneResult.pCalc = 220 := by decide

/-- Chapter 5, release of node 1 at a force of 45,000 N: F_grav 60,038, R 15,038, S_rel 4,955, P_rel 86. -/
theorem test_worked_release :
    ({ nodeOne with vir := { nodeOne.vir with drive := some ({ gear := .forward, force := 4500 }, { age := 0, fresh := true }) } }
      : State).laneResult.release = some { remaining := 15038, share := 4955, pressure := 86 } := by decide

/-- Chapter 5, a ramp too steep: at G = +400 the share is the own capacity, insufficient, and P_calc 397. -/
theorem test_worked_insufficient :
    let r := ({ nodeOne with glu := { nodeOne.glu with vehicleGrade := 400 } } : State).laneResult
    (r.fReq, r.share, r.insufficient, r.pCalc) = (186783, 39240, true, 397) := by decide

/-- Chapter 3: sixteen readings of (180, 984) give an own grade of 179. -/
theorem test_worked_grade : gradeOf (List.replicate 16 { x := 180, y := 0, z := 984 }) = some 179 := by decide

/-- Chapter 3: candidates −25 and +24 give −25; −30 and +30 give +30. -/
theorem test_grade_ties : [[24, -25], [30, -30], [182, 176, 179]].map (fun l => median (ascending l)) = [-25, 30, 179] :=
  by decide

/-- Chapter 11: the code of the expiry of peer 4 in HOLDING, and of a malformed Declaration of peer 1. -/
theorem test_fault_codes :
    (((node .run .holding).complete (expiryReport 4)).code, ((node .run .holding).complete (malformedReport (.peer 1))).code)
      = (8530, 12626) := by decide

/-- R167, R170: the identifier and the data of a Declaration read back as its fields. -/
theorem test_declaration_fields : decodeDeclaration [0xCA#8, 0x2D#8, 0x34#8, 0x12#8, 0xC4#8, 0xC9#8, 0xF9#8, 0x80#8] =
    some { role := .drive, springFitted := true, phase := .phase .holding, level := 1, releasePermitted := true
           load := 2500, capacity := 0x1234, grade := -100, gradeValid := true, creep := -127, creepValid := true
           notice := false, severity := some .advisory } := by decide

/-! ## Steps -/

/-- R188: the tick at which the configuration window reaches 500 ms puts its expiry in the queue. -/
theorem test_window_expiry_comes_due : ∃ t, step { atConfig with mdc := { atConfig.mdc with windowTime := 4999 } } = .next t
    ∧ t.mdc.windowTime = ms 500 ∧ t.pending = [.windowExpiry] := ⟨_, rfl, by decide⟩

/-- R190: at the restart limit a brown-out enters SAFE. -/
theorem test_brown_out_at_limit : ∃ t,
    exec .brownOut { node .run .released with mdc := { (node .run .released).mdc with restartCounter := 4 } } = .next t
      ∧ t.mdc.mode = .safe := ⟨_, rfl, by decide⟩

/-- R184: POWER_ON with NUM 2 makes node 3, with the withdraw drive begun where SPRING is read. -/
theorem test_power_on : ∃ t, exec (.powerOn false true false true false true) State.reset = .next t
    ∧ t.number = 3 ∧ t.pad.drive = .withdraw := ⟨_, rfl, by decide⟩

/-- R132: the fifth out-of-range reading is severe; with it the declared capacity is 0. -/
theorem test_fifth_bad_reading : ∃ t,
    exec (.pressureReading 1051) { atConfig with cpr := { atConfig.cpr with rangeRun := 4 } } = .next t
      ∧ t.cpr.sensor = .outOfRange ∧ t.declaredCapacity = 0 := ⟨_, rfl, by decide⟩

/-! ## Well-formedness: one ill-formed command for each check -/

theorem test_wellFormed_refuses_long_frame : wellFormed (.cabStatus (List.replicate 9 0)) = false := by decide

theorem test_wellFormed_refuses_node_nine : wellFormed (.peerStale 9) = false := by decide

theorem test_wellFormed_refuses_acceleration : wellFormed (.accelerometerReading (some ⟨0, 0, 2001⟩)) = false := by decide

theorem test_wellFormed_refuses_other_command : wellFormed (.readBank 3 [1, 0]) = false := by decide

theorem test_wellFormed_refuses_other_group : wellFormed (.configureClose [0, 1, 0, 0, 0, 0, 0, 0]) = false := by decide

theorem test_wellFormed_accepts : wellFormed (.readBank 3 [2, 0]) = true := by decide

/-- R38: an Alert that arrives in RELEASED from a peer without an entry brings a capture, and leaves the level to it. -/
theorem test_alert_in_released : ∃ t, exec (.alert 1 [1, 4, 9]) (node .run .released) = .next t
    ∧ t.inPhase .capturing = true ∧ t.csu.nodeLevel = 0 := ⟨_, rfl, by decide⟩

/-- R188: a close that comes together with the expiry of the window, behind it, makes no record. -/
theorem test_close_with_expiry : ∃ t u,
    exec .windowExpiry { demanding atConfig with mdc := { atConfig.mdc with windowTime := ms 500 } } = .next t
      ∧ exec (.configureClose [0, 0, 0, 0, 0, 0, 0, 0]) t = .next u ∧ u.frb = t.frb ∧ u.mdc.windowExpired = false :=
  ⟨_, _, rfl, rfl, by decide, by decide⟩


end Sys2Proof.Machine.Tests
end

/-! PROOF. The ranges of the Wheel Motion Tracker through every step (R1, R8, R9, R15, R20): each elementary move keeps them. -/

namespace Sys2Proof.Machine

/-! ## The conduct of the block in the modes keeps its ranges -/

theorem Wmt.initial_ok : Wmt.initial.ok := by decide

theorem Wmt.start_ok {w : Wmt} (h : w.ok) : w.start.ok := h

theorem Wmt.enterWatch_ok {w : Wmt} (h : w.ok) : w.enterWatch.ok := h

theorem Wmt.leaveWatch_ok {w : Wmt} (h : w.ok) : w.leaveWatch.ok := h

/-- Outside WATCH the tracker has to be in its ranges at the short period (R1, R20). -/
theorem State.motionOk_awake {s : State} (hm : s.mdc.mode ≠ .watch) : s.motionOk ↔ s.wmt.ok ∧ s.wmt.slow = false := by
  simp [State.motionOk, hm]

/-- What leaves tracker and mode leaves `motionOk`. -/
theorem State.motionOk_of_same {s t : State} (hw : t.wmt = s.wmt) (hm : t.mdc.mode = s.mdc.mode) (h : s.motionOk) :
    t.motionOk := by
  rw [State.motionOk, hw, hm]
  exact h

/-! ## Moves -/

theorem takeSettings_mode (s : State) (g : Nat) (b2 b3 b4 b5 b6 b7 : Byte) :
    (s.takeSettings g b2 b3 b4 b5 b6 b7).mdc.mode = s.mdc.mode := rfl

/-- The measuring blocks at an entry to SAFE leave the tracker in its ranges at the short period, whatever mode is left
(R20 to R22). -/
theorem startSafe_motionOk {s : State} (hold : Bool) (h : s.motionOk) : (s.startSafe hold s.mdc.mode).motionOk := by
  have awake (m : Mode) : (s.startSafe hold m).mdc.mode ≠ .watch := by
    rw [State.startSafe_mdc]
    exact Mode.noConfusion
  rw [State.motionOk_awake (awake _)]
  cases left : s.mdc.mode with
  | init =>
    have k := (State.motionOk_awake (by simp [left])).1 h
    unfold State.startSafe State.safeBlocks
    dsimp only
    split
    · exact ⟨Wmt.start_ok k.1, rfl⟩
    · exact k
  | watch => exact ⟨Wmt.leaveWatch_ok h.1, rfl⟩
  | restart => exact ⟨Wmt.start_ok h.1, rfl⟩
  | config | run | safe => exact (State.motionOk_awake (s := s) (by simp [left])).1 h

/-- Every elementary move keeps the ranges of the tracker. -/
theorem Move.keeps_motionOk {c : Instr} (s t : State) (m : Move c s t) (h : s.motionOk) : t.motionOk := by
  cases m with
  | wmt w hs hp hk => exact ⟨hk h.1, by rw [← h.2, hp]⟩
  | mdc m hm => exact State.motionOk_of_same (s := s) rfl hm h
  | run hc =>
    have k := (State.motionOk_awake (by simp [hc])).1 h
    exact (State.motionOk_awake (by simp [State.startFirstRun, State.startRun])).2 k
  | power => exact (State.motionOk_awake (by simp [State.poweredOn, State.reset, Mdc.initial])).2 ⟨Wmt.initial_ok, rfl⟩
  | config => exact (State.motionOk_awake (by simp [State.startConfig])).2 ⟨Wmt.start_ok h.1, rfl⟩
  | resumed | afresh => exact (State.motionOk_awake (by simp [State.restarted, State.startRun])).2 ⟨Wmt.start_ok h.1, rfl⟩
  | watch => exact ⟨Wmt.enterWatch_ok h.1, by simp [State.enterWatch, Wmt.enterWatch, Wmt.changePeriod]⟩
  | wake => exact (State.motionOk_awake (by
      simp [State.wakeTarget, State.startWoken, State.startRun])).2 ⟨Wmt.leaveWatch_ok h.1, rfl⟩
  | restart => exact (State.motionOk_awake (by
      simp [State.startRestart, State.restartMode])).2 ⟨Wmt.initial_ok, rfl⟩
  | safe hold => exact startSafe_motionOk hold h
  | settings => exact State.motionOk_of_same (by simp) (takeSettings_mode ..) h
  | reconcile | freeze | counted | relieved | seenStationary => exact State.motionOk_of_same (by simp) rfl h
  | _ => exact State.motionOk_of_same (by simp) (by simp) h

/-- Settles O3: every elementary move keeps the ranges, and so do a command, which is a run of moves, and a tick, which
leaves tracker and mode. -/
theorem stepKeepsMotion : Obligations.StepKeepsMotion := by
  intro s t h hstep
  rcases step_cases s with ⟨c, l, u, -, hu, moves⟩ | ⟨-, htick⟩
  · obtain rfl : t = u := by simpa [hu] using hstep.symm
    exact moves.keeps Move.keeps_motionOk h
  · obtain rfl : t = s.tick := by simpa [htick] using hstep.symm
    unfold State.tick
    split
    · exact State.motionOk_of_same rfl rfl h
    · exact h

end Sys2Proof.Machine

/-! PROOF. The tick (log entry 1): the times it advances, and the commands of the times that reach their limits at it. -/

namespace Sys2Proof.Machine

/-! ## Orders of a list -/

theorem insertAt_perm {α : Type} (k : Nat) (x : α) (l : List α) : (insertAt k x l).Perm (x :: l) := by
  induction l generalizing k with
  | nil => cases k <;> exact .refl _
  | cons y l ih =>
    cases k with
    | zero => exact .refl _
    | succ k => exact ((ih k).cons y).trans (.swap x y l)

/-- The order that a number gives is an order of the whole list (log entry 10). -/
theorem permute_perm {α : Type} (k : Nat) (l : List α) : (permute k l).Perm l := by
  induction l generalizing k with
  | nil => exact .refl _
  | cons x l ih => exact (insertAt_perm _ x _).trans ((ih _).cons x)

/-! ## Expiries due -/

@[simp] theorem reaches_iff (limit t : Nat) : reaches limit t = true ↔ t + 1 = limit := by simp [reaches]

@[simp] theorem mem_due {b : Bool} {c d : Instr} : c ∈ due b d ↔ c = d ∧ b = true := by cases b <;> simp [due]

theorem inPhase_iff (s : State) (p : Phase) : s.inPhase p = true ↔ s.mdc.mode = .run ∧ s.hpc.phase = p := by
  simp [State.inPhase]

theorem captureConditions_inPhase {s : State} (h : s.captureConditions = true) : s.inPhase .released = true := by
  simp only [State.captureConditions, Bool.and_eq_true] at h
  exact h.1.1.1.1

/-- The MDC's expiries due, mode by mode. -/
theorem mem_mdcDue (s : State) (c : Instr) : c ∈ s.mdcDue ↔
    (c = .clockFailure ∧ s.mdc.mode = .init ∧ s.mdc.initTime = 499 ∧ s.mdc.refStable = false)
    ∨ (c = .windowExpiry ∧ s.mdc.mode = .config ∧ s.mdc.windowTime = 4999)
    ∨ (c = .reliefTimeExpiry ∧ s.mdc.mode = .run ∧ s.mdc.reliefTime = 1199999)
    ∨ (c = .rouseWindowExpiry ∧ s.mdc.mode = .watch ∧ 0 < s.sgi.rouseCount ∧ s.sgi.rouseWindow = 19)
    ∨ (c = .reinitialisationComplete ∧ s.mdc.mode = .restart ∧ s.mdc.reinitTime = 499 ∧ s.mdc.refStable = true
      ∧ s.mdc.brownOut = false)
    ∨ (c = .restartTimeout ∧ s.mdc.mode = .restart ∧ s.mdc.restartTimer = 9999)
    ∨ (c = .safeDwellExpiry ∧ s.mdc.mode = .safe ∧ s.mdc.dwellTime = 19999) := by
  cases h : s.mdc.mode <;> simp [State.mdcDue, State.rouseRuns, h, ms, sec, and_assoc]

/-- The expiries of the release record (R109, R111). -/
theorem mem_releaseDue (r : Option ReleaseRecord) (c : Instr) : c ∈ r.elim [] releaseDue ↔
    (c = .releaseRampStep ∧ r.map ReleaseRecord.rampTime = some 24)
    ∨ (c = .releaseTimeExpiry ∧ r.map ReleaseRecord.time = some 39999) := by
  cases r <;> simp [releaseDue, sec]

/-- The expiries of the handover record (R116). -/
theorem mem_handoverDue (h : Option HandoverRecord) (c : Instr) : c ∈ h.elim [] handoverDue ↔
    (c = .handoverSettleExpiry ∧ h.map (fun h => (h.stage, h.stageTime)) = some (.settle, 9999))
    ∨ (c = .handoverRampStep ∧ h.map (fun h => (h.stage, h.stageTime)) = some (.ramp, 49)) := by
  cases h with
  | none => simp
  | some h => cases hs : h.stage <;> simp [handoverDue, hs, ms]

/-- The HPC's expiries due in RUN, phase by phase. -/
theorem mem_hpcDue (s : State) (c : Instr) : c ∈ s.hpcDue ↔
    (c = .captureQualifyingExpiry ∧ s.captureConditions = true ∧ s.hpc.qualifyingTime = 1499)
    ∨ (c = .captureSettleExpiry ∧ s.inPhase .capturing = true ∧ s.hpc.settleTime = 2999)
    ∨ (c = .secureTimeExpiry ∧ (s.inPhase .capturing = true ∨ s.inPhase .holding = true)
      ∧ s.hpc.holdTime + 1 = 10000 * s.mdc.settings.tSec)
    ∨ (c = .insufficiencyTimeExpiry ∧ (s.inPhase .capturing = true ∨ s.inPhase .holding = true)
      ∧ s.hpc.last.insufficient = true ∧ s.hpc.insufficiencyTime = 4999)
    ∨ (c = .driverAbsentTimeExpiry ∧ s.mdc.mode = .run ∧ s.driverAbsent = true ∧ s.hpc.driverAbsentTime = 99999)
    ∨ (c = .releaseRampStep ∧ s.inPhase .releasing = true ∧ s.hpc.release.map ReleaseRecord.rampTime = some 24)
    ∨ (c = .releaseTimeExpiry ∧ s.inPhase .releasing = true ∧ s.hpc.release.map ReleaseRecord.time = some 39999)
    ∨ (c = .handoverSettleExpiry ∧ s.inPhase .securing = true
      ∧ s.hpc.handover.map (fun h => (h.stage, h.stageTime)) = some (.settle, 9999))
    ∨ (c = .handoverRampStep ∧ s.inPhase .securing = true
      ∧ s.hpc.handover.map (fun h => (h.stage, h.stageTime)) = some (.ramp, 49)) := by
  by_cases run : s.mdc.mode = .run
  case neg =>
    have quiet : s.captureConditions = false :=
      Bool.eq_false_iff.2 fun h => run ((inPhase_iff s _).1 (captureConditions_inPhase h)).1
    simp [State.hpcDue, run, inPhase_iff, quiet]
  case pos =>
    have idle : s.hpc.phase ≠ .released → s.captureConditions = false := fun hp =>
      Bool.eq_false_iff.2 fun h => hp ((inPhase_iff s _).1 (captureConditions_inPhase h)).2
    cases hp : s.hpc.phase <;>
      simp [State.hpcDue, State.phaseDue, State.timesInsufficiency, run, hp, inPhase_iff, idle, mem_releaseDue,
        mem_handoverDue, ms, sec, or_assoc]
    all_goals rw [← or_assoc, or_comm]

/-- The expiries of an entry due (R66, R70). -/
theorem mem_entryDue (e : PeerEntry) (c : Instr) : c ∈ entryDue e ↔
    (c = .peerStale e.node ∧ e.age = 599 ∧ e.freshness = .fresh)
    ∨ (c = .peerExpired e.node ∧ e.age = 2999 ∧ e.freshness ≠ .expired)
    ∨ (c = .lastAlertRemoval e.node ∧ e.lastAlert.map LastAlert.age = some 19999) := by
  cases h : e.lastAlert <;> simp [entryDue, h, ms, sec]

/-- The expiry of a station's record due (R72). -/
theorem mem_recordExpiry (x : Station) (a : Option RecordAge) (c : Instr) : c ∈ recordExpiry x a ↔
    c = .recordStale x ∧ a = some { age := 1999, fresh := true } := by
  rcases a with _ | ⟨n, f⟩ <;> simp [recordExpiry, ms, and_comm]

theorem mem_recordExpiries (v : Vir) (c : Instr) :
    (c ∈ recordExpiry .cab (v.age .cab) ∨ c ∈ recordExpiry .drive (v.age .drive)
      ∨ c ∈ recordExpiry .drum (v.age .drum))
      ↔ ∃ x, c = .recordStale x ∧ v.age x = some { age := 1999, fresh := true } := by
  simp only [mem_recordExpiry]
  constructor
  · rintro (h | h | h) <;> exact ⟨_, h⟩
  · rintro ⟨x, h⟩
    cases x
    · exact .inl h
    · exact .inr (.inl h)
    · exact .inr (.inr h)

/-! ## The tick -/

theorem step_tick {s : State} (h : s.pending = []) : step s = .next s.tick := by simp [step, h]

theorem tick_before_power {s : State} (h : s.mdc.straps = none) : s.tick = s := by simp [State.tick, h]

theorem tick_after_power {s : State} (h : s.mdc.straps.isSome = true) :
    s.tick = { s.advanced with pending := permute s.free.order s.expiries }.drawn := by simp [State.tick, h]

theorem hpcTimes_in_run {s : State} (h : s.mdc.mode = .run) : s.advanced.hpc = s.hpcTimes := by
  simp [State.advanced, h]

theorem timesInsufficiency_in_run {s : State} (h : s.mdc.mode = .run) :
    s.timesInsufficiency = ((s.hpc.phase == .capturing || s.hpc.phase == .holding) && s.hpc.last.insufficient) := by
  simp [State.timesInsufficiency, State.inPhase, h]

theorem modeTime_eq (s : State) (m : Mode) (limit t : Nat) :
    s.modeTime m limit t = if s.mdc.mode == m then min limit (t + 1) else t := by simp [State.modeTime]

/-- The MDC after a tick. -/
theorem mdcTimes_eq (s : State) : s.mdcTimes = { s.mdc with
    initTime := if s.mdc.mode == .init then min 500 (s.mdc.initTime + 1) else s.mdc.initTime
    windowTime := if s.mdc.mode == .config then min 5000 (s.mdc.windowTime + 1) else s.mdc.windowTime
    windowExpired := false
    reliefTime := if s.mdc.mode == .run then min 1200000 (s.mdc.reliefTime + 1) else s.mdc.reliefTime
    reinitTime := if s.mdc.mode == .restart then min 500 (s.mdc.reinitTime + 1) else s.mdc.reinitTime
    restartTimer := if s.mdc.mode == .restart then min 10000 (s.mdc.restartTimer + 1) else s.mdc.restartTimer
    dwellTime := if s.mdc.mode == .safe then min 20000 (s.mdc.dwellTime + 1) else s.mdc.dwellTime
    wakeHold := if s.mdc.woken then min 10000 (s.mdc.wakeHold + 1) else s.mdc.wakeHold } := by
  simp only [State.mdcTimes, modeTime_eq, ms, sec, Nat.reduceMul]

/-- A table one tick older: its clash span ends with the tick that fills it (R62). -/
theorem older_clashTime (p : Pvt) :
    p.older.clashTime = p.clashTime.bind (fun x => if 3000 ≤ x + 1 then none else some (x + 1)) := by
  unfold Pvt.older
  cases p.clashTime <;> rfl

/-- Settles O60: the tick advances each block's times, and its queue holds an order of the expiries, which are read off
block by block. -/
theorem ticksAdvanceTimes : Obligations.TicksAdvanceTimes := by
  intro s empty
  rw [step_tick empty]
  refine ⟨fun h => by rw [tick_before_power h], fun h => ⟨_, rfl, ?_⟩⟩
  rw [tick_after_power h]
  refine ⟨⟨rfl, rfl, rfl, rfl, rfl, rfl⟩, ⟨mdcTimes_eq s, ?_, ?_, ?_, ?_⟩, ?_, rfl, permute_perm _ _, fun c => ?_⟩
  · intro run; simp [State.advanced, run]
  · intro run
    simp [hpcTimes_in_run run, State.hpcTimes, timesInsufficiency_in_run run]
  · intro ref
    simp [State.advanced, State.padTimes, State.driveRuns, State.confirmRuns, ref]
  · simp [State.advanced, State.sgiTimes, State.declares, State.rouseRuns]
  · simp only [← older_clashTime]
    rfl
  · refine (permute_perm _ _).mem_iff.trans ?_
    simp only [State.expiries, List.mem_append, mem_mdcDue, mem_hpcDue, mem_due, reaches_iff,
      List.mem_flatMap, mem_entryDue, mem_recordExpiries, or_assoc, Bool.and_eq_true]
    simp [State.declares, ms, sec]
end Sys2Proof.Machine

/-! PROOF. Two fourth rejections at one sample, with the SENSE bank masked (R199, R200). -/

namespace Sys2Proof.Machine

/-- A channel that has rejected three samples running (R3). -/
def rejectedThrice : Channel := { Channel.initial with rejections := 3 }

/-- A tracker that samples in TRACKING with three rejections running on both channels. -/
def noisyTracker : Wmt :=
  { Wmt.initial with sampling := true, fresh := false, signal := .tracking, positionValid := true
                     sine := rejectedThrice, cosine := rejectedThrice }

/-- A node in SAFE, found stationary, whose frozen report mask leaves degraded SENSE reports unreported (R199). -/
def maskedNode : State :=
  { State.reset with
    wmt := noisyTracker
    mdc := { Mdc.initial with
             straps := some { number := 1, spring := false, pol := false }
             mode := .safe, frozen := true, safeStationary := true
             settings := { Settings.default with degradedMask := { BankMask.all with sense := false } } } }

/-- Both channels overrun at this sample. The sine channel's record is unreported, and so gives place to the cosine channel's (R200). -/
theorem maskedNode_sense (t : State) (h : exec (.noiseOverrun 300 300) maskedNode = .next t) :
    t.frb.banks.sense.map (fun r => (r.severity, r.reported, r.element))
      = some (.degraded, false, some .cosineChannel) := by
  cases h
  decide

/-- Refutes O31: the overrun of the sine channel need not leave its record in an empty SENSE bank. The cosine channel's
fourth rejection can come at the same sample, and where the configured mask leaves degraded SENSE reports unreported, its
record takes the place of the sine channel's (R199, R200). -/
theorem not_signalErrorsLosePositionAndRecover : ¬ Obligations.SignalErrorsLosePositionAndRecover := by
  unfold Obligations.SignalErrorsLosePositionAndRecover
  rintro ⟨overrun, -⟩
  obtain ⟨t, run, -, -, -, sense⟩ := overrun maskedNode 300 300 (.inr (.inl ⟨rfl, rfl⟩)) rfl rfl rfl (by decide)
    (by decide) rfl
  have bank : (t.frb.banks.sense.map FaultRecord.element) = some (some .cosineChannel) := by
    simpa using congrArg (Option.map fun x => x.2.2) (maskedNode_sense t run)
  have claimed : (t.frb.banks.sense.map FaultRecord.element) = some (some .sineChannel) := by
    simpa using congrArg (Option.map fun x => x.2.2) (sense rfl)
  rw [bank] at claimed
  exact absurd claimed (by decide)

end Sys2Proof.Machine

/-! PROOF. A wheel sample outside a hold: the reports and handings of the sample reach no block but those that take the
sample, so that a steady state stays steady (R1, R19, R25, R28, R44). -/

namespace Sys2Proof.Machine

/-! ## Calm states -/

/-- No hold runs that the CSU or the HPC could act on, and no lane goes wrong in RUN. -/
def State.calm (s : State) : Prop := s.inHold = false ∧ (s.mdc.mode = .run → s.free.laneFault = none)

/-- Tracker, table, records, regulator, driver, MDC, queue and phase stand as they were, and so do the lanes' free value. -/
def State.stays (s t : State) : Prop :=
  t.wmt = s.wmt ∧ t.pvt = s.pvt ∧ t.vir = s.vir ∧ t.cpr = s.cpr ∧ t.pad = s.pad ∧ t.mdc = s.mdc
    ∧ t.pending = s.pending ∧ t.hpc.phase = s.hpc.phase ∧ t.free.laneFault = s.free.laneFault

theorem State.stays.refl (s : State) : s.stays s := ⟨rfl, rfl, rfl, rfl, rfl, rfl, rfl, rfl, rfl⟩

theorem State.stays.trans {s t u : State} (h : s.stays t) (k : t.stays u) : s.stays u := by
  obtain ⟨h1, h2, h3, h4, h5, h6, h7, h8, h9⟩ := h
  obtain ⟨k1, k2, k3, k4, k5, k6, k7, k8, k9⟩ := k
  exact ⟨k1.trans h1, k2.trans h2, k3.trans h3, k4.trans h4, k5.trans h5, k6.trans h6, k7.trans h7, k8.trans h8,
    k9.trans h9⟩

theorem State.stays.calm {s t : State} (h : s.stays t) (hs : s.calm) : t.calm := by
  obtain ⟨-, -, -, -, -, mdc, -, phase, lane⟩ := h
  unfold State.calm State.inHold
  rw [mdc, phase, lane]
  exact hs

theorem State.stays.steady {s t : State} (h : s.stays t) (hs : s.steady) : t.steady := by
  obtain ⟨-, -, vir, -, -, mdc, -, phase, lane⟩ := h
  unfold State.steady State.inPhase State.demand
  rw [mdc, vir, phase, lane]
  exact hs

/-- A steady state is calm. -/
theorem State.steady.calm {s : State} (h : s.steady) : s.calm := by
  rcases h with h | ⟨h, -⟩ | ⟨h, -, lane⟩
  · simp [State.calm, State.inHold, h]
  · simp [State.calm, State.inHold, h]
  · obtain ⟨run, phase⟩ : s.mdc.mode = .run ∧ s.hpc.phase = .released := by simpa [State.inPhase] using h
    exact ⟨by simp [State.inHold, run, phase, Phase.isHold], fun _ => lane⟩

theorem State.calm.released {s : State} (h : s.calm) (run : s.mdc.mode = .run) : s.hpc.phase = .released := by
  have hold := h.1
  simp only [State.inHold, run, beq_self_eq_true, Bool.true_and] at hold
  cases hp : s.hpc.phase <;> simp_all [Phase.isHold]

/-! ## Recomputations -/

/-- Outside a hold a recomputation keeps the delivery and nothing more (R78, R94). -/
theorem halRecompute_calm {s : State} (h : s.calm) : s.halRecompute = s ∨ ∃ r, s.halRecompute = s.keepDelivery r := by
  unfold State.halRecompute
  split
  · rename_i run
    refine .inr ⟨s.laneResult, ?_⟩
    generalize s.laneResult = r
    simp [h.2 run.1, State.deliver, h.released run.1]
  · exact .inl rfl

/-- What leaves a calm state standing without a report leaves the anchor absent and the banks. -/
def State.handed (s t : State) : Prop :=
  s.stays t ∧ (s.csu.anchor = .absent → t.csu.anchor = .absent ∧ t.frb = s.frb)

theorem State.handed.refl (s : State) : s.handed s := ⟨.refl s, fun h => ⟨h, rfl⟩⟩

theorem State.handed.trans {s t u : State} (h : s.handed t) (k : t.handed u) : s.handed u := by
  refine ⟨h.1.trans k.1, fun absent => ?_⟩
  obtain ⟨still, banks⟩ := h.2 absent
  exact ⟨(k.2 still).1, (k.2 still).2.trans banks⟩

theorem keepDelivery_handed (s : State) (r : HalResult) : s.handed (s.keepDelivery r) :=
  ⟨⟨rfl, rfl, rfl, rfl, rfl, rfl, rfl, rfl, rfl⟩, fun absent => ⟨absent, rfl⟩⟩

theorem halRecompute_handed {s : State} (h : s.calm) : s.handed s.halRecompute := by
  rcases halRecompute_calm h with e | ⟨r, e⟩ <;> rw [e]
  · exact .refl s
  · exact keepDelivery_handed s _

theorem gradeRecompute_handed {s : State} (h : s.calm) : s.handed s.gradeRecompute := by
  have formed (g : Glu) : s.handed { s with glu := g } :=
    ⟨⟨rfl, rfl, rfl, rfl, rfl, rfl, rfl, rfl, rfl⟩, fun absent => ⟨absent, rfl⟩⟩
  unfold State.gradeRecompute
  dsimp only
  split
  · split
    · exact formed _
    · exact (formed _).trans (halRecompute_handed h)
  · exact .refl s

/-! ## Reports -/

theorem storeReport_stays (s : State) (r : Report) : s.stays (s.storeReport r) := by
  simp [State.stays]

/-- A report that is not severe stores its record in the bank it names (R199, R200). -/
theorem storeReport_mild {s : State} {r : Report} (mild : r.severity ≠ .severe) :
    (s.storeReport r).frb = { s.frb with banks := s.frb.banks.store r.bank (s.complete r) } := by
  simp [State.storeReport_frb, mild]

/-- A report that is not severe, made in a calm state: the record stored, and at most a recomputation (R199 to R202). -/
theorem report_calm {s : State} {r : Report} (h : s.calm) (mild : r.severity ≠ .severe) :
    s.stays (s.report r) ∧ (s.report r).csu = s.csu
      ∧ (s.report r).frb = { s.frb with banks := s.frb.banks.store r.bank (s.complete r) } := by
  have stored := storeReport_stays s r
  unfold State.report State.answerCause State.handCompromise
  rw [if_neg (by simp [State.secondSevere, mild])]
  split
  · exact ⟨stored, by simp, storeReport_mild mild⟩
  · rcases halRecompute_calm (stored.calm h) with e | ⟨d, e⟩ <;> rw [e]
    · exact ⟨stored, by simp, storeReport_mild mild⟩
    · exact ⟨stored.trans (keepDelivery_handed _ _).1, by simp, by simp [storeReport_mild mild]⟩

/-- A record is completed from the mode, the phase and the mask (R199). -/
theorem complete_stays {s t : State} (h : s.stays t) (r : Report) : t.complete r = s.complete r := by
  obtain ⟨-, -, -, -, -, mdc, -, phase, -⟩ := h
  simp only [State.complete, State.reportedMark, State.activity, mdc, phase]

/-- Reports that are not severe, made in a calm state, are stored in their order (R199, R200). -/
theorem reportAll_calm {s : State} {l : List Report} (h : s.calm) (mild : ∀ r ∈ l, r.severity ≠ .severe) :
    s.stays (s.reportAll l) ∧ (s.reportAll l).csu = s.csu
      ∧ (s.reportAll l).frb = { s.frb with banks := l.foldl (fun k r => k.store r.bank (s.complete r)) s.frb.banks } := by
  induction l generalizing s with
  | nil => exact ⟨.refl s, rfl, rfl⟩
  | cons r l ih =>
    obtain ⟨stays, csu, frb⟩ := report_calm h (mild r List.mem_cons_self)
    obtain ⟨rest, restCsu, restFrb⟩ := ih (stays.calm h) fun q hq => mild q (List.mem_cons_of_mem r hq)
    refine ⟨stays.trans rest, restCsu.trans csu, restFrb.trans ?_⟩
    simp only [complete_stays stays, frb, List.foldl_cons]

/-! ## Handings of a sample -/

/-- A sample takes no anchor away (R24 to R26), and without one it leaves the CSU. -/
theorem sampleCreep_absent {u : Csu} {w : Wmt} {g : Glu} {c : Settings} {gap : Bool}
    (h : u.anchor = .absent ∨ (u.sampleCreep w g c gap).anchor = .absent) : u.sampleCreep w g c gap = u := by
  cases hu : u.anchor with
  | absent => simp [Csu.sampleCreep, hu]
  | pending | held =>
    exfalso
    simp only [Csu.sampleCreep, hu, Csu.anchorAt, Csu.readCreep, reduceCtorEq, false_or] at h
    repeat' split at h
    all_goals simp_all

theorem recompute_anchor (u : Csu) (l : List PeerEntry) : (u.recompute l).anchor = u.anchor := by
  unfold Csu.recompute
  split <;> rfl

/-- Outside a hold no crossing is acted on (R30, R32, R33). -/
theorem crossingTests_calm {s : State} (h : s.inHold = false) : s.crossingTests = s := by
  simp [State.crossingTests, State.noticeTest, State.escalationTest, State.breachTest, h]

/-- Outside a hold effective creep is formed and nothing follows (R28). -/
theorem creepRecompute_calm {s : State} (h : s.inHold = false) (entry : Bool) :
    s.creepRecompute entry = { s with csu := s.csu.recompute s.pvt.entries } := by
  have hold : ({ s with csu := s.csu.recompute s.pvt.entries } : State).inHold = false := h
  simp [State.creepRecompute, hold, crossingTests_calm hold]

theorem creepRecompute_handed {s : State} (h : s.calm) (entry : Bool) : s.handed (s.creepRecompute entry) := by
  rw [creepRecompute_calm h.1]
  exact ⟨⟨rfl, rfl, rfl, rfl, rfl, rfl, rfl, rfl, rfl⟩, fun absent => ⟨(recompute_anchor _ _).trans absent, rfl⟩⟩

theorem velocityTest_handed {s : State} (h : s.calm) : s.handed s.velocityTest := by
  simp only [State.velocityTest, h.1, Bool.false_and]
  exact .refl s

/-- With no anchor held the creep-gap flag stands as before the sample, and nothing is reported (R27). -/
theorem gapReport_handed {s : State} (h : s.calm) {before : Bool}
    (still : s.csu.anchor = .absent → s.csu.creepGap = before) : s.handed (s.gapReport before) := by
  unfold State.gapReport
  split
  · rename_i onset
    exact ⟨(report_calm h (by decide)).1, fun absent => by simp [still absent] at onset⟩
  · exact .refl s

/-- The CSU at a sample outside a hold: own creep with at most its creep-gap report, and effective creep (R25, R27, R28). -/
theorem csuSample_handed {s : State} (h : s.calm) (gap : Bool) : s.handed (s.csuSample gap) := by
  have read : s.handed { s with csu := s.csu.sampleCreep s.wmt s.glu s.mdc.settings gap } :=
    ⟨⟨rfl, rfl, rfl, rfl, rfl, rfl, rfl, rfl, rfl⟩,
      fun absent => ⟨(congrArg Csu.anchor (sampleCreep_absent (.inl absent))).trans absent, rfl⟩⟩
  have told := read.trans (gapReport_handed (before := s.csu.creepGap) (read.1.calm h)
    fun absent => congrArg Csu.creepGap (sampleCreep_absent (.inr absent)))
  have calm := told.1.calm h
  unfold State.csuSample
  dsimp only
  split
  · have formed := creepRecompute_handed calm false
    exact (told.trans formed).trans (velocityTest_handed (formed.1.calm calm))
  · exact told.trans (velocityTest_handed calm)

theorem hpcSample_calm {s : State} (h : s.calm) : s.hpcSample = s := by
  have idle : s.inPhase .releasing = false := by
    cases hp : s.inPhase .releasing with
    | false => rfl
    | true => exact absurd (inHold_of_inPhase hp rfl) (by simp [h.1])
  unfold State.hpcSample
  split <;> simp [idle]

theorem gluMoved_handed {s : State} (h : s.calm) : s.handed s.gluMoved := by
  have moved : s.handed { s with glu := s.glu.lostStationary } :=
    ⟨⟨rfl, rfl, rfl, rfl, rfl, rfl, rfl, rfl, rfl⟩, fun absent => ⟨absent, rfl⟩⟩
  unfold State.gluMoved
  dsimp only
  split
  · split
    · exact moved.trans (gradeRecompute_handed h)
    · exact moved
  · exact .refl s

/-- The handings of a sample, in whatever order (log entry 10). -/
theorem inOrder_handed {l : List (State → State)} (hl : ∀ f ∈ l, ∀ s : State, s.calm → s.handed (f s)) {s : State}
    (h : s.calm) : s.handed (inOrder l s) := by
  induction l generalizing s with
  | nil => exact .refl s
  | cons f l ih =>
    have first := hl f List.mem_cons_self s h
    exact first.trans (ih (fun g hg => hl g (List.mem_cons_of_mem f hg)) (first.1.calm h))

theorem sampleHandings_handed (e : SampleEvents) {s : State} (h : s.calm) : s.handed (handAll (sampleHandings e) s) := by
  have order (f : Free) (hf : f.laneFault = s.free.laneFault) : s.handed { s with free := f } :=
    ⟨⟨rfl, rfl, rfl, rfl, rfl, rfl, rfl, rfl, hf⟩, fun absent => ⟨absent, rfl⟩⟩
  have chosen := order { s.free with order := restOfOrder (sampleHandings e).length s.free.order } rfl
  refine chosen.trans (inOrder_handed (fun f hf t ht => ?_) (chosen.1.calm h))
  have listed := mem_permute hf
  simp only [sampleHandings, List.mem_append, List.mem_cons, List.not_mem_nil, or_false] at listed
  rcases listed with (rfl | rfl) | moved
  · exact csuSample_handed ht e.gap
  · rw [hpcSample_calm ht]
    exact .refl t
  · split at moved
    · rw [List.mem_singleton.1 moved]
      exact gluMoved_handed ht
    · simp at moved

/-! ## The reports of a sample -/

theorem condition_reports_degraded {w : Wmt} {k : Nat} {s c : Int} {r : Report} (h : r ∈ (w.condition k s c).reports) :
    r.severity = .degraded := by
  simp only [Wmt.condition, List.mem_append, List.mem_ite_nil_right, List.mem_singleton] at h
  rcases h with (((⟨-, rfl⟩ | ⟨-, rfl⟩) | ⟨-, rfl⟩) | ⟨-, rfl⟩) | ⟨-, rfl⟩ <;> rfl

/-- No report of a sample is severe (R13, R19). -/
theorem sample_reports_mild {w : Wmt} {pol : Bool} {k : Nat} {a b : Code} {r : Report}
    (h : r ∈ (w.sample pol k a b).2.reports) : r.severity ≠ .severe := by
  have onset (hr : r ∈ (w.condition k (rawSine pol a) b.toInt).reports) : r.severity ≠ .severe := by
    simp [condition_reports_degraded hr]
  have awaited (hr : r ∈ (Wmt.await (w.condition k (rawSine pol a) b.toInt)).2.reports) : r.severity ≠ .severe := by
    unfold Wmt.await at hr
    dsimp only at hr
    repeat' split at hr
    all_goals exact onset hr
  unfold Wmt.sample at h
  dsimp only at h
  split at h
  · split at h
    · simp only [Wmt.track] at h
      split at h
      · rw [List.mem_singleton.1 h]
        decide
      · simp at h
    · exact onset h
  · exact awaited h
  · exact awaited h

/-! ## The sample as a command -/

/-- A sample taken in a calm state: the tracker as given, its reports stored in their order, and with no anchor held the
banks as they leave them (R1, R19). -/
theorem takeSample_calm {s : State} {w : Wmt} {e : SampleEvents} (h : s.calm)
    (mild : ∀ r ∈ e.reports, r.severity ≠ .severe) :
    ({ s with wmt := w } : State).stays (s.takeSample w e) ∧ (s.csu.anchor = .absent → (s.takeSample w e).frb
      = { s.frb with banks := e.reports.foldl (fun k r => k.store r.bank (s.complete r)) s.frb.banks }) := by
  obtain ⟨stays, csu, frb⟩ := reportAll_calm (s := { s with wmt := w }) h mild
  have handed := sampleHandings_handed e (stays.calm h)
  exact ⟨stays.trans handed.1, fun absent => (handed.2 ((congrArg Csu.anchor csu).trans absent)).2.trans frb⟩

/-- Each row of a sample is the whole sample when its event comes about, and nothing otherwise (log entry 5). -/
theorem exec_sampleRow {s : State} {a b : Code} {c : Instr} {happens : Bool} (sampling : s.wmt.sampling = true)
    (row : (c, happens) ∈ [(.wheelSample a b, true), (.noiseOverrun a b, (s.wheel a b).2.noise),
      (.amplitudeLoss a b, (s.wheel a b).2.amplitude), (.cleanWindowRecovery a b, (s.wheel a b).2.recovered),
      (.locked a b, (s.wheel a b).2.becameLocked), (.lockNotAchieved a b, (s.wheel a b).2.lockNotAchieved),
      (.stationaryAsserted a b, (s.wheel a b).2.becameStationary)]) :
    exec c s = .next (conclude s (if happens then s.takeSample (s.wheel a b).1 (s.wheel a b).2 else s)) := by
  have whole (o : State → SampleEvents → Bool) : s.sampleIf o a b
      = if o { s with wmt := (s.wheel a b).1 } (s.wheel a b).2 then s.takeSample (s.wheel a b).1 (s.wheel a b).2
        else s := by simp only [State.sampleIf, sampling, Bool.true_and]
  have ended {t u : State} (h : t = u) :
      (Host.Outcome.next (conclude s t) : Host.Outcome State Fault Refusal) = .next (conclude s u) := by rw [h]
  simp only [List.mem_cons, Prod.mk.injEq, List.not_mem_nil, or_false] at row
  rcases row with ⟨rfl, rfl⟩ | ⟨rfl, rfl⟩ | ⟨rfl, rfl⟩ | ⟨rfl, rfl⟩ | ⟨rfl, rfl⟩ | ⟨rfl, rfl⟩ | ⟨rfl, rfl⟩
  · exact ended (whole fun _ _ => true)
  · exact ended (whole fun _ e => e.noise)
  · exact ended (whole fun _ e => e.amplitude)
  · exact ended (whole fun _ e => e.recovered)
  · exact ended (whole fun _ e => e.becameLocked)
  · exact ended (whole fun _ e => e.lockNotAchieved)
  · exact ended (whole fun _ e => e.becameStationary)

/-! ## Frames -/

/-- The end of a command leaves every part of the state, but for lapsed times and requests (R101, R102, R114, R193). -/
theorem ended_same (s : State) (b : Block) : b.same s s.lapse.drawn := by
  cases b
  case hpc =>
    show s.lapsedTimes.lasting = s.hpc.lasting
    unfold State.lapsedTimes
    split <;> rfl
  all_goals rfl

theorem Block.same_trans {s t u : State} {b : Block} (h : b.same s t) (k : b.same t u) : b.same s u := by
  cases b <;> exact Eq.trans k h

theorem State.keeps_ended (s : State) : s.keeps s.lapse.drawn [] := fun b _ => ended_same s b

/-- What stays but for the tracker, at the end of its command. -/
theorem State.stays.keeps_ended {s t : State} {w : Wmt} (h : ({ s with wmt := w } : State).stays t) :
    s.keeps t.lapse.drawn [.wmt, .csu, .glu, .hal, .hpc, .sgi, .frb] := by
  obtain ⟨-, pvt, vir, cpr, pad, mdc, pending, -, -⟩ := h
  intro b other
  refine Block.same_trans ?_ (ended_same t b)
  cases b
  case pvt => exact pvt
  case vir => exact vir
  case cpr => exact cpr
  case pad => exact pad
  case mdc => exact congrArg Mdc.lasting mdc
  case queue => exact pending
  all_goals simp at other

/-- Settles O30: in a steady state the sample leaves a steady state, on which nothing more is acted. -/
theorem wheelSampleIsTaken : Obligations.WheelSampleIsTaken := by
  intro s a b c happens steady sampling row
  rw [exec_sampleRow sampling row]
  obtain ⟨stays, banks⟩ := takeSample_calm (w := (s.wheel a b).1) (e := (s.wheel a b).2) steady.calm
    fun r hr => sample_reports_mild hr
  cases happens with
  | false =>
    rw [if_neg (by decide), conclude_fixed (react_steady s steady)]
    exact ⟨_, rfl, nofun, nofun, fun _ => s.keeps_ended, fun b _ => s.keeps_ended b (by simp)⟩
  | true =>
    rw [if_pos rfl, conclude_fixed (react_steady s (stays.steady steady))]
    exact ⟨_, rfl, fun _ => stays.1, fun _ absent => banks absent, nofun, stays.keeps_ended⟩

end Sys2Proof.Machine

/-! PROOF. A TRACKING sample without an onset, step by step in the order of R1: what each step of it leaves and what it
gives (R7 to R16). -/

namespace Sys2Proof.Machine

/-! ## What the steps leave

A reading `f` of the tracker that does not depend on the fields a step writes is the same after the step. -/

theorem updateLock_reads {α : Type} (f : Wmt → α) (h : ∀ w l t, f { w with locked := l, lockTime := t } = f w)
    (w : Wmt) (e : Int) : f (w.updateLock e) = f w := by
  unfold Wmt.updateLock
  repeat' split
  all_goals first
    | rfl
    | exact h _ _ _

theorem updateStationary_reads {α : Type} (f : Wmt → α)
    (h : ∀ w b t, f { w with stationary := b, stationaryTime := t } = f w) (w : Wmt) (k : Nat) :
    f (w.updateStationary k) = f w := by
  unfold Wmt.updateStationary
  repeat' split
  · exact h _ _ _
  · exact h w w.stationary _
  · exact h _ _ _

theorem updateLockWatch_reads {α : Type} (f : Wmt → α)
    (h : ∀ w t b, f { w with lockWatch := t, lockReported := b } = f w) (w : Wmt) (k : Nat) :
    f (w.updateLockWatch k).1 = f w := by
  unfold Wmt.updateLockWatch
  dsimp only
  split <;> exact h _ _ _

theorem updateLearning_reads {α : Type} (f : Wmt → α)
    (h : ∀ w l so co g, f { w with learning := l, sineOffset := so, cosineOffset := co, gain := g } = f w)
    (w : Wmt) (k : Nat) (s c : Int) (r : Bool) (x : Wrap) : f (w.updateLearning k s c r x) = f w := by
  unfold Wmt.updateLearning
  repeat' split
  all_goals first
    | rfl
    | exact h w _ w.sineOffset w.cosineOffset w.gain
    | exact h w _ _ _ _

/-! ## What the steps give -/

/-- The lock after a deviation (R12). -/
theorem updateLock_locked (w : Wmt) (e : Int) : (w.updateLock e).locked =
    if w.locked then decide (e.natAbs ≤ 2048) else decide (e.natAbs ≤ 204 ∧ ms 20 ≤ w.lockTime + w.period) := by
  unfold Wmt.updateLock
  repeat' split
  all_goals simp_all

/-- The stationary indication while position-valid stands (R16). -/
theorem updateStationary_stationary {w : Wmt} (h : w.positionValid = true) (k : Nat) :
    (w.updateStationary k).stationary =
      (decide ((w.speed k).natAbs < 2) && (w.stationary || decide (ms 200 ≤ w.stationaryTime + w.period))) := by
  unfold Wmt.updateStationary
  repeat' split
  all_goals simp_all

/-- The lock watch runs (R13): speed beyond 50 mm/s while UNLOCKED. -/
def Wmt.watched (w : Wmt) (k : Nat) : Bool := decide (50 < (w.speed k).natAbs) && !w.locked

/-- The lock watch and its advisory while position-valid stands (R13). -/
theorem updateLockWatch_eq {w : Wmt} (h : w.positionValid = true) (k : Nat) : w.updateLockWatch k =
    ({ w with lockWatch := if w.watched k then min (ms 200) (w.lockWatch + w.period) else 0
              lockReported := w.watched k && (w.lockReported || decide (ms 200 ≤ w.lockWatch + w.period)) },
     !w.lockReported && w.watched k && decide (ms 200 ≤ w.lockWatch + w.period)) := by
  have full : (min (ms 200) (w.lockWatch + w.period) == ms 200) = decide (ms 200 ≤ w.lockWatch + w.period) := by
    rw [Bool.eq_iff_iff]
    simp only [beq_iff_eq, decide_eq_true_eq]
    omega
  unfold Wmt.updateLockWatch
  simp only [h, Bool.true_and, full]
  cases hw : w.watched k <;> simp_all [Wmt.watched, Bool.and_comm]

/-- Without learning conditions, or at a rejection, no cycle is in progress and the corrections stand (R7). -/
theorem updateLearning_stops {w : Wmt} {k : Nat} {r : Bool} (h : w.learns k = false ∨ r = true) (s c : Int) (x : Wrap) :
    w.updateLearning k s c r x = { w with learning := none } := by
  unfold Wmt.updateLearning
  rw [if_pos (by simpa using h)]

/-- Between wraps no cycle is opened (R7). -/
theorem updateLearning_waits {w : Wmt} {k : Nat} (h : w.learns k = true) (hl : w.learning = none) (s c : Int) :
    w.updateLearning k s c false .none = w := by
  unfold Wmt.updateLearning
  simp [h, hl]

/-- Between wraps a cycle in progress takes the sample (R7). -/
theorem updateLearning_takes {w : Wmt} {k : Nat} {l : LearnCycle} (h : w.learns k = true) (hl : w.learning = some l)
    (s c : Int) : w.updateLearning k s c false .none = { w with learning := some (l.take s c) } := by
  unfold Wmt.updateLearning
  simp [h, hl]

/-- The wrap made in a direction. -/
def Wrap.towards (forward : Bool) : Wrap := if forward then .forward else .backward

/-- A wrap with no cycle in progress opens one (R7). -/
theorem updateLearning_opens {w : Wmt} {k : Nat} (h : w.learns k = true) (hl : w.learning = none) (s c : Int)
    (forward : Bool) : w.updateLearning k s c false (.towards forward)
      = { w with learning := some (openedAt forward s c) } := by
  unfold Wmt.updateLearning
  cases forward <;> simp [h, hl, Wrap.towards]

/-- A wrap against the direction of the cycle discards it (R7). -/
theorem updateLearning_discards {w : Wmt} {k : Nat} {l : LearnCycle} (h : w.learns k = true) (hl : w.learning = some l)
    {forward : Bool} (hf : l.forward ≠ forward) (s c : Int) :
    w.updateLearning k s c false (.towards forward) = { w with learning := none } := by
  unfold Wmt.updateLearning
  cases forward <;> simp_all [Wrap.towards]

/-- A wrap in the direction of the cycle completes it and opens the next (R7, R8). -/
theorem updateLearning_completes {w : Wmt} {k : Nat} {l : LearnCycle} (h : w.learns k = true)
    (hl : w.learning = some l) (s c : Int) : w.updateLearning k s c false (.towards l.forward)
      = Wmt.learn { w with learning := some (openedAt l.forward s c) } (completedAt l s c) := by
  unfold Wmt.updateLearning
  cases hf : l.forward <;> simp [h, hl, hf, Wrap.towards]

theorem openedAt_forward (forward : Bool) (s c : Int) : (openedAt forward s c).forward = forward := by
  unfold openedAt
  split <;> rfl

/-- The cycle completed is the one in progress, without or with the sample of the wrap (log entry 18). -/
theorem completedAt_cases (l : LearnCycle) (s c : Int) : completedAt l s c = l ∨ completedAt l s c = l.take s c := by
  unfold completedAt
  split
  · exact .inl rfl
  · exact .inr rfl

/-- The signed change of the whole count lies in its range and agrees with the difference modulo 4,096 (R14). -/
theorem countChange_spec (old new : Nat) : -2048 ≤ countChange old new ∧ countChange old new ≤ 2047
    ∧ (countChange old new - ((new : Int) - (old : Int))) % 4096 = 0 := by
  unfold countChange
  dsimp only
  split <;> omega

theorem wrapOf_none {phi : Nat} {advance : Int} (h0 : 0 ≤ (phi : Int) + advance)
    (h1 : (phi : Int) + advance < cycleUnits) : wrapOf phi advance = .none := by
  unfold wrapOf
  rw [if_neg (by omega), if_neg (by omega)]

theorem wrapOf_towards {phi : Nat} {advance : Int}
    (h : (phi : Int) + advance < 0 ∨ (cycleUnits : Int) ≤ (phi : Int) + advance) :
    wrapOf phi advance = .towards (decide (0 ≤ (phi : Int) + advance)) := by
  unfold wrapOf
  rcases h with h | h
  · rw [if_neg (by omega), if_pos h, decide_eq_false (by omega)]
    rfl
  · rw [if_pos h, decide_eq_true (by omega)]
    rfl

/-! ## A tracked sample -/

/-- The deviation of a sample (R9). -/
abbrev Conditioned.deviation (q : Conditioned) : Int := Machine.deviation q.wmt.phi q.s q.c q.a2

/-- The angle error of a sample (R9). -/
abbrev Conditioned.epsilon (q : Conditioned) : Int := angleError q.deviation

/-- The gain level in force for a sample (R10). -/
abbrev Conditioned.high (q : Conditioned) : Bool := q.wmt.selectGain q.deviation

/-- The tracker after the loop of a sample (R10 to R12, R14). -/
def Conditioned.looped (q : Conditioned) : Wmt := (q.wmt.updateLoop q.deviation).1

/-- The advance of φ at a sample (R11). -/
def Conditioned.advance (q : Conditioned) : Int :=
  q.wmt.v + integralStep q.high q.epsilon + proportionalStep q.high q.epsilon

/-- The tracker before the learning step of a sample (R13, R16). -/
def Conditioned.unlearnt (q : Conditioned) (k : Nat) : Wmt := ((q.looped.updateStationary k).updateLockWatch k).1

/-- A tracked sample is the learning step on what loop, stationary test and lock watch leave (R1). -/
theorem track_eq (q : Conditioned) (k : Nat) : (Wmt.track q k).1 = (q.unlearnt k).updateLearning k q.usedSine q.usedCosine
    q.rejected (wrapOf q.wmt.phi q.advance) := rfl

section
variable {α : Type} (f : Wmt → α)
  (hs : ∀ w b t, f { w with stationary := b, stationaryTime := t } = f w)
  (hw : ∀ w t b, f { w with lockWatch := t, lockReported := b } = f w)
  (hc : ∀ w l so co g, f { w with learning := l, sineOffset := so, cosineOffset := co, gain := g } = f w)
  (q : Conditioned) (k : Nat)
include hs hw

theorem unlearnt_reads : f (q.unlearnt k) = f q.looped :=
  (updateLockWatch_reads f hw _ k).trans (updateStationary_reads f hs _ k)

include hc

theorem track_reads : f (Wmt.track q k).1 = f q.looped :=
  (updateLearning_reads f hc _ k _ _ _ _).trans (unlearnt_reads f hs hw q k)

end

theorem looped_v (q : Conditioned) : q.looped.v = q.wmt.v + integralStep q.high q.epsilon :=
  updateLock_reads Wmt.v (fun _ _ _ => rfl) _ _

theorem looped_phi (q : Conditioned) :
    (q.looped.phi : Int) = ((q.wmt.phi : Int) + q.advance) % (cycleUnits : Int) := by
  have phi : q.looped.phi = (((q.wmt.phi : Int) + q.advance) % (cycleUnits : Int)).toNat :=
    updateLock_reads Wmt.phi (fun _ _ _ => rfl) _ _
  rw [phi, Int.toNat_of_nonneg (Int.emod_nonneg _ (by decide))]

theorem looped_position (q : Conditioned) : q.looped.position
    = q.wmt.position + BitVec.ofInt 32 (countChange (q.wmt.phi / 65536) (q.looped.phi / 65536)) := by
  have phi : q.looped.phi = (((q.wmt.phi : Int) + q.advance) % (cycleUnits : Int)).toNat :=
    updateLock_reads Wmt.phi (fun _ _ _ => rfl) _ _
  rw [phi]
  exact updateLock_reads Wmt.position (fun _ _ _ => rfl) _ _

theorem looped_locked (q : Conditioned) : q.looped.locked = if q.wmt.locked then decide (q.deviation.natAbs ≤ 2048)
    else decide (q.deviation.natAbs ≤ 204 ∧ ms 20 ≤ q.wmt.lockTime + q.wmt.period) :=
  updateLock_locked _ _

/-- A reading that depends on nothing the loop writes. -/
theorem looped_reads {α : Type} (f : Wmt → α) (h : ∀ w hg v phi p l t, f { w with
      highGain := hg, v := v, phi := phi, position := p, locked := l, lockTime := t } = f w) (q : Conditioned) :
    f q.looped = f q.wmt :=
  (updateLock_reads f (fun w l t => h w w.highGain w.v w.phi w.position l t) _ _).trans
    (h q.wmt _ _ _ _ q.wmt.locked q.wmt.lockTime)


/-! ### Loop and lock -/

theorem track_v (q : Conditioned) (k : Nat) : (Wmt.track q k).1.v = q.wmt.v + integralStep q.high q.epsilon :=
  (track_reads Wmt.v (fun _ _ _ => rfl) (fun _ _ _ => rfl) (fun _ _ _ _ _ => rfl) q k).trans (looped_v q)

theorem track_advance (q : Conditioned) (k : Nat) :
    q.wmt.phi + (Wmt.track q k).1.v + proportionalStep q.high q.epsilon = (q.wmt.phi : Int) + q.advance := by
  rw [track_v, Conditioned.advance]
  omega

theorem track_phi_looped (q : Conditioned) (k : Nat) : (Wmt.track q k).1.phi = q.looped.phi :=
  track_reads Wmt.phi (fun _ _ _ => rfl) (fun _ _ _ => rfl) (fun _ _ _ _ _ => rfl) q k

theorem track_phi (q : Conditioned) (k : Nat) : ((Wmt.track q k).1.phi : Int)
    = (q.wmt.phi + (Wmt.track q k).1.v + proportionalStep q.high q.epsilon) % cycleUnits := by
  rw [track_advance, track_phi_looped, looped_phi]

/-- The counter moves by the change of the whole count, the short way round (R14). -/
theorem track_position (q : Conditioned) (k : Nat) : ∃ d : Int, -2048 ≤ d ∧ d ≤ 2047
    ∧ (Wmt.track q k).1.position = q.wmt.position + BitVec.ofInt 32 d
    ∧ (d - ((((Wmt.track q k).1.phi / 65536 : Nat) : Int) - ((q.wmt.phi / 65536 : Nat) : Int))) % 4096 = 0 := by
  have position : (Wmt.track q k).1.position = q.looped.position :=
    track_reads Wmt.position (fun _ _ _ => rfl) (fun _ _ _ => rfl) (fun _ _ _ _ _ => rfl) q k
  obtain ⟨low, high, whole⟩ := countChange_spec (q.wmt.phi / 65536) (q.looped.phi / 65536)
  exact ⟨_, low, high, position.trans (looped_position q), by rwa [track_phi_looped]⟩

theorem track_locked_looped (q : Conditioned) (k : Nat) : (Wmt.track q k).1.locked = q.looped.locked :=
  track_reads Wmt.locked (fun _ _ _ => rfl) (fun _ _ _ => rfl) (fun _ _ _ _ _ => rfl) q k

/-- From UNLOCKED (R12). -/
theorem track_becomes_locked {q : Conditioned} (h : q.wmt.locked = false) (k : Nat) :
    (Wmt.track q k).1.locked = true ↔ q.deviation.natAbs ≤ 204 ∧ ms 20 ≤ q.wmt.lockTime + q.wmt.period := by
  simp [track_locked_looped, looped_locked, h]

/-- From LOCKED (R12). -/
theorem track_stays_locked {q : Conditioned} (h : q.wmt.locked = true) (k : Nat) :
    (Wmt.track q k).1.locked = true ↔ q.deviation.natAbs ≤ 2048 := by
  simp [track_locked_looped, looped_locked, h]

/-! ### Stationary and lock watch -/

/-- The tracker follows the wheel: position-valid stands, as it does in TRACKING (R15). -/
theorem looped_positionValid {q : Conditioned} (h : q.wmt.positionValid = true) : q.looped.positionValid = true :=
  (looped_reads Wmt.positionValid (fun _ _ _ _ _ _ _ => rfl) q).trans h

theorem track_speed (q : Conditioned) (k : Nat) : (Wmt.track q k).1.speed k = q.looped.speed k :=
  track_reads (fun w => w.speed k) (fun _ _ _ => rfl) (fun _ _ _ => rfl) (fun _ _ _ _ _ => rfl) q k

theorem track_stationary_tested (q : Conditioned) (k : Nat) :
    (Wmt.track q k).1.stationary = (q.looped.updateStationary k).stationary :=
  (updateLearning_reads Wmt.stationary (fun _ _ _ _ _ => rfl) _ k _ _ _ _).trans
    (updateLockWatch_reads Wmt.stationary (fun _ _ _ => rfl) _ k)

theorem track_stationary {q : Conditioned} (h : q.wmt.positionValid = true) (k : Nat) : (Wmt.track q k).1.stationary
    = (decide (((Wmt.track q k).1.speed k).natAbs < 2)
      && (q.wmt.stationary || decide (ms 200 ≤ q.wmt.stationaryTime + q.wmt.period))) := by
  have before : q.looped.stationary = q.wmt.stationary := looped_reads _ (fun _ _ _ _ _ _ _ => rfl) q
  have time : q.looped.stationaryTime = q.wmt.stationaryTime := looped_reads _ (fun _ _ _ _ _ _ _ => rfl) q
  have period : q.looped.period = q.wmt.period := looped_reads _ (fun _ _ _ _ _ _ _ => rfl) q
  rw [track_stationary_tested, updateStationary_stationary (looped_positionValid h), track_speed, before, time, period]

/-- Not yet stationary (R16). -/
theorem track_becomes_stationary {q : Conditioned} (hv : q.wmt.positionValid = true) (h : q.wmt.stationary = false)
    (k : Nat) : (Wmt.track q k).1.stationary = true ↔ ((Wmt.track q k).1.speed k).natAbs < 2
      ∧ ms 200 ≤ q.wmt.stationaryTime + q.wmt.period := by
  simp [track_stationary hv, h]

/-- Stationary already (R16). -/
theorem track_stays_stationary {q : Conditioned} (hv : q.wmt.positionValid = true) (h : q.wmt.stationary = true)
    (k : Nat) : (Wmt.track q k).1.stationary = true ↔ ((Wmt.track q k).1.speed k).natAbs < 2 := by
  simp [track_stationary hv, h]

theorem track_becameLocked (q : Conditioned) (k : Nat) :
    (Wmt.track q k).2.becameLocked = (!q.wmt.locked && (Wmt.track q k).1.locked) := by
  rw [track_locked_looped, Bool.and_comm]
  rfl

theorem track_becameStationary (q : Conditioned) (k : Nat) :
    (Wmt.track q k).2.becameStationary = (!q.wmt.stationary && (Wmt.track q k).1.stationary) := by
  rw [track_stationary_tested, Bool.and_comm]
  rfl

/-- What the lock watch of a sample gives, the advisory among it, read off the tracker after the sample (R13). -/
theorem track_lockWatch {q : Conditioned} (h : q.wmt.positionValid = true) (k : Nat) :
    (Wmt.track q k).2.lockNotAchieved
      = (!q.wmt.lockReported && (Wmt.track q k).1.watched k && decide (ms 200 ≤ q.wmt.lockWatch + q.wmt.period))
    ∧ (Wmt.track q k).1.lockWatch
      = (if (Wmt.track q k).1.watched k then min (ms 200) (q.wmt.lockWatch + q.wmt.period) else 0)
    ∧ (Wmt.track q k).1.lockReported = ((Wmt.track q k).1.watched k
      && (q.wmt.lockReported || decide (ms 200 ≤ q.wmt.lockWatch + q.wmt.period))) := by
  have keeps {α : Type} (f : Wmt → α) (hs : ∀ w b t, f { w with stationary := b, stationaryTime := t } = f w)
      (hl : ∀ w hg v phi p l t, f { w with
        highGain := hg, v := v, phi := phi, position := p, locked := l, lockTime := t } = f w) :
      f (q.looped.updateStationary k) = f q.wmt := (updateStationary_reads f hs _ k).trans (looped_reads f hl q)
  have valid := (keeps Wmt.positionValid (fun _ _ _ => rfl) (fun _ _ _ _ _ _ _ => rfl)).trans h
  have watched : (Wmt.track q k).1.watched k = (q.looped.updateStationary k).watched k :=
    (track_reads (fun w => w.watched k) (fun _ _ _ => rfl) (fun _ _ _ => rfl) (fun _ _ _ _ _ => rfl) q k).trans
      (updateStationary_reads (fun w => w.watched k) (fun _ _ _ => rfl) _ k).symm
  have watch : (Wmt.track q k).1.lockWatch = (q.unlearnt k).lockWatch :=
    updateLearning_reads Wmt.lockWatch (fun _ _ _ _ _ => rfl) _ k _ _ _ _
  have reported : (Wmt.track q k).1.lockReported = (q.unlearnt k).lockReported :=
    updateLearning_reads Wmt.lockReported (fun _ _ _ _ _ => rfl) _ k _ _ _ _
  rw [watched, watch, reported, Conditioned.unlearnt, updateLockWatch_eq valid,
    ← keeps Wmt.lockWatch (fun _ _ _ => rfl) (fun _ _ _ _ _ _ _ => rfl),
    ← keeps Wmt.lockReported (fun _ _ _ => rfl) (fun _ _ _ _ _ _ _ => rfl),
    ← keeps Wmt.period (fun _ _ _ => rfl) (fun _ _ _ _ _ _ _ => rfl)]
  refine ⟨?_, rfl, rfl⟩
  exact congrArg Prod.snd (updateLockWatch_eq valid k)

/-! ### Learning -/

/-- The learning conditions of a tracked sample (R7). -/
theorem unlearnt_learns {q : Conditioned} (hv : q.wmt.positionValid = true) (ht : q.wmt.signal = .tracking) (k : Nat) :
    (q.unlearnt k).learns k
      = (!q.wmt.slow && (Wmt.track q k).1.locked && decide (20 < ((Wmt.track q k).1.speed k).natAbs)) := by
  have slow : q.looped.slow = q.wmt.slow := looped_reads _ (fun _ _ _ _ _ _ _ => rfl) q
  have signal : q.looped.signal = .tracking := (looped_reads _ (fun _ _ _ _ _ _ _ => rfl) q).trans ht
  rw [unlearnt_reads (fun w => w.learns k) (fun _ _ _ => rfl) (fun _ _ _ => rfl) q k, track_locked_looped, track_speed]
  simp [Wmt.learns, slow, signal, looped_positionValid hv]

/-- The corrections stand as they stood. -/
def Wmt.correctionsKept (w x : Wmt) : Prop :=
  x.sineOffset = w.sineOffset ∧ x.cosineOffset = w.cosineOffset ∧ x.gain = w.gain

/-- Cycle and corrections reach the learning step as the sample found them. -/
theorem unlearnt_corrections (q : Conditioned) (k : Nat) :
    (q.unlearnt k).learning = q.wmt.learning ∧ q.wmt.correctionsKept (q.unlearnt k) := by
  have keeps {α : Type} (f : Wmt → α) (hs : ∀ w b t, f { w with stationary := b, stationaryTime := t } = f w)
      (hw : ∀ w t b, f { w with lockWatch := t, lockReported := b } = f w)
      (hl : ∀ w hg v phi p l t, f { w with
        highGain := hg, v := v, phi := phi, position := p, locked := l, lockTime := t } = f w) :
      f (q.unlearnt k) = f q.wmt := (unlearnt_reads f hs hw q k).trans (looped_reads f hl q)
  refine ⟨?_, ?_, ?_, ?_⟩ <;> apply keeps <;> intros <;> rfl

/-- Without learning conditions, or at a rejection, the cycle is discarded and the corrections stand (R7). -/
theorem track_stops_learning {q : Conditioned} {k : Nat} (h : (q.unlearnt k).learns k = false ∨ q.rejected = true) :
    (Wmt.track q k).1.learning = none ∧ q.wmt.correctionsKept (Wmt.track q k).1 := by
  rw [track_eq, updateLearning_stops h]
  exact ⟨rfl, (unlearnt_corrections q k).2⟩

section
variable {q : Conditioned} {k : Nat} (learns : (q.unlearnt k).learns k = true) (accepted : q.rejected = false)
include learns accepted

/-- Between wraps the corrections stand, no cycle is opened, and one in progress takes the sample (R7). -/
theorem track_between_wraps (h : wrapOf q.wmt.phi q.advance = .none) :
    q.wmt.correctionsKept (Wmt.track q k).1
    ∧ (Wmt.track q k).1.learning = q.wmt.learning.map (fun l => l.take q.usedSine q.usedCosine) := by
  obtain ⟨cycle, kept⟩ := unlearnt_corrections q k
  rw [track_eq, accepted, h]
  cases hl : q.wmt.learning with
  | none =>
    rw [updateLearning_waits learns (cycle.trans hl)]
    exact ⟨kept, cycle.trans hl⟩
  | some l =>
    rw [updateLearning_takes learns (cycle.trans hl)]
    exact ⟨kept, rfl⟩

variable {forward : Bool} (wrap : wrapOf q.wmt.phi q.advance = .towards forward)
include wrap

/-- A wrap with no cycle in progress opens one in its direction (R7). -/
theorem track_opens (hl : q.wmt.learning = none) : (∃ l, (Wmt.track q k).1.learning = some l ∧ l.forward = forward)
    ∧ q.wmt.correctionsKept (Wmt.track q k).1 := by
  obtain ⟨cycle, kept⟩ := unlearnt_corrections q k
  rw [track_eq, accepted, wrap, updateLearning_opens learns (cycle.trans hl)]
  exact ⟨⟨_, rfl, openedAt_forward _ _ _⟩, kept⟩

/-- A wrap against the direction of the cycle discards it (R7). -/
theorem track_discards {l : LearnCycle} (hl : q.wmt.learning = some l) (hf : l.forward ≠ forward) :
    (Wmt.track q k).1.learning = none ∧ q.wmt.correctionsKept (Wmt.track q k).1 := by
  obtain ⟨cycle, kept⟩ := unlearnt_corrections q k
  rw [track_eq, accepted, wrap, updateLearning_discards learns (cycle.trans hl) hf]
  exact ⟨rfl, kept⟩

/-- A wrap in the direction of the cycle replaces the corrections by what it gives, and opens the next (R7, R8). -/
theorem track_completes {l : LearnCycle} (hl : q.wmt.learning = some l) (hf : l.forward = forward) :
    (∃ m, (Wmt.track q k).1.learning = some m ∧ m.forward = l.forward)
    ∧ ∃ c, (c = l ∨ c = l.take q.usedSine q.usedCosine)
      ∧ (Wmt.track q k).1.sineOffset = learntOffset c.sineSum c.count
      ∧ (Wmt.track q k).1.cosineOffset = learntOffset c.cosineSum c.count
      ∧ (Wmt.track q k).1.gain = learntGain q.wmt.gain c := by
  obtain ⟨cycle, -, -, gain⟩ := unlearnt_corrections q k
  subst hf
  rw [track_eq, accepted, wrap, updateLearning_completes learns (cycle.trans hl), ← gain]
  exact ⟨⟨_, rfl, openedAt_forward _ _ _⟩, _, completedAt_cases l _ _, rfl, rfl, rfl⟩

end

theorem learntGain_eq (old : Int) (l : LearnCycle) : learntGain old l = if l.cosineHigh = l.cosineLow then old
    else max 3277 (min 4915 (Int.tdiv (4096 * (l.sineHigh - l.sineLow)) (l.cosineHigh - l.cosineLow))) := by
  simp only [learntGain, clamp, Int.sub_eq_zero]

theorem take_later {l : LearnCycle} (h : 0 < l.count) (s c : Int) : l.take s c = { l with
    sineSum := l.sineSum + s, cosineSum := l.cosineSum + c, count := l.count + 1
    sineLow := min l.sineLow s, sineHigh := max l.sineHigh s
    cosineLow := min l.cosineLow c, cosineHigh := max l.cosineHigh c } := if_neg (by omega)

theorem take_first {l : LearnCycle} (h : l.count = 0) (s c : Int) : l.take s c = { l with
    sineSum := s, cosineSum := c, count := 1, sineLow := s, sineHigh := s, cosineLow := c, cosineHigh := c } := if_pos h

/-! ## The obligation -/

/-- A sample of TRACKING without an onset is tracked (R1). -/
theorem sample_tracked {w : Wmt} {pol : Bool} {k : Nat} {a b : Code} (ht : w.signal = .tracking)
    (h : (w.condition k (rawSine pol a) b.toInt).reports = []) :
    w.sample pol k a b = Wmt.track (w.condition k (rawSine pol a) b.toInt) k := by
  unfold Wmt.sample
  simp [ht, h]

theorem ok_positionValid {w : Wmt} (hok : w.ok) (ht : w.signal = .tracking) : w.positionValid = true :=
  hok.2.2.2.2.2 ht

section
variable {w : Wmt} {pol : Bool} {k : Nat} {a b : Code} (ht : w.signal = .tracking)
  (hr : (w.condition k (rawSine pol a) b.toInt).reports = [])
include ht hr

/-- The new φ before its reduction to the cycle. -/
theorem sample_advance : w.phi + (w.sample pol k a b).1.v
      + proportionalStep (w.condition k (rawSine pol a) b.toInt).high (w.condition k (rawSine pol a) b.toInt).epsilon
    = (w.phi : Int) + (w.condition k (rawSine pol a) b.toInt).advance := by
  rw [sample_tracked ht hr]
  exact track_advance (w.condition k (rawSine pol a) b.toInt) k

/-- The learning conditions of a sample without an onset, read off the tracker after it (R7). -/
theorem sample_learns (hok : w.ok) : ((w.condition k (rawSine pol a) b.toInt).unlearnt k).learns k = true
    ↔ w.slow = false ∧ (w.sample pol k a b).1.locked = true ∧ 20 < ((w.sample pol k a b).1.speed k).natAbs := by
  rw [sample_tracked ht hr, unlearnt_learns (ok_positionValid hok ht) ht]
  simp only [Bool.and_eq_true, Bool.not_eq_true', decide_eq_true_eq, and_assoc]
  exact Iff.rfl

end

/-- Settles O32: such a sample is a tracked one, and each clause is what one of its steps gives. -/
theorem trackingSampleAdvancesLoop : Obligations.TrackingSampleAdvancesLoop := by
  refine ⟨?_, ?_, ?_, ?_, ?_⟩
  · intro w pol k a b q e ht hok hr
    have hv := ok_positionValid hok ht
    rw [sample_tracked ht hr]
    exact ⟨track_v q k, track_phi q k, track_position q k, fun h => track_becomes_locked (q := q) h k,
      fun h => track_stays_locked (q := q) h k, fun h => track_becomes_stationary (q := q) hv h k,
      fun h => track_stays_stationary (q := q) hv h k, track_becameLocked q k, track_becameStationary q k⟩
  · intro w pol k a b y span ht hok hr
    have hy : y = Wmt.track (w.condition k (rawSine pol a) b.toInt) k := sample_tracked ht hr
    obtain ⟨advisory, time, reported⟩ :=
      track_lockWatch (q := w.condition k (rawSine pol a) b.toInt) (ok_positionValid hok ht) k
    rw [← hy] at advisory time reported
    exact ⟨advisory, time, reported, by rw [hy]; rfl, rfl⟩
  · intro w pol k a b x ht hok hr h
    have learns := not_congr (sample_learns ht hr hok)
    have stops : ((w.condition k (rawSine pol a) b.toInt).unlearnt k).learns k = false
        ∨ (w.condition k (rawSine pol a) b.toInt).rejected = true := by
      rw [← Bool.not_eq_true, learns]
      rcases h with h | h | h | h
      · exact .inl fun ⟨slow, _⟩ => by simp [h] at slow
      · exact .inl fun ⟨_, locked, _⟩ => by simp [x, h] at locked
      · exact .inl fun ⟨_, _, speed⟩ => absurd h (Nat.not_le.2 speed)
      · exact .inr h
    have hx : x = (Wmt.track (w.condition k (rawSine pol a) b.toInt) k).1 := congrArg Prod.fst (sample_tracked ht hr)
    rw [hx]
    exact track_stops_learning stops
  · intro w pol k a b x q e adv ht hok hr slow locked speed accepted hadv
    have learns := (sample_learns ht hr hok).2 ⟨slow, locked, speed⟩
    have total : adv = (w.phi : Int) + q.advance := sample_advance ht hr
    rw [total] at hadv
    obtain ⟨kept, cycle⟩ := track_between_wraps learns accepted (wrapOf_none hadv.1 hadv.2)
    have hx : x = (Wmt.track q k).1 := congrArg Prod.fst (sample_tracked ht hr)
    have taken (l : LearnCycle) (hl : w.learning = some l) :
        (Wmt.track q k).1.learning = some (l.take q.usedSine q.usedCosine) :=
      cycle.trans (congrArg (Option.map _) hl)
    rw [hx]
    exact ⟨kept, fun hl => cycle.trans (congrArg (Option.map _) hl), fun l hl h => by rw [taken l hl, take_later h],
      fun l hl h => by rw [taken l hl, take_first h]⟩
  · intro w pol k a b x q e adv ht hok hr slow locked speed accepted hadv
    have learns := (sample_learns ht hr hok).2 ⟨slow, locked, speed⟩
    have total : adv = (w.phi : Int) + q.advance := sample_advance ht hr
    rw [total] at hadv ⊢
    have wrap := wrapOf_towards hadv
    have hx : x = (Wmt.track q k).1 := congrArg Prod.fst (sample_tracked ht hr)
    rw [hx]
    refine ⟨track_opens learns accepted wrap, fun l => track_discards learns accepted wrap, fun l hl hf => ?_⟩
    obtain ⟨opened, c, hc, sine, cosine, gain⟩ := track_completes learns accepted wrap hl hf
    exact ⟨opened, c, hc, sine, cosine, gain.trans (learntGain_eq _ _)⟩

end Sys2Proof.Machine

/-! PROOF. Own level, node level and the levels they are merged from through every step (R36, R37): each elementary move
keeps them. -/

namespace Sys2Proof.Machine

/-! ## Levels of the table -/

theorem foldl_max_le {l : List Nat} {b n : Nat} (hb : b ≤ n) (hl : ∀ x ∈ l, x ≤ n) : l.foldl max b ≤ n := by
  induction l generalizing b with
  | nil => exact hb
  | cons x l ih =>
    have hx : x ≤ n := hl x (by simp)
    exact ih (max_le hb hx) fun y hy => hl y (by simp [hy])

/-- No entry holds a level above 4 (R61). -/
def entryLevelsOk (l : List PeerEntry) : Prop := ∀ e ∈ l, e.decl.level ≤ 4

theorem peerLevel_le_four {l : List PeerEntry} (h : entryLevelsOk l) : peerLevel l ≤ 4 := by
  refine foldl_max_le (Nat.zero_le 4) fun x hx => ?_
  obtain ⟨e, he, rfl⟩ := List.mem_map.1 hx
  exact h e (List.mem_filter.1 he).1

theorem captureLevel_le_four {l : List PeerEntry} (h : entryLevelsOk l) : captureLevel l ≤ 4 := by
  unfold captureLevel
  split
  · exact le_rfl
  · exact peerLevel_le_four h

theorem mem_insertEntry {e x : PeerEntry} {l : List PeerEntry} (h : x ∈ insertEntry e l) : x = e ∨ x ∈ l := by
  induction l with
  | nil => exact .inl (List.mem_singleton.1 h)
  | cons f l ih =>
    rw [insertEntry] at h
    split at h
    · exact List.mem_cons.1 h
    · rcases List.mem_cons.1 h with rfl | h
      · exact .inr (by simp)
      · exact (ih h).imp_right (List.mem_cons_of_mem f)

/-- Changes of an entry that leave no level above 4 leave the table so. -/
theorem changeEntry_levelsOk {n : Nat} {change : PeerEntry → PeerEntry} {l : List PeerEntry} (h : entryLevelsOk l)
    (hc : ∀ e, e.decl.level ≤ 4 → (change e).decl.level ≤ 4) : entryLevelsOk (changeEntry n change l) := by
  intro x hx
  obtain ⟨e, he, rfl⟩ := List.mem_map.1 hx
  split
  · exact hc e (h e he)
  · exact h e he

theorem take_levelsOk {p : Pvt} {d : Declared} (n : Nat) (h : entryLevelsOk p.entries) (hd : d.capped) :
    entryLevelsOk (p.take n d).entries := by
  unfold Pvt.take
  split
  · intro x hx
    rcases mem_insertEntry hx with rfl | hx
    · exact hd.1
    · exact h x hx
  · exact changeEntry_levelsOk h fun _ _ => hd.1

theorem older_levelsOk {p : Pvt} (h : entryLevelsOk p.entries) : entryLevelsOk p.older.entries := by
  intro x hx
  obtain ⟨e, he, rfl⟩ := List.mem_map.1 hx
  exact h e he

/-! ## Levels of the state -/

theorem State.levelsOk_of_same {s t : State} (own : t.csu.ownLevel = s.csu.ownLevel)
    (node : t.csu.nodeLevel = s.csu.nodeLevel) (table : t.pvt.entries = s.pvt.entries)
    (resume : t.hpc.resume = s.hpc.resume) (h : s.levelsOk) : t.levelsOk := by
  rw [State.levelsOk, own, node, table, resume]
  exact h

/-- Levels set within their bounds, with table and resume record as they stood. -/
theorem State.levelsOk_of_set {s t : State} (own : t.csu.ownLevel ≤ t.csu.nodeLevel) (node : t.csu.nodeLevel ≤ 4)
    (table : t.pvt.entries = s.pvt.entries) (resume : t.hpc.resume = s.hpc.resume) (h : s.levelsOk) : t.levelsOk := by
  obtain ⟨-, -, entries, record⟩ := h
  exact ⟨own, node, by rwa [table], by rwa [resume]⟩

/-- A changed table without a level above 4. -/
theorem State.levelsOk_of_table {s : State} {p : Pvt} (table : entryLevelsOk p.entries) (h : s.levelsOk) :
    ({ s with pvt := p } : State).levelsOk := by
  obtain ⟨own, node, -, record⟩ := h
  exact ⟨own, node, table, record⟩

/-- A merge with an own level of at most 4 bounds it and stays within 4 (R37). -/
theorem mergedLevel_bounds {s : State} {own : Nat} (h : s.levelsOk) (ho : own ≤ 4) :
    own ≤ s.mergedLevel own ∧ s.mergedLevel own ≤ 4 := by
  obtain ⟨-, node, table, -⟩ := h
  exact ⟨le_max_of_le_left (le_max_right _ _), max_le (max_le node ho) (peerLevel_le_four table)⟩

theorem own_le_four {s : State} (h : s.levelsOk) : s.csu.ownLevel ≤ 4 := h.1.trans h.2.1

theorem resumeHold_resume (h : Hpc) (r : Resume) : (h.resumeHold r).resume = none := by
  unfold Hpc.resumeHold
  split <;> rfl

/-- A resume takes both levels from its record, which is used up (R42, R126). -/
theorem startResumed_levelsOk {s : State} {r : Resume} (hr : s.hpc.resume = some r) (h : s.levelsOk) :
    (s.restarted.startResumed r).levelsOk := by
  obtain ⟨-, -, entries, record⟩ := h
  refine ⟨le_rfl, record r hr, entries, fun q hq => ?_⟩
  have used : (s.restarted.startResumed r).hpc.resume = none := resumeHold_resume _ r
  simp [used] at hq

/-- At a restart levels and table are empty, and the record stored holds the node level left (R125, R191). -/
theorem startRestart_levelsOk {s : State} {resume : Option Resume} (asserted : Bool)
    (hl : ∀ r, resume = some r → r.level = s.csu.nodeLevel) (h : s.levelsOk) :
    (s.startRestart resume asserted).levelsOk := by
  refine ⟨le_rfl, Nat.zero_le 4, fun e he => ?_, fun r hr => ?_⟩
  · exact absurd he List.not_mem_nil
  · rw [hl r hr]
    exact h.2.1

/-- Every elementary move keeps the levels. -/
theorem Move.keeps_levelsOk {c : Instr} (s t : State) (m : Move c s t) (h : s.levelsOk) : t.levelsOk := by
  have table : entryLevelsOk s.pvt.entries := h.2.2.1
  cases m with
  | csu u ho hn => exact State.levelsOk_of_same (s := s) ho hn rfl rfl h
  | levelsOwn n =>
    obtain ⟨own, node⟩ := mergedLevel_bounds h (Nat.min_le_left 4 (s.csu.ownLevel + n))
    exact State.levelsOk_of_set (s := s) own node rfl rfl h
  | levelsMerged =>
    obtain ⟨own, node⟩ := mergedLevel_bounds h (own_le_four h)
    exact State.levelsOk_of_set (s := s) own node rfl rfl h
  | levelsAlert => exact State.levelsOk_of_set (s := s) (own_le_four (s := s) h) le_rfl rfl rfl h
  | levelsFour => exact State.levelsOk_of_set (s := s) le_rfl le_rfl rfl rfl h
  | capture => exact State.levelsOk_of_set (s := s) (Nat.zero_le _) (captureLevel_le_four table) rfl rfl h
  | pvtTake n d h1 h8 own hd => exact State.levelsOk_of_table (take_levelsOk n table hd) h
  | pvtCapacity | pvtAlert | pvtDrop | pvtFresh =>
    exact State.levelsOk_of_table (changeEntry_levelsOk table fun _ he => he) h
  | hpc p hp hr hh hq hm => exact State.levelsOk_of_same (s := s) rfl rfl rfl hm h
  | power =>
    exact ⟨le_rfl, Nat.zero_le 4, fun e he => absurd he List.not_mem_nil, fun r hr => by cases hr⟩
  | resumed r hm hr => exact startResumed_levelsOk hr h
  | afresh =>
    obtain ⟨own, node, entries, -⟩ := h
    exact ⟨own, node, entries, fun r hr => by cases hr⟩
  | released =>
    obtain ⟨own, node⟩ := recompute_levels s.csu.endEpisode s.pvt.entries
    exact State.levelsOk_of_same (s := s) own node rfl rfl h
  | restart resume a hi hr hs hf hl => exact startRestart_levelsOk a hl h
  | alert | declaration | rouse | owedReply | reply | record | safe =>
    exact State.levelsOk_of_same (by simp) (by simp) (by simp) (by simp [State.safeMode]) h
  | _ => exact State.levelsOk_of_same (s := s) rfl rfl rfl rfl h

theorem tick_levelsOk {s : State} (h : s.levelsOk) : s.tick.levelsOk := by
  unfold State.tick
  split
  · obtain ⟨own, node, table, record⟩ := h
    have resume : s.advanced.hpc.resume = s.hpc.resume := by
      unfold State.advanced
      dsimp only
      split <;> rfl
    exact ⟨own, node, older_levelsOk table, fun r hr => record r (resume ▸ hr)⟩
  · exact h

/-- Settles O4: every elementary move keeps the levels, and so do a command, which is a run of moves, and a tick, which
only ages the entries. -/
theorem stepKeepsLevels : Obligations.StepKeepsLevels := by
  intro s t h hstep
  rcases step_cases s with ⟨c, l, u, -, hu, moves⟩ | ⟨-, htick⟩
  · obtain rfl : t = u := by simpa [hu] using hstep.symm
    exact moves.keeps Move.keeps_levelsOk h
  · obtain rfl : t = s.tick := by simpa [htick] using hstep.symm
    exact tick_levelsOk h

end Sys2Proof.Machine

/-! PROOF. Own creep at a sample and effective creep at a recomputation (R24 to R29). -/

namespace Sys2Proof.Machine

/-! ## Effective creep (R28, R29) -/

theorem largest_eq_max? (l : List Int) : largest l = l.max? := by cases l <;> rfl

theorem largest_eq_some_iff (l : List Int) (x : Int) : largest l = some x ↔ IsGreatest {y | y ∈ l} x := by
  rw [largest_eq_max?, List.max?_eq_some_iff]
  rfl

theorem freshHold_iff (e : PeerEntry) : e.freshHold = true ↔ e.freshness = .fresh ∧ e.decl.phase.isHold = true := by
  simp [PeerEntry.freshHold, PeerEntry.isFresh]

theorem mem_peerCreeps (entries : List PeerEntry) (y : Int) : y ∈ peerCreeps entries
    ↔ ∃ e ∈ entries, e.freshness = .fresh ∧ e.decl.phase.isHold = true ∧ e.decl.creepValid = true
      ∧ y = e.decl.creep := by
  simp only [peerCreeps, List.mem_map, List.mem_filter, Bool.and_eq_true, freshHold_iff, and_assoc, @eq_comm _ y]

theorem mem_ownCreep (u : Csu) (y : Int) : y ∈ (if u.ownValid then [u.own] else []) ↔ u.ownValid = true ∧ y = u.own := by
  cases u.ownValid <;> simp

theorem effectiveCreep_eq_some_iff (u : Csu) (entries : List PeerEntry) (x : Int) : u.effectiveCreep entries = some x
    ↔ IsGreatest {y : Int | (u.ownValid = true ∧ y = u.own) ∨ ∃ e ∈ entries, e.freshness = .fresh
      ∧ e.decl.phase.isHold = true ∧ e.decl.creepValid = true ∧ y = e.decl.creep} x := by
  simp only [Csu.effectiveCreep, largest_eq_some_iff, List.mem_append, mem_ownCreep, mem_peerCreeps]

theorem recompute_some {u : Csu} {entries : List PeerEntry} {e : Int} (h : u.effectiveCreep entries = some e) :
    u.recompute entries = { u with effective := some e, lastEffective := e, blind := false } := by
  simp [Csu.recompute, h]

theorem recompute_none {u : Csu} {entries : List PeerEntry} (h : u.effectiveCreep entries = none) :
    u.recompute entries = { u with effective := none } := by
  simp [Csu.recompute, h]

@[simp] theorem recompute_effective (u : Csu) (entries : List PeerEntry) :
    (u.recompute entries).effective = u.effectiveCreep entries := by
  unfold Csu.recompute
  split <;> simp [*]

/-! ## Own creep (R24 to R27) -/

theorem millimetres_self (p : Count) (k : Nat) : millimetres p p k = 0 := by simp [millimetres]

/-- Downhill reading by the vehicle grade: a flat or DEFAULT grade takes the magnitude (R25). -/
theorem downhill_eq (g : Glu) (x : Int) : g.downhill x
    = if g.gradeStatus = .default ∨ g.vehicleGrade.natAbs < 20 then (x.natAbs : Int)
      else if 0 < g.vehicleGrade then -x else x := by
  by_cases status : g.gradeStatus = .default
  · simp [Glu.downhill, Glu.oneDownhill, status]
  · by_cases flat : g.vehicleGrade.natAbs < 20 <;> simp [Glu.downhill, Glu.oneDownhill, Glu.flat, status, flat]

@[simp] theorem downhill_zero (g : Glu) : g.downhill 0 = 0 := by simp [downhill_eq]

/-- Creep read at the anchor itself is the offset (R24, R26). -/
theorem readCreep_at_anchor (u : Csu) (g : Glu) (k : Settings) (p : Count) :
    u.readCreep g k p p = { u with own := u.offset, ownValid := true, lastValidOwn := u.offset } := by
  simp [Csu.readCreep, millimetres_self]

section
variable {u : Csu} {w : Wmt} (g : Glu) (k : Settings) (gap : Bool)

theorem sampleCreep_waits (h : u.anchor = .pending) (hv : w.positionValid = false) : u.sampleCreep w g k gap = u := by
  simp [Csu.sampleCreep, h, hv]

/-- A pending anchor is held at the first valid position, at its offset (R24, R26). -/
theorem sampleCreep_anchors (h : u.anchor = .pending) (hv : w.positionValid = true) : u.sampleCreep w g k gap
    = { u with anchor := .held w.position, creepGap := true, own := u.offset, ownValid := true
               lastValidOwn := u.offset } := by
  simp [Csu.sampleCreep, h, hv, readCreep_at_anchor, Csu.anchorAt]

variable {o : Count}

theorem sampleCreep_loses (h : u.anchor = .held o) (hv : w.positionValid = false) :
    u.sampleCreep w g k gap = { u with ownValid := false } := by
  simp [Csu.sampleCreep, h, hv]

/-- At the gap indication own creep goes on from the last valid own creep (R26, R27). -/
theorem sampleCreep_reanchors (h : u.anchor = .held o) (hv : w.positionValid = true) : u.sampleCreep w g k true
    = { u with anchor := .held w.position, offset := u.lastValidOwn, creepGap := true, own := u.lastValidOwn
               ownValid := true } := by
  simp [Csu.sampleCreep, h, hv, readCreep_at_anchor, Csu.anchorAt]

theorem sampleCreep_reads (h : u.anchor = .held o) (hv : w.positionValid = true) :
    u.sampleCreep w g k false = u.readCreep g k o w.position := by
  simp [Csu.sampleCreep, h, hv]

end

/-- Settles O24: effective creep is the largest value present, and own creep at a sample goes by the anchor's state. -/
theorem effectiveCreepRule : Obligations.EffectiveCreepRule := by
  refine ⟨fun u entries => ⟨fun x => ?_, fun x hx => ?_, fun hx => ?_⟩, fun u w g k gap => ?_, fun s before => ?_⟩
  · rw [recompute_effective, effectiveCreep_eq_some_iff]
  · rw [recompute_effective] at hx
    rw [recompute_some hx]
    exact ⟨rfl, rfl⟩
  · rw [recompute_effective] at hx
    rw [recompute_none hx]
    exact ⟨rfl, rfl⟩
  · refine ⟨fun h => sampleCreep_absent (.inl h), sampleCreep_waits g k gap, sampleCreep_anchors g k gap,
      fun o ho => ⟨sampleCreep_loses g k gap ho, fun hv hgap => ?_, fun hv hgap => ?_⟩⟩
    · rw [hgap, sampleCreep_reanchors g k ho hv]
    · rw [hgap, sampleCreep_reads g k ho hv, Csu.readCreep, downhill_eq]
      rfl
  · simp [State.gapReport]

end Sys2Proof.Machine

/-! PROOF. What recomputations, reports, targets and placements leave as it was while no lane goes wrong (R78, R94,
R175, R199). -/

namespace Sys2Proof.Machine

/-! ## Frames on the list -/

theorem mem_insertFrame (f : TxFrame) (l : List TxFrame) : f ∈ insertFrame f l := by
  induction l with
  | nil => simp [insertFrame]
  | cons g l ih =>
    unfold insertFrame
    split
    · simp
    · exact List.mem_cons_of_mem g ih

theorem mem_replaceKind {f : TxFrame} {l : List TxFrame} (h : ∃ g ∈ l, g.kind = f.kind) : f ∈ replaceKind f l := by
  induction l with
  | nil => simp at h
  | cons g l ih =>
    unfold replaceKind
    split
    · simp
    · rename_i other
      exact List.mem_cons_of_mem g (ih (by simpa [other] using h))

/-- A frame placed is pending (R173). -/
theorem Sgi.mem_place (g : Sgi) (f : TxFrame) : f ∈ (g.place f).list := by
  unfold Sgi.place
  split
  · rename_i held
    simp only [Sgi.has, Bool.and_eq_true, List.any_eq_true, beq_iff_eq] at held
    exact mem_replaceKind held.2
  · exact mem_insertFrame f g.list

@[simp] theorem Sgi.place_bus (g : Sgi) (f : TxFrame) : (g.place f).bus = g.bus := by
  unfold Sgi.place
  split <;> rfl

@[simp] theorem State.place_bus (s : State) (k : TxKind) (d : List Byte) : (s.place k d).sgi.bus = s.sgi.bus := by
  unfold State.place
  split <;> simp

@[simp] theorem State.placeDeclaration_bus (s : State) : s.placeDeclaration.sgi.bus = s.sgi.bus := by
  unfold State.placeDeclaration
  split <;> simp

@[simp] theorem State.placeAlert_bus (s : State) (a : AlertCause) (l : Nat) (x : Int) :
    (s.placeAlert a l x).sgi.bus = s.sgi.bus := by
  unfold State.placeAlert
  split <;> simp

@[simp] theorem State.placeOwedReply_bus (s : State) : s.placeOwedReply.sgi.bus = s.sgi.bus := by
  unfold State.placeOwedReply
  split <;> simp [State.placeReply]

@[simp] theorem State.storeReport_bus (s : State) (r : Report) : (s.storeReport r).sgi.bus = s.sgi.bus := by
  unfold State.storeReport State.writeRecord State.changeBanks
  dsimp only
  split <;> split <;> simp

/-- An Alert of cause breach is placed in RUN and in SAFE, but in BUS OFF (R173, R175). -/
theorem placeAlert_breach_mem {s : State} (on : s.mdc.mode = .run ∨ s.mdc.mode = .safe) (bus : s.sgi.bus ≠ .off)
    (l : Nat) (x : Int) :
    ∃ f ∈ (s.placeAlert .breach l x).sgi.list, f.kind = .alert ∧ f.data = encodeAlert .breach l x := by
  have may : s.mayPlace .alert = true := by rcases on with m | m <;> simp [State.mayPlace, bus, m]
  have placed : (s.placeAlert .breach l x).sgi
      = s.sgi.place { kind := .alert, id := frameId s.number .alert, data := encodeAlert .breach l x } := by
    simp [State.placeAlert, AlertCause.givesWay, State.place, may]
  rw [placed]
  exact ⟨_, Sgi.mem_place _ _, rfl, rfl⟩

/-! ## Frames of the state -/

/-- What no operation of a hold changes: tracker, GLU, tables, MDC, queue, free values and bus state. -/
structure State.framed (s t : State) : Prop where
  wmt : t.wmt = s.wmt
  glu : t.glu = s.glu
  pvt : t.pvt = s.pvt
  vir : t.vir = s.vir
  mdc : t.mdc = s.mdc
  pending : t.pending = s.pending
  free : t.free = s.free
  bus : t.sgi.bus = s.sgi.bus

/-- The phase stands with its handover, and so does the PAD. -/
structure State.sustains (s t : State) : Prop extends s.framed t where
  pad : t.pad = s.pad
  phase : t.hpc.phase = s.hpc.phase
  handover : t.hpc.handover = s.hpc.handover
  failed : t.hpc.handoverFailed = s.hpc.handoverFailed
  retained : t.hpc.retained.isSome = s.hpc.retained.isSome

/-- What a delivery and a placement of frames leave: CSU and FRB besides. -/
structure State.delivers (s t : State) : Prop extends s.sustains t where
  csu : t.csu = s.csu
  frb : t.frb = s.frb

theorem State.framed.refl (s : State) : s.framed s := ⟨rfl, rfl, rfl, rfl, rfl, rfl, rfl, rfl⟩

theorem State.framed.trans {s t u : State} (h : s.framed t) (k : t.framed u) : s.framed u where
  wmt := k.wmt.trans h.wmt
  glu := k.glu.trans h.glu
  pvt := k.pvt.trans h.pvt
  vir := k.vir.trans h.vir
  mdc := k.mdc.trans h.mdc
  pending := k.pending.trans h.pending
  free := k.free.trans h.free
  bus := k.bus.trans h.bus

theorem State.sustains.refl (s : State) : s.sustains s := ⟨.refl s, rfl, rfl, rfl, rfl, rfl⟩

theorem State.sustains.trans {s t u : State} (h : s.sustains t) (k : t.sustains u) : s.sustains u where
  toframed := h.toframed.trans k.toframed
  pad := k.pad.trans h.pad
  phase := k.phase.trans h.phase
  handover := k.handover.trans h.handover
  failed := k.failed.trans h.failed
  retained := k.retained.trans h.retained

theorem State.delivers.refl (s : State) : s.delivers s := ⟨.refl s, rfl, rfl⟩

theorem State.delivers.trans {s t u : State} (h : s.delivers t) (k : t.delivers u) : s.delivers u :=
  ⟨h.tosustains.trans k.tosustains, k.csu.trans h.csu, k.frb.trans h.frb⟩

theorem State.framed.lane {s t : State} (h : s.framed t) (lane : s.free.laneFault = none) :
    t.free.laneFault = none := by
  rw [h.free, lane]

theorem State.framed.mode {s t : State} (h : s.framed t) : t.mdc.mode = s.mdc.mode := by rw [h.mdc]

theorem State.sustains.inPhase {s t : State} (h : s.sustains t) (p : Phase) : t.inPhase p = s.inPhase p := by
  unfold State.inPhase
  rw [h.mode, h.phase]

theorem State.sustains.inHold {s t : State} (h : s.sustains t) : t.inHold = s.inHold := by
  unfold State.inHold
  rw [h.mode, h.phase]

/-- A record is completed from mode, phase and mask (R199). -/
theorem State.sustains.complete {s t : State} (h : s.sustains t) (r : Report) : t.complete r = s.complete r := by
  simp only [State.complete, State.reportedMark, State.activity, h.mdc, h.phase]

theorem inHold_mode {s : State} (h : s.inHold = true) : s.mdc.mode = .run := by
  simp only [State.inHold, Bool.and_eq_true, beq_iff_eq] at h
  exact h.1

/-! ## Updates -/

/-- HAL, HPC and CPR changed, with the phase, its handover and the request as they stood. -/
theorem delivers_hold (s : State) (a : Hal) (h : Hpc) (k : Cpr) (phase : h.phase = s.hpc.phase)
    (handover : h.handover = s.hpc.handover) (failed : h.handoverFailed = s.hpc.handoverFailed)
    (retained : h.retained.isSome = s.hpc.retained.isSome) : s.delivers { s with hal := a, hpc := h, cpr := k } :=
  ⟨⟨⟨rfl, rfl, rfl, rfl, rfl, rfl, rfl, rfl⟩, rfl, phase, handover, failed, retained⟩, rfl, rfl⟩

theorem framed_hpc (s : State) (h : Hpc) : s.framed { s with hpc := h } := ⟨rfl, rfl, rfl, rfl, rfl, rfl, rfl, rfl⟩

theorem sustains_csu (s : State) (u : Csu) : s.sustains { s with csu := u } :=
  ⟨⟨rfl, rfl, rfl, rfl, rfl, rfl, rfl, rfl⟩, rfl, rfl, rfl, rfl, rfl⟩

theorem placeDeclaration_delivers (s : State) : s.delivers s.placeDeclaration := by
  refine ⟨⟨⟨?_, ?_, ?_, ?_, ?_, ?_, ?_, ?_⟩, ?_, ?_, ?_, ?_, ?_⟩, ?_, ?_⟩ <;> simp

theorem placeAlert_delivers (s : State) (a : AlertCause) (l : Nat) (x : Int) : s.delivers (s.placeAlert a l x) := by
  refine ⟨⟨⟨?_, ?_, ?_, ?_, ?_, ?_, ?_, ?_⟩, ?_, ?_, ?_, ?_, ?_⟩, ?_, ?_⟩ <;> simp

theorem storeReport_sustains (s : State) (r : Report) : s.sustains (s.storeReport r) := by
  refine ⟨⟨?_, ?_, ?_, ?_, ?_, ?_, ?_, ?_⟩, ?_, ?_, ?_, ?_, ?_⟩ <;> simp

/-! ## Deliveries -/

theorem handTarget_delivers (s : State) (v : Nat) (anew : Bool) : s.delivers (s.handTarget v anew) :=
  delivers_hold s _ _ _ rfl rfl rfl rfl

theorem ratchet_delivers (s : State) (p : Nat) : s.delivers (s.ratchet p) := by
  unfold State.ratchet
  split
  · exact delivers_hold s _ _ _ rfl rfl rfl rfl
  · exact .refl s

theorem newGoal_delivers (s : State) (p : Option Nat) : s.delivers (s.newGoal p) := by
  unfold State.newGoal
  split
  · exact delivers_hold s _ _ _ rfl rfl rfl rfl
  · exact .refl s

theorem raiseRetained_delivers (s : State) (p : Nat) : s.delivers (s.raiseRetained p) := by
  unfold State.raiseRetained
  split
  · rename_i held
    split
    · exact delivers_hold s _ _ _ rfl rfl rfl (by simp [held])
    · exact .refl s
  · exact .refl s

theorem deliver_delivers (s : State) (r : HalResult) : s.delivers (s.deliver r) := by
  have kept : s.delivers (s.keepDelivery r) := delivers_hold s _ _ _ rfl rfl rfl rfl
  unfold State.deliver
  dsimp only
  split
  · exact kept.trans (ratchet_delivers _ _)
  · exact kept.trans (ratchet_delivers _ _)
  · exact kept.trans (newGoal_delivers _ _)
  · exact kept.trans (raiseRetained_delivers _ _)
  · exact kept
  · exact kept

/-- With no lane going wrong a recomputation is a delivery at most (R78, R94). -/
theorem halRecompute_delivers {s : State} (lane : s.free.laneFault = none) : s.delivers s.halRecompute := by
  unfold State.halRecompute
  split
  · rw [lane]
    exact deliver_delivers s _
  · exact .refl s

/-! ## Reports -/

/-- A report that is no second severe one is stored, and nothing else comes of it but a recomputation (R199 to R202). -/
theorem report_sustains {s : State} {r : Report} (lane : s.free.laneFault = none) (first : s.secondSevere r = false) :
    s.sustains (s.report r) ∧ (s.report r).csu = s.csu ∧ (s.report r).frb = (s.storeReport r).frb := by
  have stored := storeReport_sustains s r
  have handed : (s.storeReport r).delivers ((s.storeReport r).handCompromise s.frb.banks.holdCompromised) := by
    unfold State.handCompromise
    split
    · exact .refl _
    · exact halRecompute_delivers (stored.lane lane)
  unfold State.report State.answerCause
  rw [first, if_neg (by decide)]
  exact ⟨stored.trans handed.tosustains, by rw [handed.csu, State.storeReport_csu], handed.frb⟩

theorem secondSevere_mild {s : State} {r : Report} (mild : r.severity ≠ .severe) : s.secondSevere r = false := by
  simp [State.secondSevere, mild]

theorem secondSevere_first {s : State} {r : Report} (clear : s.frb.responseActive = false) :
    s.secondSevere r = false := by
  simp [State.secondSevere, clear]

/-! ## Levels -/

/-- Levels set: the CSU's levels, and a delivery and a Declaration at most (R36, R37). -/
theorem setLevels_delivers {s : State} (lane : s.free.laneFault = none) (own node : Nat) :
    ({ s with csu := { s.csu with ownLevel := own, nodeLevel := node } } : State).delivers (s.setLevels own node) := by
  unfold State.setLevels
  dsimp only
  split
  · exact .refl _
  · refine .trans (halRecompute_delivers ?_) (placeDeclaration_delivers _)
    exact lane

theorem setLevels_sustains {s : State} (lane : s.free.laneFault = none) (own node : Nat) :
    s.sustains (s.setLevels own node) :=
  (sustains_csu s _).trans (setLevels_delivers lane own node).tosustains

theorem setLevels_csu {s : State} (lane : s.free.laneFault = none) (own node : Nat) :
    (s.setLevels own node).csu = { s.csu with ownLevel := own, nodeLevel := node } :=
  (setLevels_delivers lane own node).csu

theorem setLevels_frb {s : State} (lane : s.free.laneFault = none) (own node : Nat) :
    (s.setLevels own node).frb = s.frb := (setLevels_delivers lane own node).frb

theorem raiseOwn_sustains {s : State} (lane : s.free.laneFault = none) (n : Nat) : s.sustains (s.raiseOwn n) := by
  unfold State.raiseOwn
  dsimp only
  split
  · exact .refl s
  · exact setLevels_sustains lane _ _

theorem raiseOwn_csu {s : State} (lane : s.free.laneFault = none) (n : Nat) :
    (s.raiseOwn n).csu = if min 4 (s.csu.ownLevel + n) = s.csu.ownLevel then s.csu else
      { s.csu with ownLevel := min 4 (s.csu.ownLevel + n)
                   nodeLevel := s.mergedLevel (min 4 (s.csu.ownLevel + n)) } := by
  unfold State.raiseOwn
  dsimp only
  split
  · rfl
  · exact setLevels_csu lane _ _

theorem raiseOwn_frb {s : State} (lane : s.free.laneFault = none) (n : Nat) : (s.raiseOwn n).frb = s.frb := by
  unfold State.raiseOwn
  dsimp only
  split
  · rfl
  · exact setLevels_frb lane _ _

/-- Own level at 4 is raised no further (R36). -/
theorem raiseOwn_at_four {s : State} (h : s.csu.ownLevel = 4) (n : Nat) : s.raiseOwn n = s := by
  simp [State.raiseOwn, h]

theorem raiseOwn_ownLevel {s : State} (lane : s.free.laneFault = none) (n : Nat) :
    (s.raiseOwn n).csu.ownLevel = min 4 (s.csu.ownLevel + n) := by
  rw [raiseOwn_csu lane]
  split
  · rename_i same
    exact same.symm
  · rfl

end Sys2Proof.Machine

/-! PROOF. What the HPC does at a Notice crossing, a breach and a blind onset, phase by phase (R111 to R113, R118,
R122). -/

namespace Sys2Proof.Machine

/-! ## Targets and line -/

theorem placeTarget_mode (k : Cpr) (o : Operation) : k.sameMode (k.placeTarget o) := by
  unfold Cpr.placeTarget
  split
  · exact ⟨rfl, rfl, fun _ => direction_valves _⟩
  · split
    · exact ⟨rfl, rfl, fun _ => by simp⟩
    · exact begin_mode k _

/-- A target handed stands as handed, up to P_max (R137). -/
theorem Cpr.take_target (k : Cpr) (pMax v : Nat) (anew : Bool) : (k.take pMax v anew).target = min pMax v := by
  unfold Cpr.take
  dsimp only
  split
  · rfl
  · split
    · rename_i same
      simp only [Bool.and_eq_true, decide_eq_true_eq] at same
      exact same.1.symm
    · split
      · exact (placeTarget_mode _ _).2.1
      · exact (bandTest_mode _).2.1

theorem Pad.judge_asserted (p : Pad) (spring : Bool) : (p.judge spring).asserted = p.asked := by
  unfold Pad.judge
  split
  · simp [*]
  · split
    · rfl
    · split <;> simp_all [Pad.assertLine, Pad.withdrawLine]

theorem Pad.judge_hpcRequest (p : Pad) (spring : Bool) : (p.judge spring).hpcRequest = p.hpcRequest := by
  unfold Pad.judge
  repeat' split
  all_goals rfl

/-! ## Spring insufficient (R118) -/

/-- The state of "spring insufficient" as its report is made: target and level request handed, SECURED not yet
entered. -/
def State.springReported (s : State) : State :=
  ((s.handTarget s.preHandover false).stepRequest).report springInsufficientReport

theorem springInsufficient_eq (s : State) :
    s.springInsufficient = s.springReported.retainService s.preHandover := rfl

theorem levelRequested_sustains {s : State} (lane : s.free.laneFault = none) :
    s.sustains (s.handTarget s.preHandover false).stepRequest :=
  (handTarget_delivers s s.preHandover false).tosustains.trans
    (raiseOwn_sustains (s := s.handTarget s.preHandover false) lane 1)

theorem springReported_sustains {s : State} (lane : s.free.laneFault = none) : s.sustains s.springReported := by
  have raised := levelRequested_sustains lane
  exact raised.trans (report_sustains (raised.lane lane) (secondSevere_mild (by decide))).1

theorem springReported_csu {s : State} (lane : s.free.laneFault = none) :
    s.springReported.csu = (s.handTarget s.preHandover false).stepRequest.csu :=
  (report_sustains ((levelRequested_sustains lane).lane lane) (secondSevere_mild (by decide))).2.1

/-- The SPRING bank takes the record, completed in the phase the crossing found (R118, R199; log entry 36). -/
theorem springReported_frb {s : State} (lane : s.free.laneFault = none) : s.springReported.frb
    = { s.frb with banks := s.frb.banks.store .spring (s.complete springInsufficientReport) } := by
  have raised := levelRequested_sustains lane
  have banks : (s.handTarget s.preHandover false).stepRequest.frb = s.frb :=
    raiseOwn_frb (s := s.handTarget s.preHandover false) lane 1
  refine (report_sustains (raised.lane lane) (secondSevere_mild (by decide))).2.2.trans ?_
  rw [storeReport_mild (by decide), raised.complete, banks]
  rfl

/-- Service retained within its phase (R122). -/
theorem retainService_stays {s : State} (run : s.mdc.mode = .run) (phase : s.hpc.phase ≠ .securing) (p : Nat) :
    s.retainService p = { s with hpc := { s.hpc with retained := some p } } := by
  simp [State.retainService, run, phase]

/-- Service retained in SECURING takes the node to SECURED (R118, R122). -/
theorem retainService_enters {s : State} (run : s.mdc.mode = .run) (phase : s.hpc.phase = .securing) (p : Nat) :
    s.retainService p = ({ s with hpc := { s.hpc with retained := some p } } : State).enterSecured := by
  simp [State.retainService, run, phase]

theorem startSecured_framed (s : State) : s.framed s.startSecured := ⟨rfl, rfl, rfl, rfl, rfl, rfl, rfl, rfl⟩

/-- At an entry into SECURED with a target retained, that is the target (R122). -/
theorem enterSecured_spec (s : State) : s.framed s.enterSecured ∧ s.enterSecured.hpc.phase = .secured
    ∧ s.enterSecured.hpc.handover = none ∧ s.enterSecured.hpc.retained = s.hpc.retained
    ∧ s.enterSecured.cpr.target = min s.mdc.settings.pMax (s.hpc.retained.getD s.mdc.settings.pPush)
    ∧ s.enterSecured.csu = s.csu.rearm ∧ s.enterSecured.frb = s.frb ∧ s.enterSecured.pad = s.pad := by
  have placed := placeDeclaration_delivers s.startSecured
  refine ⟨(startSecured_framed s).trans placed.toframed, placed.phase, placed.handover, ?_, ?_,
    placed.csu, placed.frb, placed.pad⟩
  · simp [State.enterSecured, State.startSecured]
  · simp [State.enterSecured, State.startSecured, State.handTarget, Cpr.take_target]

/-- In SECURING the spring found insufficient takes the node to SECURED with the pre-handover P_hold retained (R118). -/
theorem springInsufficient_in_securing {s : State} (lane : s.free.laneFault = none) (run : s.mdc.mode = .run)
    (phase : s.hpc.phase = .securing) : s.framed s.springInsufficient ∧ s.springInsufficient.hpc.phase = .secured
    ∧ s.springInsufficient.hpc.handover = none ∧ s.springInsufficient.hpc.retained = some s.preHandover
    ∧ s.springInsufficient.cpr.target = min s.mdc.settings.pMax s.preHandover
    ∧ s.springInsufficient.csu = s.springReported.csu.rearm ∧ s.springInsufficient.frb = s.springReported.frb
    ∧ s.springInsufficient.pad = s.pad := by
  have told := springReported_sustains lane
  rw [springInsufficient_eq, retainService_enters (told.mode.trans run) (told.phase.trans phase)]
  obtain ⟨framed, entered, handover, retained, target, csu, frb, pad⟩ :=
    enterSecured_spec { s.springReported with hpc := { s.springReported.hpc with retained := some s.preHandover } }
  refine ⟨(told.toframed.trans (framed_hpc _ _)).trans framed, entered, handover, retained,
    target.trans ?_, csu, frb, pad.trans told.pad⟩
  simp [told.mdc]

/-- In SECURED it sets service retained (R122). -/
theorem springInsufficient_in_secured {s : State} (lane : s.free.laneFault = none) (run : s.mdc.mode = .run)
    (phase : s.hpc.phase = .secured) : s.framed s.springInsufficient ∧ s.springInsufficient.hpc.phase = .secured
    ∧ s.springInsufficient.hpc.retained = some s.preHandover ∧ s.springInsufficient.csu = s.springReported.csu := by
  have told := springReported_sustains lane
  rw [springInsufficient_eq, retainService_stays (told.mode.trans run) (by simp [told.phase, phase])]
  exact ⟨told.toframed.trans (framed_hpc _ _), told.phase.trans phase, rfl, rfl⟩

/-! ## Entry into SECURING (R115) -/

/-- No assertion times out at once: the node drives no coil, or its sensor is not OUT OF RANGE (R153). -/
abbrev State.drivesLine (s : State) : Prop := s.spring = false ∨ s.pad.sensor ≠ .outOfRange

theorem State.sustains.drivesLine {s t : State} (h : s.sustains t) (drives : s.drivesLine) : t.drivesLine := by
  unfold State.drivesLine State.spring
  rw [h.mdc, h.pad]
  exact drives

theorem lineTimesOut_eq_false {s : State} (drives : s.drivesLine) : s.lineTimesOut = false := by
  rcases drives with h | h <;> simp [State.lineTimesOut, Pad.timesOut, h]

theorem startSecuring_drivesLine {s : State} (drives : s.drivesLine) : s.startSecuring.drivesLine := drives

theorem startSecuring_framed (s : State) : s.framed s.startSecuring.judgeLine :=
  ⟨rfl, rfl, rfl, rfl, rfl, rfl, rfl, rfl⟩

/-- Entry into SECURING where no assertion times out at once (R115). -/
structure State.secures (s t : State) : Prop extends s.framed t where
  phase : t.hpc.phase = .securing
  handover : t.hpc.handover = some s.newHandover
  request : t.hpc.request = true
  pad : t.pad = { s.pad with hpcRequest := .assert }.judge s.spring
  csu : t.csu = s.csu.rearm
  frb : t.frb = s.frb

theorem enterSecuring_secures {s : State} (drives : s.drivesLine) : s.secures s.enterSecuring := by
  have e : s.enterSecuring = s.startSecuring.judgeLine.placeDeclaration := by
    simp [State.enterSecuring, lineTimesOut_eq_false (startSecuring_drivesLine drives)]
  have placed := placeDeclaration_delivers s.startSecuring.judgeLine
  rw [e]
  refine ⟨(startSecuring_framed s).trans placed.toframed, placed.phase, placed.handover, ?_, placed.pad,
    placed.csu, placed.frb⟩
  rw [State.placeDeclaration_hpc]
  rfl

theorem State.secures.inPhase {s t : State} (h : s.secures t) (run : s.mdc.mode = .run) :
    t.inPhase .securing = true := by
  simp [State.inPhase, h.mode, run, h.phase]

theorem State.secures.hpcRequest {s t : State} (h : s.secures t) : t.pad.hpcRequest = .assert := by
  rw [h.pad, Pad.judge_hpcRequest]

theorem State.secures.asserted {s t : State} (h : s.secures t) : t.pad.asserted = true := by
  rw [h.pad, Pad.judge_asserted]
  rfl

/-- P_hold restored and raised at a breach in RELEASING (R112). -/
theorem secureRelease_eq (s : State) : ∃ t, s.delivers t ∧ s.secureRelease = t.enterSecuring := by
  unfold State.secureRelease
  split
  · rename_i r _
    exact ⟨({ s with hpc := { s.hpc with pHold := max r.preHold s.hpc.last.pCalc } } : State).handTarget
      (max r.preHold s.hpc.last.pCalc) false, delivers_hold s s.hal _ _ rfl rfl rfl rfl, rfl⟩
  · exact ⟨s, .refl s, rfl⟩

/-! ## Where an assertion may time out at once: levels, mode and bus state -/

/-- In RUN or SAFE, with no lane going wrong. -/
abbrev State.speaks (s : State) : Prop := (s.mdc.mode = .run ∨ s.mdc.mode = .safe) ∧ s.free.laneFault = none

/-- CSU and bus state stand, in RUN or SAFE. -/
structure State.tells (s t : State) : Prop where
  csu : t.csu = s.csu
  bus : t.sgi.bus = s.sgi.bus
  speaks : t.speaks

theorem State.tells.refl {s : State} (h : s.speaks) : s.tells s := ⟨rfl, rfl, h⟩

theorem State.tells.trans {s t u : State} (h : s.tells t) (k : t.tells u) : s.tells u :=
  ⟨k.csu.trans h.csu, k.bus.trans h.bus, k.speaks⟩

theorem State.framed.speaks {s t : State} (h : s.framed t) (k : s.speaks) : t.speaks := by
  unfold State.speaks
  rw [h.mdc, h.free]
  exact k

theorem State.delivers.tells {s t : State} (h : s.delivers t) (k : s.speaks) : s.tells t := ⟨h.csu, h.bus, h.speaks k⟩

theorem storeReport_tells {s : State} (h : s.speaks) (r : Report) : s.tells (s.storeReport r) :=
  ⟨by simp, by simp, (storeReport_sustains s r).speaks h⟩

/-- An entry to SAFE leaves the CSU and, from RUN, the bus state (R196). -/
theorem enterSafe_tells {s : State} (h : s.speaks) : s.tells s.enterSafe := by
  unfold State.enterSafe
  split
  · exact .refl h
  · rename_i awake
    have run : s.mdc.mode = .run := h.1.resolve_right awake
    have window : s.endWindow = s := by simp [State.endWindow, run]
    rw [window, run]
    have begun : s.tells (s.startSafe s.holdAtSafe .run).judgeLine := ⟨by simp, rfl, .inr rfl, h.2⟩
    have judged : s.tells (s.startSafe s.holdAtSafe .run).lineAtEntry := by
      unfold State.lineAtEntry
      split
      · exact begun.trans (storeReport_tells begun.speaks _)
      · exact begun
    refine judged.trans ⟨?_, ?_, ?_, ?_⟩
    · simp [State.safeFrames]
    · simp [State.safeFrames]
    · simpa [State.safeFrames] using judged.speaks.1
    · simpa [State.safeFrames] using judged.speaks.2

theorem report_tells {s : State} (h : s.speaks) (r : Report) : s.tells (s.report r) := by
  have stored := storeReport_tells h r
  have handed : s.tells ((s.storeReport r).handCompromise s.frb.banks.holdCompromised) := by
    unfold State.handCompromise
    split
    · exact stored
    · exact stored.trans ((halRecompute_delivers stored.speaks.2).tells stored.speaks)
  unfold State.report State.answerCause
  split
  · have notInit : ((s.storeReport r).handCompromise s.frb.banks.holdCompromised).mdc.mode ≠ .init := by
      rcases handed.speaks.1 with m | m <;> simp [m]
    rw [State.safeCause, if_neg notInit]
    exact handed.trans (enterSafe_tells handed.speaks)
  · exact handed

theorem handoverFails_tells {s : State} (h : s.speaks) : s.tells s.handoverFails := by
  unfold State.handoverFails
  split
  · split
    · exact ⟨by simp [State.enterHolding], by simp [State.enterHolding, State.startHolding, State.handTarget],
        by simpa [State.enterHolding] using h.1, by simpa [State.enterHolding] using h.2⟩
    · exact .refl h
  · exact .refl h

/-- An entry into SECURING re-arms Notice and leaves the rest of the CSU, whatever comes of the line (R31, R115,
R158). -/
theorem enterSecuring_csu {s : State} (h : s.speaks) : s.enterSecuring.csu = s.csu.rearm
    ∧ s.enterSecuring.sgi.bus = s.sgi.bus ∧ s.enterSecuring.speaks := by
  have begun : s.startSecuring.judgeLine.tells s.startSecuring.judgeLine.placeDeclaration :=
    (placeDeclaration_delivers s.startSecuring.judgeLine).tells h
  have entered : s.startSecuring.judgeLine.tells s.enterSecuring := by
    unfold State.enterSecuring
    dsimp only
    split
    · have told := begun.trans (report_tells begun.speaks confirmTimeoutReport)
      exact told.trans (handoverFails_tells told.speaks)
    · exact begun
  exact ⟨entered.csu, entered.bus, entered.speaks⟩

/-! ## A breach and a blind onset handed to the HPC -/

/-- A breach or a blind onset secures the hold: CAPTURING and HOLDING with handover failed clear, and RELEASING (R112,
R113). -/
abbrev State.triggers (s : State) : Prop :=
  (s.hpc.phase = .capturing ∨ s.hpc.phase = .holding) ∧ s.hpc.handoverFailed = false ∨ s.hpc.phase = .releasing

/-- A breach is not acted on: handover failed, CONFIRM and WAIT, and service retained (R113, R118, R122). -/
abbrev State.passesBreach (s : State) : Prop :=
  (s.hpc.phase = .capturing ∨ s.hpc.phase = .holding) ∧ s.hpc.handoverFailed = true
    ∨ s.hpc.phase = .securing ∧ s.guarded = false ∨ s.hpc.phase = .secured ∧ s.hpc.retained.isSome = true

/-- A breach finds the spring insufficient: SETTLE and RAMP, and SECURED without service retained (R118, R122). -/
abbrev State.overspring (s : State) : Prop :=
  s.hpc.phase = .securing ∧ s.guarded = true ∨ s.hpc.phase = .secured ∧ s.hpc.retained = none

/-- A blind onset is not acted on: handover failed, SECURING and SECURED (R112, R113). -/
abbrev State.passesBlind (s : State) : Prop :=
  (s.hpc.phase = .capturing ∨ s.hpc.phase = .holding) ∧ s.hpc.handoverFailed = true
    ∨ s.hpc.phase = .securing ∨ s.hpc.phase = .secured

theorem State.sustains.triggers {s t : State} (h : s.sustains t) (k : s.triggers) : t.triggers := by
  unfold State.triggers
  rw [h.phase, h.failed]
  exact k

theorem State.sustains.passesBreach {s t : State} (h : s.sustains t) (k : s.passesBreach) : t.passesBreach := by
  unfold State.passesBreach State.guarded
  rw [h.phase, h.failed, h.handover, h.retained]
  exact k

theorem State.sustains.passesBlind {s t : State} (h : s.sustains t) (k : s.passesBlind) : t.passesBlind := by
  unfold State.passesBlind
  rw [h.phase, h.failed]
  exact k

theorem hpcBreach_ignored {s : State} (h : s.passesBreach) :
    s.hpcBreach = s := by
  unfold State.hpcBreach
  rcases h with ⟨h | h, failed⟩ | ⟨h, stage⟩ | ⟨h, retained⟩
  · simp [h, State.trigger, failed]
  · simp [h, State.trigger, failed]
  · simp [h, stage]
  · obtain ⟨p, hp⟩ := Option.isSome_iff_exists.1 retained
    simp [h, hp]

/-- A breach and a blind onset enter SECURING alike, from RELEASING with P_hold restored (R112, R113). -/
theorem hpcBreach_enters {s : State} (run : s.mdc.mode = .run)
    (h : s.triggers) : ∃ t, s.delivers t ∧ s.hpcBreach = t.enterSecuring ∧ s.hpcBlind = t.enterSecuring := by
  rcases h with ⟨h | h, sound⟩ | h
  · exact ⟨s, .refl s, by simp [State.hpcBreach, run, h, State.trigger, sound],
      by simp [State.hpcBlind, run, h, State.trigger, sound]⟩
  · exact ⟨s, .refl s, by simp [State.hpcBreach, run, h, State.trigger, sound],
      by simp [State.hpcBlind, run, h, State.trigger, sound]⟩
  · obtain ⟨t, ht, e⟩ := secureRelease_eq s
    exact ⟨t, ht, by simp [State.hpcBreach, run, h, e], by simp [State.hpcBlind, run, h, e]⟩

theorem hpcBreach_insufficient {s : State} (run : s.mdc.mode = .run)
    (h : s.overspring) :
    s.hpcBreach = s.springInsufficient := by
  rcases h with ⟨h, stage⟩ | ⟨h, retained⟩
  · simp [State.hpcBreach, run, h, stage]
  · simp [State.hpcBreach, run, h, retained]

theorem hpcBlind_ignored {s : State} (h : s.passesBlind) : s.hpcBlind = s := by
  unfold State.hpcBlind
  rcases h with ⟨h | h, failed⟩ | h | h
  · simp [h, State.trigger, failed]
  · simp [h, State.trigger, failed]
  · simp [h]
  · simp [h]

/-- What a breach does in a hold goes by the phase. -/
theorem hold_cases {s : State} (hold : s.inHold = true) : s.triggers ∨ s.passesBreach ∨ s.overspring := by
  unfold State.triggers State.passesBreach State.overspring
  cases phase : s.hpc.phase with
  | released => simp [State.inHold, phase, Phase.isHold] at hold
  | capturing | holding => cases s.hpc.handoverFailed <;> simp
  | releasing => simp
  | securing => cases s.guarded <;> simp
  | secured => cases s.hpc.retained <;> simp

/-- Own level at 4, a breach handed on leaves the CSU but for a re-armed Notice. -/
theorem hpcBreach_csu {s : State} (hold : s.inHold = true) (lane : s.free.laneFault = none)
    (top : s.csu.ownLevel = 4) : (s.hpcBreach.csu = s.csu ∨ s.hpcBreach.csu = s.csu.rearm)
    ∧ s.hpcBreach.sgi.bus = s.sgi.bus ∧ s.hpcBreach.speaks := by
  have run := inHold_mode hold
  have speaks : s.speaks := ⟨.inl run, lane⟩
  have level : s.springReported.csu = s.csu := by
    rw [springReported_csu lane, State.stepRequest, raiseOwn_at_four (s := s.handTarget _ _) top]
    rfl
  rcases hold_cases hold with h | h | h
  · obtain ⟨t, ht, e, -⟩ := hpcBreach_enters run h
    obtain ⟨csu, bus, told⟩ := enterSecuring_csu (ht.speaks speaks)
    rw [e]
    exact ⟨.inr (by rw [csu, ht.csu]), bus.trans ht.bus, told⟩
  · rw [hpcBreach_ignored h]
    exact ⟨.inl rfl, rfl, speaks⟩
  · rw [hpcBreach_insufficient run h]
    rcases h with ⟨phase, -⟩ | ⟨phase, -⟩
    · obtain ⟨framed, -, -, -, -, csu, -⟩ := springInsufficient_in_securing lane run phase
      exact ⟨.inr (by rw [csu, level]), framed.bus, framed.speaks speaks⟩
    · obtain ⟨framed, -, -, csu⟩ := springInsufficient_in_secured lane run phase
      exact ⟨.inl (csu.trans level), framed.bus, framed.speaks speaks⟩

end Sys2Proof.Machine

/-! PROOF. A breach (R33): its levels and its Alert, and the phase it ends in. -/

namespace Sys2Proof.Machine

/-- A breach as it is handed to the HPC: latched, both levels at 4, the HAL's result at them delivered (log entry
64). -/
def State.breachLevels (s : State) : State :=
  ({ s with csu := { s.csu with breach := true } } : State).setLevels 4 4

theorem breach_eq (s : State) : s.breach = s.breachLevels.hpcBreach.placeAlert .breach 4 s.csu.alertCreep := rfl

theorem breach_hpc (s : State) : s.breach.hpc = s.breachLevels.hpcBreach.hpc := by simp [breach_eq]
theorem breach_pad (s : State) : s.breach.pad = s.breachLevels.hpcBreach.pad := by simp [breach_eq]
theorem breach_mdc (s : State) : s.breach.mdc = s.breachLevels.hpcBreach.mdc := by simp [breach_eq]

theorem guarded_iff {s : State} {h : HandoverRecord} (hh : s.hpc.handover = some h) :
    s.guarded = true ↔ h.stage = .settle ∨ h.stage = .ramp := by
  simp [State.guarded, hh]

section
variable {s : State} (hold : s.inHold = true) (lane : s.free.laneFault = none)
include lane

theorem breachLevels_sustains : s.sustains s.breachLevels :=
  (sustains_csu s _).trans (setLevels_sustains (s := { s with csu := { s.csu with breach := true } }) lane 4 4)

theorem breachLevels_csu :
    s.breachLevels.csu = { s.csu with breach := true, ownLevel := 4, nodeLevel := 4 } :=
  setLevels_csu (s := { s with csu := { s.csu with breach := true } }) lane 4 4

/-- Where the HPC ignores the breach, phase and PAD stand (R113, R118, R122). -/
theorem breach_sustains (h : s.passesBreach) :
    s.sustains s.breach := by
  have raised := breachLevels_sustains lane
  rw [breach_eq, hpcBreach_ignored (raised.passesBreach h)]
  exact raised.trans (placeAlert_delivers _ _ _ _).tosustains

include hold

theorem breachLevels_mode : s.breachLevels.mdc.mode = .run := (breachLevels_sustains lane).mode.trans (inHold_mode hold)

/-- A breach leaves the CSU breached, with levels 4 and its creep, whatever comes of the phase (R33). -/
theorem breach_csu : s.breach.csu = { s.csu with breach := true, ownLevel := 4, nodeLevel := 4 }
    ∨ s.breach.csu = ({ s.csu with breach := true, ownLevel := 4, nodeLevel := 4 } : Csu).rearm := by
  have raised := breachLevels_sustains lane
  have csu := breachLevels_csu lane
  rw [breach_eq, State.placeAlert_csu, ← csu]
  exact (hpcBreach_csu (raised.inHold.trans hold) (raised.lane lane) (by rw [csu])).1

theorem breach_raises : s.breach.csu.breach = true ∧ s.breach.csu.ownLevel = 4 ∧ s.breach.csu.nodeLevel = 4 := by
  rcases breach_csu hold lane with e | e <;> rw [e] <;> exact ⟨rfl, rfl, rfl⟩

theorem breach_alertCreep : s.breach.csu.alertCreep = s.csu.alertCreep := by
  rcases breach_csu hold lane with e | e <;> rw [e] <;> rfl

/-- Unless in BUS OFF, a breach places its Alert (R33, R172). -/
theorem breach_alerts (bus : s.sgi.bus ≠ .off) : ∃ f ∈ s.breach.sgi.list, f.kind = .alert
    ∧ f.data = encodeAlert .breach 4 s.csu.alertCreep := by
  have raised := breachLevels_sustains lane
  obtain ⟨-, same, on, -⟩ := hpcBreach_csu (raised.inHold.trans hold) (raised.lane lane) (by rw [breachLevels_csu lane])
  exact placeAlert_breach_mem on (by rw [same, raised.bus]; exact bus) _ _

/-- From CAPTURING and HOLDING with handover failed clear, and from RELEASING, a breach secures the hold (R112,
R113). -/
theorem breach_secures (h : s.triggers) (drives : s.drivesLine) :
    ∃ t, s.sustains t ∧ t.secures s.breachLevels.hpcBreach := by
  have raised := breachLevels_sustains lane
  obtain ⟨t, ht, e, -⟩ := hpcBreach_enters (breachLevels_mode hold lane) (raised.triggers h)
  have whole := raised.trans ht.tosustains
  exact ⟨t, whole, by rw [e]; exact enterSecuring_secures (whole.drivesLine drives)⟩

theorem breach_enters_securing (h : s.triggers) (drives : s.drivesLine) :
    s.breach.inPhase .securing = true ∧ s.breach.pad.hpcRequest = .assert := by
  obtain ⟨t, ht, secured⟩ := breach_secures hold lane h drives
  refine ⟨?_, by rw [breach_pad, secured.hpcRequest]⟩
  have entered := secured.inPhase (ht.mode.trans (inHold_mode hold))
  unfold State.inPhase at entered ⊢
  rwa [breach_mdc, breach_hpc]

/-- In SECURED a breach leaves the phase, with service retained (R122). -/
theorem breach_in_secured (phase : s.hpc.phase = .secured) :
    s.breach.inPhase .secured = true ∧ s.breach.hpc.retained.isSome = true := by
  have raised := breachLevels_sustains lane
  have run := breachLevels_mode hold lane
  cases retained : s.hpc.retained with
  | some p =>
    have stood := breach_sustains lane (.inr (.inr ⟨phase, by simp [retained]⟩))
    exact ⟨by simp [inPhase_iff, stood.mode, inHold_mode hold, stood.phase, phase], by simp [stood.retained, retained]⟩
  | none =>
    have none : s.breachLevels.hpc.retained = none := by simpa [retained] using raised.retained
    obtain ⟨framed, entered, retains, -⟩ :=
      springInsufficient_in_secured (raised.lane lane) run (raised.phase.trans phase)
    have e := hpcBreach_insufficient run (.inr ⟨raised.phase.trans phase, none⟩)
    exact ⟨by simp [inPhase_iff, breach_mdc, breach_hpc, e, framed.mode, run, entered],
      by simp [breach_hpc, e, retains]⟩

/-- In CONFIRM and WAIT a breach leaves the handover; in SETTLE and RAMP it ends it in SECURED (R118). -/
theorem breach_in_securing (phase : s.hpc.phase = .securing) {h : HandoverRecord} (hh : s.hpc.handover = some h) :
    (h.stage = .confirm ∨ h.stage = .wait → s.breach.inPhase .securing = true ∧ s.breach.hpc.handover = some h)
    ∧ (h.stage = .settle ∨ h.stage = .ramp
      → s.breach.inPhase .secured = true ∧ s.breach.hpc.retained = some h.preHold) := by
  have raised := breachLevels_sustains lane
  have run := breachLevels_mode hold lane
  constructor <;> intro stage
  · have free : s.guarded = false := by
      rw [Bool.eq_false_iff, Ne, guarded_iff hh]
      rcases stage with e | e <;> simp [e]
    have stood := breach_sustains lane (.inr (.inl ⟨phase, free⟩))
    exact ⟨by simp [inPhase_iff, stood.mode, inHold_mode hold, stood.phase, phase], stood.handover.trans hh⟩
  · have kept := raised.handover.trans hh
    have e := hpcBreach_insufficient run (.inl ⟨raised.phase.trans phase, (guarded_iff kept).2 stage⟩)
    obtain ⟨framed, entered, -, retained, -⟩ :=
      springInsufficient_in_securing (raised.lane lane) run (raised.phase.trans phase)
    have level : s.breachLevels.preHandover = h.preHold := by simp [State.preHandover, kept]
    exact ⟨by simp [inPhase_iff, breach_mdc, breach_hpc, e, framed.mode, run, entered],
      by rw [breach_hpc, e, retained, level]⟩

end

end Sys2Proof.Machine

/-! PROOF. Notice, escalation, breach by distance and blind creep (R29 to R33, R36, R37). -/

namespace Sys2Proof.Machine

/-! ## Escalation (R32, R36) -/

/-- The points reached move the next point just past effective creep (R32). -/
theorem pointsReached_spec {u : Csu} {c : Settings} {e : Int} (he : u.effective = some e)
    (interval : 0 < c.escalateInterval) : e < u.nextPoint + u.pointsReached c * c.escalateInterval
      ∧ (0 < u.pointsReached c → u.nextPoint + u.pointsReached c * c.escalateInterval - c.escalateInterval ≤ e) := by
  have positive : (0 : Int) < c.escalateInterval := Int.natCast_pos.2 interval
  by_cases below : e < u.nextPoint
  · simp [Csu.pointsReached, he, below]
  · have whole : 0 ≤ (e - u.nextPoint) / (c.escalateInterval : Int) := Int.ediv_nonneg (by omega) positive.le
    have count : (u.pointsReached c : Int) = (e - u.nextPoint) / (c.escalateInterval : Int) + 1 := by
      simp [Csu.pointsReached, he, below, whole]
    have above := Int.lt_ediv_add_one_mul_self (e - u.nextPoint) positive
    have atMost := Int.ediv_mul_le (e - u.nextPoint) positive.ne'
    rw [count]
    constructor
    · omega
    · intro _
      rw [Int.add_mul]
      omega

theorem escalationTest_raises {s : State} (hold : s.inHold = true) (own : s.csu.ownLevel ≤ 4) :
    s.escalationTest = (s.movePoint (s.csu.pointsReached s.mdc.settings)).raiseOwn
      (s.csu.pointsReached s.mdc.settings) := by
  unfold State.escalationTest
  dsimp only
  split
  · rfl
  · rename_i none
    have zero : s.csu.pointsReached s.mdc.settings = 0 := by simpa [hold] using none
    simp [zero, State.movePoint, State.raiseOwn, own]

theorem escalationTest_sustains {s : State} (lane : s.free.laneFault = none) : s.sustains s.escalationTest := by
  unfold State.escalationTest
  dsimp only
  split
  · exact (sustains_csu s _).trans (raiseOwn_sustains (s := s.movePoint _) lane _)
  · exact .refl s

theorem escalationTest_csu {s : State} (hold : s.inHold = true) (own : s.csu.ownLevel ≤ 4)
    (lane : s.free.laneFault = none) : s.escalationTest.csu
      = (let n := s.csu.pointsReached s.mdc.settings
        let moved := s.csu.nextPoint + n * s.mdc.settings.escalateInterval
        if min 4 (s.csu.ownLevel + n) = s.csu.ownLevel then { s.csu with nextPoint := moved } else
          { s.csu with nextPoint := moved, ownLevel := min 4 (s.csu.ownLevel + n)
                       nodeLevel := s.mergedLevel (min 4 (s.csu.ownLevel + n)) }) := by
  rw [escalationTest_raises hold own]
  exact raiseOwn_csu (s := s.movePoint _) lane _

/-! ## Notice (R30, R118) -/

theorem noticeReached_eq {u : Csu} {e : Int} (c : Settings) (he : u.effective = some e) :
    u.noticeReached c = true ↔ u.notice = false ∧ u.noticeBase + c.noticeThreshold ≤ e := by
  simp [Csu.noticeReached, he]

theorem breachReached_eq {u : Csu} {e : Int} (c : Settings) (he : u.effective = some e) :
    u.breachReached c = true ↔ u.breach = false ∧ (c.breachThreshold : Int) ≤ e := by
  simp [Csu.breachReached, he]

/-- Notice latched. -/
def State.noticed (s : State) : State := { s with csu := { s.csu with notice := true } }

/-- A Notice crossing is latched and handed to the HPC (R30). -/
theorem noticeTest_reached {s : State} (hold : s.inHold = true) (h : s.csu.noticeReached s.mdc.settings = true) :
    s.noticeTest = s.noticed.hpcNotice := by
  simp [State.noticeTest, State.noticed, hold, h]

theorem noticeTest_unreached {s : State} (h : s.csu.noticeReached s.mdc.settings = false) : s.noticeTest = s := by
  simp [State.noticeTest, h]

theorem breachTest_reached {s : State} (hold : s.inHold = true) (h : s.csu.breachReached s.mdc.settings = true) :
    s.breachTest = s.breach := by
  simp [State.breachTest, hold, h]

theorem breachTest_unreached {s : State} (h : s.csu.breachReached s.mdc.settings = false) : s.breachTest = s := by
  simp [State.breachTest, h]

/-- In CAPTURING and HOLDING, and in SECURED with service retained, the HPC does nothing at a Notice crossing. -/
theorem hpcNotice_ignored {s : State} (h : s.hpc.phase = .capturing ∨ s.hpc.phase = .holding
    ∨ s.hpc.phase = .secured ∧ s.hpc.retained.isSome = true) : s.hpcNotice = s := by
  unfold State.hpcNotice
  rcases h with h | h | ⟨h, retained⟩
  · simp [h]
  · simp [h]
  · obtain ⟨p, hp⟩ := Option.isSome_iff_exists.1 retained
    simp [h, hp]

/-- A Notice crossing in SETTLE and RAMP finds the spring insufficient (R118). -/
theorem hpcNotice_insufficient {s : State} (run : s.mdc.mode = .run) (phase : s.hpc.phase = .securing)
    (stage : s.guarded = true) : s.hpcNotice = s.springInsufficient := by
  simp [State.hpcNotice, run, phase, stage]

/-! ## Blind creep (R29) -/

theorem effectiveCreep_eq_none {u : Csu} {entries : List PeerEntry} (own : u.ownValid = false)
    (peers : ∀ p ∈ entries, p.freshness = .fresh → p.decl.phase.isHold = true → p.decl.creepValid = false) :
    u.effectiveCreep entries = none := by
  have quiet : peerCreeps entries = [] := by
    refine List.eq_nil_iff_forall_not_mem.2 fun y hy => ?_
    obtain ⟨p, hp, fresh, hold, valid, -⟩ := (mem_peerCreeps entries y).1 hy
    simp [peers p hp fresh hold] at valid
  simp [Csu.effectiveCreep, own, quiet, largest]

/-- Blind set and both levels at 4, with the HAL's result at them delivered (log entry 64). -/
def State.blindLevels (s : State) : State :=
  ({ s with csu := { s.csu with blind := true } } : State).setLevels 4 4

theorem blindOnset_eq (s : State) : s.blindOnset = if s.free.blindReportFirst
    then (s.blindLevels.report blindReport).hpcBlind else s.blindLevels.hpcBlind.report blindReport := rfl

theorem storeReport_blind_frb (s : State) : (s.storeReport blindReport).frb
    = { banks := s.frb.banks.store .sense (s.complete blindReport), responseActive := true } := by
  simp [State.storeReport_frb, blindReport, plainReport]

section
variable {s : State} (lane : s.free.laneFault = none)
include lane

theorem blindLevels_sustains : s.sustains s.blindLevels :=
  (sustains_csu s _).trans (setLevels_sustains (s := { s with csu := { s.csu with blind := true } }) lane 4 4)

theorem blindLevels_csu : s.blindLevels.csu = { s.csu with blind := true, ownLevel := 4, nodeLevel := 4 } :=
  setLevels_csu (s := { s with csu := { s.csu with blind := true } }) lane 4 4

theorem blindLevels_frb : s.blindLevels.frb = s.frb :=
  setLevels_frb (s := { s with csu := { s.csu with blind := true } }) lane 4 4

variable (clear : s.frb.responseActive = false)
include clear

/-- The report of blind creep is the first severe one (R201). -/
theorem blindLevels_reports : s.blindLevels.sustains (s.blindLevels.report blindReport)
    ∧ (s.blindLevels.report blindReport).csu = s.blindLevels.csu
    ∧ (s.blindLevels.report blindReport).frb = (s.blindLevels.storeReport blindReport).frb :=
  report_sustains ((blindLevels_sustains lane).lane lane) (secondSevere_first (by rw [blindLevels_frb lane, clear]))

/-- Where the HPC ignores a blind onset, phase and PAD stand, and the SENSE bank takes the record (R29). -/
theorem blindOnset_stays (h : s.passesBlind) : s.sustains s.blindOnset
      ∧ s.blindOnset.csu = { s.csu with blind := true, ownLevel := 4, nodeLevel := 4 }
      ∧ s.blindOnset.frb
        = { banks := s.frb.banks.store .sense (s.complete blindReport), responseActive := true } := by
  have raised := blindLevels_sustains lane
  obtain ⟨told, csu, frb⟩ := blindLevels_reports lane clear
  have whole := raised.trans told
  have e : s.blindOnset = s.blindLevels.report blindReport := by
    rw [blindOnset_eq]
    split
    · exact hpcBlind_ignored (whole.passesBlind h)
    · rw [hpcBlind_ignored (raised.passesBlind h)]
  rw [e]
  refine ⟨whole, csu.trans (blindLevels_csu lane), frb.trans ?_⟩
  rw [storeReport_blind_frb, raised.complete, blindLevels_frb lane]

/-- A blind onset secures the hold as a breach does; the record is completed before or after (R29; log entry 23). -/
theorem blindOnset_secures (hold : s.inHold = true) (drives : s.drivesLine)
    (h : s.triggers) :
    s.blindOnset.inPhase .securing = true ∧ s.blindOnset.pad.hpcRequest = .assert
      ∧ s.blindOnset.csu = ({ s.csu with blind := true, ownLevel := 4, nodeLevel := 4 } : Csu).rearm
      ∧ ∃ t : State, s.blindOnset.frb
        = { banks := s.frb.banks.store .sense (t.complete blindReport), responseActive := true } := by
  have raised := blindLevels_sustains lane
  have run := raised.mode.trans (inHold_mode hold)
  rw [blindOnset_eq, ← blindLevels_csu lane, ← blindLevels_frb lane]
  split
  · obtain ⟨told, csu, frb⟩ := blindLevels_reports lane clear
    have whole := raised.trans told
    obtain ⟨t, ht, -, e⟩ := hpcBreach_enters (told.mode.trans run) (whole.triggers h)
    have entered := enterSecuring_secures ((whole.trans ht.tosustains).drivesLine drives)
    rw [e]
    exact ⟨entered.inPhase (ht.mode.trans (told.mode.trans run)), entered.hpcRequest, by rw [entered.csu, ht.csu, csu],
      _, by rw [entered.frb, ht.frb, frb, storeReport_blind_frb]⟩
  · obtain ⟨t, ht, -, e⟩ := hpcBreach_enters run (raised.triggers h)
    have entered := enterSecuring_secures ((raised.trans ht.tosustains).drivesLine drives)
    have banks := entered.frb.trans ht.frb
    rw [e]
    obtain ⟨told, csu, frb⟩ := report_sustains (r := blindReport) (entered.lane (ht.lane (raised.lane lane)))
      (secondSevere_first (by rw [banks, blindLevels_frb lane, clear]))
    refine ⟨?_, by rw [told.pad, entered.hpcRequest], by rw [csu, entered.csu, ht.csu], _,
      by rw [frb, storeReport_blind_frb, banks]⟩
    rw [told.inPhase]
    exact entered.inPhase (ht.mode.trans run)

/-- Blind set and levels 4 at every onset, with the record in the SENSE bank (R29). -/
theorem blindOnset_raises (hold : s.inHold = true) (drives : s.drivesLine) :
    (s.blindOnset.csu = { s.csu with blind := true, ownLevel := 4, nodeLevel := 4 }
      ∨ s.blindOnset.csu = ({ s.csu with blind := true, ownLevel := 4, nodeLevel := 4 } : Csu).rearm)
    ∧ ∃ t : State, s.blindOnset.frb
      = { banks := s.frb.banks.store .sense (t.complete blindReport), responseActive := true } := by
  have by_phase : s.triggers ∨ s.passesBlind := by
    rcases hold_cases hold with h | (h | h | h) | h | h <;> simp [State.triggers, State.passesBlind, h]
  rcases by_phase with h | h
  · obtain ⟨-, -, csu, frb⟩ := blindOnset_secures lane clear hold drives h
    exact ⟨.inr csu, frb⟩
  · obtain ⟨-, csu, frb⟩ := blindOnset_stays lane clear h
    exact ⟨.inl csu, s, frb⟩

end

/-- Effective creep without a value, the last one kept (R28). -/
def State.creepLost (s : State) : State := { s with csu := { s.csu with effective := none } }

/-- Effective creep lost in a hold with an anchor is a blind onset (R29; log entry 19). -/
theorem creepRecompute_blind {s : State} {entry : Bool} (hold : s.inHold = true) (anchored : s.csu.anchor ≠ .absent)
    (lost : s.csu.effective.isSome = true ∨ entry = true) (none : s.csu.effectiveCreep s.pvt.entries = none) :
    s.creepRecompute entry = s.creepLost.blindOnset := by
  have held : s.creepLost.inHold = true := hold
  unfold State.creepLost at held ⊢
  simp [State.creepRecompute, recompute_none none, held, Csu.anchored, anchored, lost]

end Sys2Proof.Machine

/-! PROOF. The crossings of effective creep as one rule (R29 to R33). -/

namespace Sys2Proof.Machine

/-- Escalation leaves the next point just past effective creep, and the levels follow the points passed (R32, R36,
R37). -/
theorem escalationTest_spec {s : State} {e : Int} (hold : s.inHold = true) (he : s.csu.effective = some e)
    (interval : 0 < s.mdc.settings.escalateInterval) (own : s.csu.ownLevel ≤ 4) (lane : s.free.laneFault = none) :
    (∃ n : Nat, s.escalationTest.csu.nextPoint = s.csu.nextPoint + n * s.mdc.settings.escalateInterval
      ∧ e < s.escalationTest.csu.nextPoint
      ∧ (0 < n → s.escalationTest.csu.nextPoint - s.mdc.settings.escalateInterval ≤ e)
      ∧ s.escalationTest.csu.ownLevel = min 4 (s.csu.ownLevel + n))
    ∧ (s.escalationTest.csu.ownLevel = s.csu.ownLevel → s.escalationTest.csu.nodeLevel = s.csu.nodeLevel)
    ∧ (s.escalationTest.csu.ownLevel ≠ s.csu.ownLevel → s.escalationTest.csu.nodeLevel
      = max (max s.csu.nodeLevel s.escalationTest.csu.ownLevel) (peerLevel s.pvt.entries)) := by
  obtain ⟨past, least⟩ := pointsReached_spec he interval
  have csu := escalationTest_csu hold own lane
  dsimp only at csu
  split at csu
  · rename_i same
    rw [csu]
    exact ⟨⟨_, rfl, past, least, same.symm⟩, fun _ => rfl, fun h => absurd rfl h⟩
  · rename_i raised
    rw [csu]
    exact ⟨⟨_, rfl, past, least, rfl⟩, fun h => absurd h raised, fun _ => rfl⟩

/-- A Notice crossing in SETTLE or RAMP: the spring insufficient (R118; log entry 36). -/
theorem noticeTest_in_handover {s : State} {e : Int} {h : HandoverRecord} (phase : s.inPhase .securing = true)
    (he : s.csu.effective = some e) (clear : s.csu.notice = false)
    (reached : s.csu.noticeBase + s.mdc.settings.noticeThreshold ≤ e) (hh : s.hpc.handover = some h)
    (stage : h.stage = .settle ∨ h.stage = .ramp) (lane : s.free.laneFault = none) :
    (s.noticeTest.inPhase .secured = true ∧ s.noticeTest.hpc.handover = none
      ∧ s.noticeTest.hpc.retained = some h.preHold ∧ s.noticeTest.cpr.target = min s.mdc.settings.pMax h.preHold)
    ∧ (s.noticeTest.csu.ownLevel = min 4 (s.csu.ownLevel + 1) ∧ s.noticeTest.csu.notice = false
      ∧ s.noticeTest.csu.noticeBase = max 0 e)
    ∧ s.noticeTest.frb = { s.frb with banks := s.frb.banks.store .spring (s.complete springInsufficientReport) }
    ∧ s.noticeTest.pad = s.pad := by
  obtain ⟨run, securing⟩ := (inPhase_iff s _).1 phase
  have guarded : s.noticed.guarded = true := (guarded_iff (s := s.noticed) hh).2 stage
  have found : s.noticeTest = s.noticed.springInsufficient := by
    rw [noticeTest_reached (inHold_of_inPhase phase rfl) ((noticeReached_eq _ he).2 ⟨clear, reached⟩)]
    exact hpcNotice_insufficient (s := s.noticed) run securing guarded
  obtain ⟨framed, entered, handover, retained, target, csu, frb, pad⟩ :=
    springInsufficient_in_securing (s := s.noticed) lane run securing
  have level : s.noticed.preHandover = h.preHold := by simp [State.preHandover, State.noticed, hh]
  have raised := springReported_csu (s := s.noticed) lane
  have own : s.noticed.springReported.csu.ownLevel = min 4 (s.csu.ownLevel + 1) := by
    rw [raised]
    exact raiseOwn_ownLevel (s := s.noticed.handTarget s.noticed.preHandover false) lane 1
  have effective : s.noticed.springReported.csu.effective = some e := by
    rw [raised, State.stepRequest, raiseOwn_csu (s := s.noticed.handTarget s.noticed.preHandover false) lane]
    split <;> exact he
  rw [found, csu, frb, springReported_frb (s := s.noticed) lane]
  refine ⟨⟨(inPhase_iff _ _).2 ⟨framed.mode.trans run, entered⟩, handover,
    by rw [retained, level], target.trans (by rw [level]; rfl)⟩, ⟨own, rfl, ?_⟩, rfl, pad⟩
  simp [Csu.rearm, effective]

theorem breachTest_of_distance {s : State} {e : Int} (hold : s.inHold = true) (he : s.csu.effective = some e)
    (clear : s.csu.breach = false) (far : (s.mdc.settings.breachThreshold : Int) ≤ e) : s.breachTest = s.breach :=
  breachTest_reached hold ((breachReached_eq _ he).2 ⟨clear, far⟩)

/-- Settles O25: each test is taken apart by the phase it finds, and so is the onset of blind creep. -/
theorem escalationRule : Obligations.EscalationRule := by
  refine ⟨fun s e hold he interval own lane => escalationTest_spec hold he interval own lane,
    fun s e hold he => ⟨fun h => ?_, fun h => ?_, fun clear reached phase => ?_⟩,
    fun s e h phase he clear reached hh stage own lane => noticeTest_in_handover phase he clear reached hh stage lane,
    fun s e hold he clear far lane => ?_, fun s entry hold anchored lost own peers clear sensor lane => ?_⟩
  · refine noticeTest_unreached (Bool.eq_false_iff.2 fun reached => ?_)
    obtain ⟨clear, far⟩ := (noticeReached_eq _ he).1 reached
    rcases h with h | h
    · simp [h] at clear
    · omega
  · refine breachTest_unreached (Bool.eq_false_iff.2 fun reached => ?_)
    obtain ⟨clear, far⟩ := (breachReached_eq _ he).1 reached
    rcases h with h | h
    · simp [h] at clear
    · omega
  · rw [noticeTest_reached hold ((noticeReached_eq _ he).2 ⟨clear, reached⟩)]
    refine hpcNotice_ignored ?_
    rcases phase with h | h
    · exact .inl h
    · exact .inr (.inl h)
  · rw [breachTest_of_distance hold he clear far]
    exact ⟨breach_raises hold lane, breach_alerts hold lane, breach_in_secured hold lane,
      fun phase sound drives => breach_enters_securing hold lane (.inl ⟨phase, sound⟩) drives,
      fun phase failed => (breach_sustains lane (.inl ⟨phase, failed⟩)).phase,
      fun phase drives => breach_enters_securing hold lane (.inr phase) drives,
      fun phase h hh => breach_in_securing hold lane phase hh⟩
  · rw [creepRecompute_blind hold anchored lost (effectiveCreep_eq_none own peers)]
    have stays := blindOnset_stays (s := s.creepLost) lane clear
    have secures := blindOnset_secures (s := s.creepLost) lane clear hold (.inr sensor)
    obtain ⟨csu, u, frb⟩ := blindOnset_raises (s := s.creepLost) lane clear hold (.inr sensor)
    have same (h : s.creepLost.sustains s.creepLost.blindOnset) :
        s.creepLost.blindOnset.inPhase s.hpc.phase = true := by
      rw [h.inPhase, inPhase_iff]
      exact ⟨inHold_mode hold, rfl⟩
    refine ⟨?_, ?_, fun phase => ?_, fun phase sound => ?_, fun phase failed => ?_, fun phase => ?_, fun empty => ?_⟩
    · rcases csu with e | e <;> rw [e] <;> exact ⟨rfl, rfl, rfl⟩
    · rcases csu with e | e <;> rw [e] <;> exact ⟨rfl, rfl, rfl⟩
    · obtain ⟨stood, -, record⟩ := stays (.inr phase.symm)
      exact ⟨record, same stood, stood.handover⟩
    · obtain ⟨entered, request, -⟩ := secures (.inl ⟨phase, sound⟩)
      exact ⟨entered, request⟩
    · exact same (stays (.inl ⟨phase, failed⟩)).1
    · obtain ⟨entered, request, -⟩ := secures (.inr phase)
      exact ⟨entered, request⟩
    · have free : s.creepLost.frb.banks.get .sense = none := empty
      rw [frb]
      exact ⟨by simp [Banks.store, Banks.put, free, overwrite, State.complete, blindReport, plainReport], rfl⟩

end Sys2Proof.Machine

/-! PROOF. The breach velocity (R34): its time at a sample, and the sample that brings the time to 100 ms. -/

namespace Sys2Proof.Machine

/-! ## The velocity test -/

/-- The breach velocity time runs at this sample (R34). -/
def State.velocityRuns (s : State) : Bool := s.fast && !s.exempt

/-- What the velocity test reads of the CSU. -/
def Csu.velocityPart (u : Csu) : Bool × Bool × Nat := (u.anchored, u.breach, u.breachTime)

theorem velocityRuns_eq (s : State) : s.velocityRuns = (s.wmt.positionValid
    && decide ((s.mdc.settings.breachVelocity : Int) ≤ s.glu.downhill (s.wmt.speed s.mdc.settings.circumference))
    && !(s.hpc.phase == .releasing && s.demandDownhill)) := rfl

theorem velocityDue_iff (s : State) : s.velocityDue = true ↔ s.inHold = true ∧ s.csu.anchored = true
    ∧ s.csu.breach = false ∧ s.velocityRuns = true ∧ 1000 ≤ s.csu.breachTime + s.wmt.period := by
  simp [State.velocityDue, State.velocityRuns, ms, and_assoc]

/-- Without a hold, an anchor or a clear Breach the comparison is not made (R34; log entry 71). -/
theorem velocityTest_idle {s : State} (h : s.inHold = false ∨ s.csu.breach = true) : s.velocityTest = s := by
  rcases h with h | h <;> simp [State.velocityTest, h]

theorem velocityTest_made {s : State} (hold : s.inHold = true) (anchored : s.csu.anchored = true)
    (clear : s.csu.breach = false) : s.velocityTest = if s.velocityRuns = true then
      (if 1000 ≤ s.csu.breachTime + s.wmt.period then (s.setBreachTime 1000).breach
        else s.setBreachTime (s.csu.breachTime + s.wmt.period)) else s.setBreachTime 0 := by
  simp [State.velocityTest, State.velocityRuns, hold, anchored, clear, ms]

theorem velocityTest_due {s : State} (due : s.velocityDue = true) : s.velocityTest = (s.setBreachTime 1000).breach := by
  obtain ⟨hold, anchored, clear, runs, full⟩ := (velocityDue_iff s).1 due
  rw [velocityTest_made hold anchored clear, if_pos runs, if_pos full]

theorem setBreachTime_sustains (s : State) (n : Nat) : s.sustains (s.setBreachTime n) := sustains_csu s _

theorem State.sustains.velocityDue {s t : State} (h : s.sustains t) (part : t.csu.velocityPart = s.csu.velocityPart) :
    t.velocityDue = s.velocityDue := by
  simp only [Csu.velocityPart, Prod.mk.injEq] at part
  obtain ⟨anchored, breach, time⟩ := part
  simp only [State.velocityDue, State.fast, State.exempt, State.demandDownhill, State.demand, h.inHold, h.wmt, h.glu,
    h.vir, h.mdc, h.phase, anchored, breach, time]

/-! ## The CSU at the sample -/

/-- A sample leaves what the velocity test reads, and with the position valid it gives own creep a value (R25, R26). -/
theorem sampleCreep_anchored {u : Csu} {w : Wmt} (g : Glu) (k : Settings) (gap : Bool) (anchored : u.anchored = true)
    (valid : w.positionValid = true) :
    (u.sampleCreep w g k gap).velocityPart = u.velocityPart ∧ (u.sampleCreep w g k gap).ownValid = true := by
  cases anchor : u.anchor with
  | absent => simp [Csu.anchored, anchor] at anchored
  | pending =>
    rw [sampleCreep_anchors g k gap anchor valid, Csu.velocityPart, Csu.velocityPart, anchored]
    exact ⟨rfl, rfl⟩
  | held o =>
    cases gap with
    | true =>
      rw [sampleCreep_reanchors g k anchor valid, Csu.velocityPart, Csu.velocityPart, anchored]
      exact ⟨rfl, rfl⟩
    | false =>
      rw [sampleCreep_reads g k anchor valid]
      exact ⟨rfl, rfl⟩

theorem recompute_velocityPart (u : Csu) (l : List PeerEntry) : (u.recompute l).velocityPart = u.velocityPart := by
  unfold Csu.recompute
  split <;> rfl

theorem effectiveCreep_of_own {u : Csu} (h : u.ownValid = true) (l : List PeerEntry) :
    (u.effectiveCreep l).isSome = true := by
  simp [Csu.effectiveCreep, h, largest]

theorem gapReport_sustains {s : State} (lane : s.free.laneFault = none) (before : Bool) :
    s.sustains (s.gapReport before) ∧ (s.gapReport before).csu = s.csu := by
  unfold State.gapReport
  split
  · obtain ⟨told, csu, -⟩ := report_sustains lane (secondSevere_mild (s := s) (r := creepGapReport) (by decide))
    exact ⟨told, csu⟩
  · exact ⟨.refl s, rfl⟩

/-- The HPC does nothing at a Notice crossing: CAPTURING, HOLDING, and SECURED with service retained (R111, R118,
R122). -/
abbrev State.passesNotice (s : State) : Prop :=
  s.hpc.phase = .capturing ∨ s.hpc.phase = .holding ∨ s.hpc.phase = .secured ∧ s.hpc.retained.isSome = true

theorem State.sustains.passesNotice {s t : State} (h : s.sustains t) (k : s.passesNotice) : t.passesNotice := by
  unfold State.passesNotice
  rw [h.phase, h.retained]
  exact k

theorem noticeTest_passed {s : State} (h : s.passesNotice) :
    s.sustains s.noticeTest ∧ s.noticeTest.csu.velocityPart = s.csu.velocityPart := by
  unfold State.noticeTest
  split
  · rw [hpcNotice_ignored (s := { s with csu := { s.csu with notice := true } }) h]
    exact ⟨sustains_csu s _, rfl⟩
  · exact ⟨.refl s, rfl⟩

theorem escalationTest_velocityPart {s : State} (lane : s.free.laneFault = none) :
    s.escalationTest.csu.velocityPart = s.csu.velocityPart := by
  unfold State.escalationTest
  dsimp only
  split
  · rw [raiseOwn_csu (s := s.movePoint _) lane]
    split <;> rfl
  · rfl

/-- Up to the breach test the phase stands, and so does what the velocity test reads (R30, R32). -/
theorem tests_before_breach {s : State} (lane : s.free.laneFault = none) (notice : s.passesNotice) :
    s.sustains s.noticeTest.escalationTest
      ∧ s.noticeTest.escalationTest.csu.velocityPart = s.csu.velocityPart := by
  obtain ⟨noticed, part⟩ := noticeTest_passed notice
  exact ⟨noticed.trans (escalationTest_sustains (noticed.lane lane)),
    (escalationTest_velocityPart (noticed.lane lane)).trans part⟩

/-- Effective creep formed anew, without the tests that follow (R28). -/
def State.creepFormed (s : State) : State := { s with csu := s.csu.recompute s.pvt.entries }

theorem creepFormed_sustains (s : State) : s.sustains s.creepFormed := sustains_csu s _

/-- With a value of effective creep and an anchor a recomputation is followed by the tests (R30, R32, R33). -/
theorem creepRecompute_tests {s : State} (anchored : s.csu.anchored = true)
    (value : (s.csu.effectiveCreep s.pvt.entries).isSome = true) (entry : Bool) :
    s.creepRecompute entry = s.creepFormed.noticeTest.escalationTest.breachTest := by
  have still : (s.csu.recompute s.pvt.entries).anchored = true := by
    unfold Csu.anchored at anchored ⊢
    rw [recompute_anchor]
    exact anchored
  simp [State.creepRecompute, State.creepFormed, State.crossingTests, value, still]

/-- Own creep read at a sample, with its creep-gap advisory (R25, R27). -/
def State.ownRead (s : State) (gap : Bool) : State :=
  ({ s with csu := s.csu.sampleCreep s.wmt s.glu s.mdc.settings gap } : State).gapReport s.csu.creepGap

theorem ownRead_anchored {s : State} (lane : s.free.laneFault = none) (anchored : s.csu.anchored = true)
    (valid : s.wmt.positionValid = true) (gap : Bool) : s.sustains (s.ownRead gap)
      ∧ (s.ownRead gap).csu.velocityPart = s.csu.velocityPart ∧ (s.ownRead gap).csu.ownValid = true := by
  obtain ⟨told, csu⟩ := gapReport_sustains
    (s := { s with csu := s.csu.sampleCreep s.wmt s.glu s.mdc.settings gap }) lane s.csu.creepGap
  unfold State.ownRead
  rw [csu]
  exact ⟨(sustains_csu s _).trans told, sampleCreep_anchored s.glu s.mdc.settings gap anchored valid⟩

/-- With the position valid and an anchor, the CSU's sample forms effective creep and tests the velocity (R25, R28,
R34). -/
theorem csuSample_anchored {s : State} (anchored : s.csu.anchored = true) (valid : s.wmt.positionValid = true)
    (gap : Bool) : s.csuSample gap = ((s.ownRead gap).creepRecompute false).velocityTest := by
  have own := (sampleCreep_anchored s.glu s.mdc.settings gap anchored valid).2
  simp [State.csuSample, State.ownRead, own]

/-- Where the breach velocity time comes to 100 ms, the last two tests end in a breach: by distance, or by speed (R33,
R34). -/
theorem breach_or_velocity {s : State} (lane : s.free.laneFault = none) (due : s.velocityDue = true) :
    ∃ t, s.sustains t ∧ s.breachTest.velocityTest = t.breach := by
  have hold := ((velocityDue_iff s).1 due).1
  by_cases far : s.csu.breachReached s.mdc.settings = true
  · refine ⟨s, .refl s, ?_⟩
    rw [breachTest_reached hold far]
    exact velocityTest_idle (.inr (breach_raises hold lane).1)
  · refine ⟨s.setBreachTime 1000, setBreachTime_sustains s 1000, ?_⟩
    rw [breachTest_unreached (by simpa using far), velocityTest_due due]

/-- The CSU's sample that brings the time to 100 ms ends in a breach. -/
theorem csuSample_breaches {s : State} (lane : s.free.laneFault = none) (notice : s.passesNotice)
    (due : s.velocityDue = true) (gap : Bool) : ∃ t, s.sustains t ∧ s.csuSample gap = t.breach := by
  obtain ⟨-, anchored, -, runs, -⟩ := (velocityDue_iff s).1 due
  have valid : s.wmt.positionValid = true := by
    rw [velocityRuns_eq, Bool.and_eq_true, Bool.and_eq_true] at runs
    exact runs.1.1
  obtain ⟨read, readPart, own⟩ := ownRead_anchored lane anchored valid gap
  have formed := read.trans (creepFormed_sustains (s.ownRead gap))
  obtain ⟨tests, testsPart⟩ := tests_before_breach (formed.lane lane) (formed.passesNotice notice)
  have whole := formed.trans tests
  have part := (testsPart.trans (recompute_velocityPart _ _)).trans readPart
  obtain ⟨t, ht, e⟩ := breach_or_velocity (whole.lane lane) ((whole.velocityDue part).trans due)
  have still : (s.ownRead gap).csu.anchored = true := (congrArg Prod.fst readPart).trans anchored
  refine ⟨t, whole.trans ht, ?_⟩
  rw [csuSample_anchored anchored valid, creepRecompute_tests still (effectiveCreep_of_own own _), e]

/-! ## The sample -/

/-- Two handings are taken in the one order or the other (log entry 10). -/
theorem handAll_pair (f g : State → State) (s : State) :
    (handAll [f, g] s = g (f { s with free := { s.free with order := restOfOrder 2 s.free.order } }))
    ∨ handAll [f, g] s = f (g { s with free := { s.free with order := restOfOrder 2 s.free.order } }) := by
  have order (k : Nat) : permute k [f, g] = [f, g] ∨ permute k [f, g] = [g, f] := by
    have one (j : Nat) : permute j [g] = [g] := by
      unfold permute
      simp [permute, Nat.mod_one, insertAt]
    unfold permute
    rw [one]
    cases k % ([g].length + 1) with
    | zero => exact .inl rfl
    | succ n => cases n <;> exact .inr rfl
  unfold handAll
  rcases order s.free.order with e | e <;> rw [e]
  · exact .inl rfl
  · exact .inr rfl

/-- The state that the handings of a sample without reports begin in. -/
def State.sampled (s : State) (w : Wmt) : State :=
  { s with wmt := w, free := { s.free with order := restOfOrder 2 s.free.order } }

@[simp] theorem State.sampled_wmt (s : State) (w : Wmt) : (s.sampled w).wmt = w := rfl
@[simp] theorem State.sampled_sgi (s : State) (w : Wmt) : (s.sampled w).sgi = s.sgi := rfl

theorem hpcSample_elsewhere {s : State} (h : s.inPhase .releasing = false) : s.hpcSample = s := by
  unfold State.hpcSample
  split <;> simp [h]

section
variable {s : State} {a b : Code} (lane : s.free.laneFault = none) (sampling : s.wmt.sampling = true)
  (notice : s.passesNotice) (reports : (s.wheel a b).2.reports = [])
  (still : (s.wheel a b).2.lostStationary = false)
  (due : ({ s with wmt := (s.wheel a b).1 } : State).velocityDue = true)
include lane sampling notice reports still due

/-- The row of the breach velocity is the sample that breaches, whatever the order of its handings (log entries 5 and
10). -/
theorem exec_velocityRow (apart : ∀ t, (s.sampled (s.wheel a b).1).sustains t → t.breach.inPhase .releasing = false) :
    ∃ t, (s.sampled (s.wheel a b).1).sustains t
      ∧ exec (.breachVelocityTimeExpiry a b) s = .next (conclude s t.breach) := by
  have row : exec (.breachVelocityTimeExpiry a b) s
      = .next (conclude s (handAll [fun t => t.csuSample (s.wheel a b).2.gap, State.hpcSample]
        { s with wmt := (s.wheel a b).1 })) := by
    show Host.Outcome.next (conclude s (s.sampleIf _ a b)) = _
    simp [State.sampleIf, sampling, due, State.takeSample, reports, State.reportAll, sampleHandings, still]
  obtain ⟨t, ht, e⟩ := csuSample_breaches (s := s.sampled (s.wheel a b).1) lane notice due (s.wheel a b).2.gap
  have first : (s.sampled (s.wheel a b).1).hpcSample = s.sampled (s.wheel a b).1 := by
    refine hpcSample_elsewhere (Bool.eq_false_iff.2 fun h => ?_)
    have phase : s.hpc.phase = .releasing := ((inPhase_iff _ _).1 h).2
    simp [State.passesNotice, phase] at notice
  refine ⟨t, ht, row.trans ?_⟩
  rcases handAll_pair (fun t => t.csuSample (s.wheel a b).2.gap) State.hpcSample { s with wmt := (s.wheel a b).1 }
    with h | h <;> rw [h]
  · show Host.Outcome.next (conclude s ((s.sampled (s.wheel a b).1).csuSample _).hpcSample) = _
    rw [e, hpcSample_elsewhere (apart t ht)]
  · show Host.Outcome.next (conclude s ((s.sampled (s.wheel a b).1).hpcSample.csuSample _)) = _
    rw [first, e]

end

/-! ## The end of the command -/

theorem ended_inPhase (s : State) (p : Phase) : s.lapse.drawn.inPhase p = s.inPhase p := by
  have phase : s.lapsedTimes.phase = s.hpc.phase := by
    unfold State.lapsedTimes
    split <;> rfl
  show (s.mdc.mode == .run && s.lapsedTimes.phase == p) = _
  rw [phase]
  rfl

theorem ended_request (s : State) : s.lapse.drawn.hpc.request = s.hpc.request := by
  show s.lapsedTimes.request = _
  unfold State.lapsedTimes
  split <;> rfl

/-- A framed breach at a sample keeps every part but those it works on. -/
theorem framed_keeps {s t : State} {w : Wmt} {but : List Block} (h : (s.sampled w).framed t)
    (works : ∀ b ∈ [Block.wmt, .csu, .hal, .hpc, .cpr, .sgi, .frb], b ∈ but) (pad : Block.pad ∈ but ∨ t.pad = s.pad) :
    s.keeps t.lapse.drawn but := by
  intro b other
  refine Block.same_trans ?_ (ended_same t b)
  cases b
  case glu => exact h.glu
  case pvt => exact h.pvt
  case vir => exact h.vir
  case pad => exact pad.resolve_left other
  case mdc => exact congrArg Mdc.lasting h.mdc
  case queue => exact h.pending
  all_goals exact absurd (works _ (by simp)) other

/-- A round that a second one leaves as it is ends the command. -/
theorem conclude_settled {before s t : State} (first : State.react before s = t) (second : State.react before t = t) :
    conclude before s = t.lapse.drawn := by
  rw [conclude, rounds, reactFor, first, reactFor_fixed second]

/-- A handover that waits for no peer stands without drive demand (R119, R120). -/
theorem react_handover {s : State} (before : State) {h : HandoverRecord} (phase : s.inPhase .securing = true)
    (demand : s.demand = none) (hh : s.hpc.handover = some h) (stage : h.stage ≠ .wait) : State.react before s = s := by
  obtain ⟨run, securing⟩ := (inPhase_iff s _).1 phase
  simp [State.react, run, State.reactRun, securing, State.reactSecuring, State.driveAway, demand, hh, stage]

/-- Release armed set or cleared. -/
def State.setArmed (s : State) (armed : Bool) : State := { s with hpc := { s.hpc with releaseArmed := armed } }

@[simp] theorem State.setArmed_csu (s : State) (b : Bool) : (s.setArmed b).csu = s.csu := rfl
@[simp] theorem State.setArmed_sgi (s : State) (b : Bool) : (s.setArmed b).sgi = s.sgi := rfl
@[simp] theorem State.setArmed_wmt (s : State) (b : Bool) : (s.setArmed b).wmt = s.wmt := rfl

theorem setArmed_framed (s : State) (b : Bool) : s.framed (s.setArmed b) := framed_hpc s _

theorem setArmed_inPhase (s : State) (b : Bool) (p : Phase) : (s.setArmed b).inPhase p = s.inPhase p := rfl

/-- With handover failed and no drive demand HOLDING only arms the release again (R107, R113). -/
theorem reactHolding_failed {s : State} (failed : s.hpc.handoverFailed = true) (demand : s.demand = none) :
    s.reactHolding = s.setArmed true := by
  have rearmed : s.rearmRelease = s.setArmed true := by simp [State.rearmRelease, State.setArmed, demand]
  have trigger : (s.setArmed true).standingTrigger = false := by
    simp [State.standingTrigger, State.setArmed, failed]
  have release : (s.setArmed true).releaseConditions = false := by
    have idle : (s.setArmed true).demand = none := demand
    simp [State.releaseConditions, idle]
  rw [State.reactHolding, rearmed, trigger, release]
  rfl

theorem react_holding_failed {s : State} (before : State) (phase : s.inPhase .holding = true)
    (failed : s.hpc.handoverFailed = true) (demand : s.demand = none) : State.react before s = s.setArmed true := by
  obtain ⟨run, holding⟩ := (inPhase_iff s _).1 phase
  rw [← reactHolding_failed failed demand]
  simp [State.react, run, State.reactRun, holding]

theorem react_capturing_failed {s : State} (before : State) (phase : s.inPhase .capturing = true)
    (failed : s.hpc.handoverFailed = true) : State.react before s = s := by
  obtain ⟨run, capturing⟩ := (inPhase_iff s _).1 phase
  simp [State.react, run, State.reactRun, capturing, State.standingTrigger, failed]

/-- With handover failed and no drive demand a hold stands at the end of the command. -/
theorem conclude_failed {s : State} (before : State) (phase : s.inPhase .capturing = true ∨ s.inPhase .holding = true)
    (failed : s.hpc.handoverFailed = true) (demand : s.demand = none) :
    ∃ armed, conclude before s = (s.setArmed armed).lapse.drawn := by
  rcases phase with phase | phase
  · exact ⟨s.hpc.releaseArmed, conclude_fixed (react_capturing_failed before phase failed)⟩
  · exact ⟨true, conclude_settled (react_holding_failed before phase failed demand)
      (react_holding_failed (s := s.setArmed true) before phase failed demand)⟩

end Sys2Proof.Machine

/-! PROOF. The sample at which the breach velocity has stood for 100 ms (R34), as a command. -/

namespace Sys2Proof.Machine

theorem State.framed.demand {s t : State} (h : s.framed t) : t.demand = s.demand := by
  unfold State.demand
  rw [h.vir]

theorem State.framed.driveAway {s t : State} (h : s.framed t) : t.driveAway = s.driveAway := by
  unfold State.driveAway State.driverAbsent State.ignition
  rw [h.demand, h.vir, h.mdc]

theorem State.framed.spring {s t : State} (h : s.framed t) : t.spring = s.spring := by
  unfold State.spring
  rw [h.mdc]

theorem State.sustains.retaining {s t : State} (h : s.sustains t) (k : s.retaining) : t.retaining := by
  unfold State.retaining
  rw [h.inPhase, h.retained, h.driveAway, h.free]
  exact k

theorem apart_of_inPhase {s : State} {p : Phase} (h : s.inPhase p = true) (other : p ≠ .releasing) :
    s.inPhase .releasing = false := by
  obtain ⟨run, phase⟩ := (inPhase_iff s p).1 h
  simp [State.inPhase, run, phase, other]

/-- Where a breach secures the hold, the handover it begins, with the line asserted (R112, R113, R115). -/
theorem breach_begins_handover {s : State} (hold : s.inHold = true) (lane : s.free.laneFault = none) (h : s.triggers)
    (drives : s.drivesLine) : s.framed s.breach ∧ s.breach.hpc.request = true ∧ s.breach.pad.asserted = true
      ∧ ∃ h, s.breach.hpc.handover = some h ∧ h.stage = if s.spring then .confirm else .wait := by
  obtain ⟨t, ht, secured⟩ := breach_secures hold lane h drives
  refine ⟨(ht.toframed.trans secured.toframed).trans (placeAlert_delivers _ _ _ _).toframed, ?_, ?_, t.newHandover,
    ?_, ?_⟩
  · rw [breach_hpc, secured.request]
  · rw [breach_pad, secured.asserted]
  · rw [breach_hpc, secured.handover]
  · rw [← ht.spring]
    rfl

/-- What a breach leaves of CSU and list stands at the end of the command (R33, R172). -/
theorem breach_stands {s t : State} (hold : s.inHold = true) (lane : s.free.laneFault = none)
    (csu : t.csu = s.breach.csu) (sgi : t.sgi = s.breach.sgi) :
    (t.csu.breach = true ∧ t.csu.ownLevel = 4 ∧ t.csu.nodeLevel = 4)
    ∧ (s.sgi.bus ≠ .off → ∃ f ∈ t.sgi.list, f.kind = .alert ∧ f.data = encodeAlert .breach 4 t.csu.alertCreep) := by
  rw [csu, sgi, breach_alertCreep hold lane]
  exact ⟨breach_raises hold lane, breach_alerts hold lane⟩

/-- In SECURED with service retained the row leaves the phase (R34, R122). -/
theorem velocityRow_in_secured (s : State) (a b : Code) (retaining : s.retaining) (sampling : s.wmt.sampling = true)
    (reports : (s.wheel a b).2.reports = []) (still : (s.wheel a b).2.lostStationary = false)
    (due : ({ s with wmt := (s.wheel a b).1 } : State).velocityDue = true) :
    ∃ t, exec (.breachVelocityTimeExpiry a b) s = .next t
      ∧ (t.csu.breach = true ∧ t.csu.ownLevel = 4 ∧ t.csu.nodeLevel = 4 ∧ t.inPhase .secured = true
        ∧ t.wmt = (s.wheel a b).1)
      ∧ (s.sgi.bus ≠ .off → ∃ f ∈ t.sgi.list, f.kind = .alert ∧ f.data = encodeAlert .breach 4 t.csu.alertCreep)
      ∧ s.keeps t [.wmt, .csu, .hal, .hpc, .cpr, .sgi, .frb] := by
  have ⟨secured, retained, _, lane⟩ := retaining
  have phase : s.hpc.phase = .secured := ((inPhase_iff s _).1 secured).2
  have passes : (s.sampled (s.wheel a b).1).passesBreach := .inr (.inr ⟨phase, retained⟩)
  have stood {t : State} (ht : (s.sampled (s.wheel a b).1).sustains t) :
      (s.sampled (s.wheel a b).1).sustains t.breach :=
    ht.trans (breach_sustains (ht.lane lane) (ht.passesBreach passes))
  have inSecured {t : State} (ht : (s.sampled (s.wheel a b).1).sustains t) : t.inPhase .secured = true :=
    (ht.inPhase .secured).trans secured
  obtain ⟨t, ht, row⟩ := exec_velocityRow lane sampling (.inr (.inr ⟨phase, retained⟩)) reports still due
    fun t ht => apart_of_inPhase (inSecured (stood ht)) (by decide)
  rw [row, conclude_fixed (react_retaining s ((stood ht).retaining retaining))]
  obtain ⟨⟨breach, own, node⟩, alert⟩ := breach_stands (t := t.breach.lapse.drawn)
    (inHold_of_inPhase (inSecured ht) rfl) (ht.lane lane) (by simp) (by simp)
  refine ⟨_, rfl, ⟨breach, own, node, ?_, by simp [(stood ht).wmt]⟩, fun bus => alert (by simpa [ht.bus] using bus),
    framed_keeps (stood ht).toframed (fun _ h => h) (.inr (stood ht).pad)⟩
  rw [ended_inPhase, inSecured (stood ht)]

/-- CAPTURING and HOLDING end in SECURING at the row, and stand with handover failed (R34, R113). -/
theorem velocityRow_in_hold (s : State) (a b : Code) (phase : s.inPhase .capturing = true ∨ s.inPhase .holding = true)
    (demand : s.demand = none) (spring : s.spring = true) (sensor : s.pad.sensor ≠ .outOfRange)
    (lane : s.free.laneFault = none) (sampling : s.wmt.sampling = true) (reports : (s.wheel a b).2.reports = [])
    (still : (s.wheel a b).2.lostStationary = false)
    (due : ({ s with wmt := (s.wheel a b).1 } : State).velocityDue = true) :
    ∃ t, exec (.breachVelocityTimeExpiry a b) s = .next t
      ∧ (t.csu.breach = true ∧ t.csu.ownLevel = 4 ∧ t.csu.nodeLevel = 4 ∧ t.wmt = (s.wheel a b).1)
      ∧ (s.hpc.handoverFailed = false → t.inPhase .securing = true ∧ t.hpc.request = true ∧ t.pad.asserted = true)
      ∧ (s.hpc.handoverFailed = true → t.inPhase s.hpc.phase = true)
      ∧ (s.sgi.bus ≠ .off → ∃ f ∈ t.sgi.list, f.kind = .alert ∧ f.data = encodeAlert .breach 4 t.csu.alertCreep)
      ∧ s.keeps t [.wmt, .csu, .hal, .hpc, .cpr, .pad, .sgi, .frb] := by
  obtain ⟨hold, either, other, own⟩ : s.inHold = true ∧ (s.hpc.phase = .capturing ∨ s.hpc.phase = .holding)
      ∧ s.hpc.phase ≠ .releasing ∧ s.inPhase s.hpc.phase = true := by
    rcases phase with h | h <;> obtain ⟨run, e⟩ := (inPhase_iff s _).1 h <;>
      simp [State.inHold, State.inPhase, run, e, Phase.isHold]
  have held {t : State} (ht : (s.sampled (s.wheel a b).1).sustains t) : t.inHold = true := ht.inHold.trans hold
  have drives {t : State} (ht : (s.sampled (s.wheel a b).1).sustains t) : t.drivesLine := ht.drivesLine (.inr sensor)
  have notice : s.passesNotice := by rcases either with e | e <;> simp [State.passesNotice, e]
  cases failed : s.hpc.handoverFailed with
  | false =>
    have triggers : (s.sampled (s.wheel a b).1).triggers := .inl ⟨either, failed⟩
    have enters {t : State} (ht : (s.sampled (s.wheel a b).1).sustains t) : t.breach.inPhase .securing = true :=
      (breach_enters_securing (held ht) (ht.lane lane) (ht.triggers triggers) (drives ht)).1
    obtain ⟨t, ht, row⟩ := exec_velocityRow lane sampling notice reports still due
      fun t ht => apart_of_inPhase (enters ht) (by decide)
    obtain ⟨framed, request, asserted, h, hh, stage⟩ :=
      breach_begins_handover (held ht) (ht.lane lane) (ht.triggers triggers) (drives ht)
    have whole := ht.toframed.trans framed
    have confirm : h.stage = .confirm := by rw [stage, ht.spring]; exact if_pos spring
    rw [row, conclude_fixed (react_handover s (enters ht) (whole.demand.trans demand) hh (by simp [confirm]))]
    obtain ⟨⟨breach, own, node⟩, alert⟩ :=
      breach_stands (t := t.breach.lapse.drawn) (held ht) (ht.lane lane) (by simp) (by simp)
    refine ⟨_, rfl, ⟨breach, own, node, by simp [whole.wmt]⟩, fun _ => ⟨?_, ?_, by simp [asserted]⟩, nofun,
      fun bus => alert (by simpa [ht.bus] using bus), framed_keeps whole (by decide) (.inl (by decide))⟩
    · rw [ended_inPhase, enters ht]
    · rw [ended_request, request]
  | true =>
    have passes : (s.sampled (s.wheel a b).1).passesBreach := .inl ⟨either, failed⟩
    have stood {t : State} (ht : (s.sampled (s.wheel a b).1).sustains t) :
        (s.sampled (s.wheel a b).1).sustains t.breach :=
      ht.trans (breach_sustains (ht.lane lane) (ht.passesBreach passes))
    have inPhase {t : State} (ht : (s.sampled (s.wheel a b).1).sustains t) (p : Phase) : t.inPhase p = s.inPhase p :=
      ht.inPhase p
    obtain ⟨t, ht, row⟩ := exec_velocityRow lane sampling notice reports still due fun t ht =>
      apart_of_inPhase (((stood ht).inPhase _).trans own) other
    have whole := stood ht
    obtain ⟨armed, ended⟩ := conclude_failed (s := t.breach) s (by rw [inPhase whole, inPhase whole]; exact phase)
      (whole.failed.trans failed) (whole.demand.trans demand)
    rw [row, ended]
    obtain ⟨⟨breach, level, node⟩, alert⟩ :=
      breach_stands (t := (t.breach.setArmed armed).lapse.drawn) (held ht) (ht.lane lane) (by simp) (by simp)
    refine ⟨_, rfl, ⟨breach, level, node, by simp [whole.wmt]⟩, nofun, fun _ => ?_,
      fun bus => alert (by simpa [ht.bus] using bus),
      framed_keeps (whole.toframed.trans (setArmed_framed _ _)) (by decide) (.inl (by decide))⟩
    rw [ended_inPhase, setArmed_inPhase, inPhase whole, own]

/-- Settles O33: the two completions of the row, and the velocity test by what runs and by the phase. -/
theorem breachVelocityRaisesBreach : Obligations.BreachVelocityRaisesBreach := by
  refine ⟨velocityRow_in_secured, fun s a b phase _ => velocityRow_in_hold s a b phase, fun s => ?_, fun s h =>
    velocityTest_idle h⟩
  intro x d runs hold anchor clear lane
  have anchored : s.csu.anchored = true := by simp [Csu.anchored, anchor]
  have test := velocityTest_made hold anchored clear
  have same : s.velocityRuns = runs := by
    rw [velocityRuns_eq, downhill_eq]
  have breaches (h : runs = true) (full : 1000 ≤ s.csu.breachTime + s.wmt.period) :
      s.velocityTest = (s.setBreachTime 1000).breach := by rw [test, same, if_pos h, if_pos full]
  refine ⟨fun h => ?_, fun h short => ?_, fun h full => ?_, fun h full => ?_, fun h full => ?_, fun h full => ?_,
    fun h full => ?_, fun h full => ?_, fun h full => ?_⟩
  · rw [test, same, if_neg (by simp [h]), State.setBreachTime]
  · rw [test, same, if_pos h, if_neg (Nat.not_le.2 short), State.setBreachTime]
  all_goals rw [breaches h full]
  · exact breach_raises (s := s.setBreachTime 1000) hold lane
  · exact breach_alerts (s := s.setBreachTime 1000) hold lane
  · exact breach_in_secured (s := s.setBreachTime 1000) hold lane
  · exact fun phase failed => (breach_sustains (s := s.setBreachTime 1000) lane (.inl ⟨phase, failed⟩)).phase
  · exact fun phase sound => breach_enters_securing (s := s.setBreachTime 1000) hold lane (.inl ⟨phase, sound⟩)
  · exact fun phase => breach_enters_securing (s := s.setBreachTime 1000) hold lane (.inr phase)
  · exact fun phase h => breach_in_securing (s := s.setBreachTime 1000) hold lane phase

end Sys2Proof.Machine

/-! PROOF. The vehicle grade (R49 to R51): the candidates sorted, the middle one of them, and what stands with none. -/

namespace Sys2Proof.Machine

/-! ## Ascending order -/

theorem insertAscending_eq_orderedInsert (x : Int) (l : List Int) : insertAscending x l = l.orderedInsert (· ≤ ·) x := by
  induction l with
  | nil => rfl
  | cons y l ih => simp only [insertAscending, List.orderedInsert_cons, ih]

theorem ascending_eq_insertionSort (l : List Int) : ascending l = l.insertionSort (· ≤ ·) := by
  induction l with
  | nil => rfl
  | cons x l ih => rw [ascending, ih, insertAscending_eq_orderedInsert, List.insertionSort_cons]

theorem ascending_perm (l : List Int) : (ascending l).Perm l := by
  rw [ascending_eq_insertionSort]
  exact List.perm_insertionSort _ l

theorem ascending_pairwise (l : List Int) : (ascending l).Pairwise (· ≤ ·) := by
  rw [ascending_eq_insertionSort]
  exact List.pairwise_insertionSort _ l

/-! ## The middle of a list -/

theorem median_of_odd {l : List Int} (odd : l.length % 2 = 1) : l[l.length / 2]? = some (median l) := by
  have inside : l.length / 2 < l.length := by omega
  simp [median, odd, inside]

theorem median_of_even {l : List Int} (nonempty : l ≠ []) (even : l.length % 2 = 0) :
    ∃ a b, l[l.length / 2 - 1]? = some a ∧ l[l.length / 2]? = some b ∧ median l = steeper a b := by
  have long := List.length_pos_of_ne_nil nonempty
  have below : l.length / 2 - 1 < l.length := by omega
  have above : l.length / 2 < l.length := by omega
  exact ⟨_, _, List.getElem?_eq_getElem below, List.getElem?_eq_getElem above, by simp [median, even, below, above]⟩

theorem steeper_left {a b : Int} (h : b.natAbs < a.natAbs) : steeper a b = a := by
  rw [steeper, if_neg h.not_gt, if_pos h]

theorem steeper_right {a b : Int} (h : a.natAbs < b.natAbs) : steeper a b = b := if_pos h

theorem steeper_tie {a b : Int} (h : a.natAbs = b.natAbs) : steeper a b = max a b := by simp [steeper, h]

/-! ## The choice -/

@[simp] theorem ascending_eq_nil {l : List Int} : ascending l = [] ↔ l = [] := by
  rw [← List.length_eq_zero_iff, (ascending_perm l).length_eq, List.length_eq_zero_iff]

section
variable {g : Glu} {entries : List PeerEntry}

theorem chooseGrade_default (empty : g.candidates entries = []) (status : g.gradeStatus = .default) :
    g.chooseGrade entries = { g with vehicleGrade := 250 } := by
  simp [Glu.chooseGrade, empty, status]

theorem chooseGrade_held (empty : g.candidates entries = []) (status : g.gradeStatus ≠ .default) :
    g.chooseGrade entries = { g with gradeStatus := .held } := by
  simp [Glu.chooseGrade, empty, status]

theorem chooseGrade_formed (formed : g.candidates entries ≠ []) : g.chooseGrade entries
    = { g with vehicleGrade := median (ascending (g.candidates entries)), gradeStatus := .formed } := by
  simp [Glu.chooseGrade, formed]

/-- Under DEFAULT no gear is uphill (R51). -/
theorem uphill_default (status : g.gradeStatus = .default) (gear : Gear) : g.uphill gear = false := by
  cases gear <;> simp [Glu.uphill, Glu.oneDownhill, status]

end

/-- Settles O19: the four rows of R50's table by the candidates and the status, and R51 under DEFAULT. -/
theorem vehicleGradeRule : Obligations.VehicleGradeRule := by
  refine fun g entries => ⟨fun empty status => ?_, fun empty status => ?_, fun formed => ?_, fun status =>
    ⟨fun x => by simp [downhill_eq, status], uphill_default status⟩⟩
  · rw [chooseGrade_default empty status]
    exact ⟨rfl, status⟩
  · rw [chooseGrade_held empty status]
    exact ⟨rfl, rfl⟩
  · rw [chooseGrade_formed formed]
    refine ⟨rfl, _, ascending_perm _, ascending_pairwise _, median_of_odd, fun even => ?_⟩
    obtain ⟨a, b, left, right, middle⟩ := median_of_even (by simpa using formed) even
    refine ⟨a, b, left, right, fun h => ?_, fun h => ?_, fun h => ?_⟩ <;> rw [middle]
    · exact steeper_left h
    · exact steeper_right h
    · exact steeper_tie h

end Sys2Proof.Machine

/-! PROOF. The commands of the Grade and Load Unit outside a hold: what a recomputation, a report and the GLU's handings
leave, and that they leave the result delivered current (R49, R56, R78, R202). -/

namespace Sys2Proof.Machine

/-! ## What the commands leave -/

/-- Every block but GLU, HAL, HPC, SGI and FRB stands as it was. -/
structure State.sparesOthers (s t : State) : Prop where
  stays : s.stays t
  csu : t.csu = s.csu

/-- Every block but GLU, HAL and HPC stands as it was. -/
structure State.handsOn (s t : State) : Prop extends s.sparesOthers t where
  sgi : t.sgi = s.sgi
  frb : t.frb = s.frb

theorem State.sparesOthers.trans {s t u : State} (h : s.sparesOthers t) (k : t.sparesOthers u) : s.sparesOthers u :=
  ⟨h.stays.trans k.stays, k.csu.trans h.csu⟩

theorem State.handsOn.refl (s : State) : s.handsOn s := ⟨⟨.refl s, rfl⟩, rfl, rfl⟩

theorem State.handsOn.trans {s t u : State} (h : s.handsOn t) (k : t.handsOn u) : s.handsOn u :=
  ⟨h.tosparesOthers.trans k.tosparesOthers, k.sgi.trans h.sgi, k.frb.trans h.frb⟩

/-- The GLU replaced, which hands nothing on yet. -/
def State.withGlu (s : State) (g : Glu) : State := { s with glu := g }

@[simp] theorem State.withGlu_glu (s : State) (g : Glu) : (s.withGlu g).glu = g := rfl

theorem withGlu_handsOn (s : State) (g : Glu) : s.handsOn (s.withGlu g) :=
  ⟨⟨⟨rfl, rfl, rfl, rfl, rfl, rfl, rfl, rfl, rfl⟩, rfl⟩, rfl, rfl⟩

theorem keepDelivery_handsOn (s : State) (r : HalResult) : s.handsOn (s.keepDelivery r) :=
  ⟨⟨(keepDelivery_handed s r).1, rfl⟩, rfl, rfl⟩

theorem State.sparesOthers.keeps_ended {s t : State} (h : s.sparesOthers t) :
    s.keeps t.lapse.drawn [.glu, .hal, .hpc, .sgi, .frb] := by
  intro b other
  by_cases wheel : b = .wmt
  · exact wheel ▸ h.stays.1
  by_cases creep : b = .csu
  · exact creep ▸ h.csu
  exact h.stays.keeps_ended (w := s.wmt) b (by simpa [wheel, creep] using other)

theorem State.handsOn.keeps_ended {s t : State} (h : s.handsOn t) : s.keeps t.lapse.drawn [.glu, .hal, .hpc] := by
  intro b other
  by_cases list : b = .sgi
  · exact list ▸ h.sgi
  by_cases banks : b = .frb
  · exact banks ▸ h.frb
  exact h.tosparesOthers.keeps_ended b (by simpa [list, banks] using other)

theorem withGlu_keeps_ended (s : State) (g : Glu) : s.keeps (s.withGlu g).lapse.drawn [.glu] := by
  intro b other
  refine Block.same_trans ?_ (ended_same (s.withGlu g) b)
  cases b
  case glu => simp at other
  all_goals rfl

/-- A command that leaves a steady state steady ends there: nothing more is acted on. -/
theorem State.stays.conclude {s t : State} (h : s.stays t) (steady : s.steady) :
    Machine.conclude s t = t.lapse.drawn := conclude_fixed (react_steady s (h.steady steady))

/-! ## Recomputations (R78, R94) -/

/-- Outside a hold a recomputation keeps the result of the inputs as they stand, and nothing more. -/
theorem halRecompute_delivery {s : State} (h : s.calm) : s.halRecompute
    = if s.mdc.mode = .run ∧ s.hal.lanes = .agreed then s.keepDelivery s.laneResult else s := by
  unfold State.halRecompute
  split
  · rename_i run
    generalize s.laneResult = r
    simp [h.2 run.1, State.deliver, h.released run.1]
  · rfl

theorem halRecompute_handsOn {s : State} (h : s.calm) : s.handsOn s.halRecompute := by
  rcases halRecompute_calm h with e | ⟨r, e⟩ <;> rw [e]
  · exact .refl s
  · exact keepDelivery_handsOn s r

theorem halRecompute_glu {s : State} (h : s.calm) : s.halRecompute.glu = s.glu := by
  rcases halRecompute_calm h with e | ⟨r, e⟩ <;> rw [e]
  rfl

/-- A delivery is no input of the lanes. -/
theorem laneResult_keepDelivery (s : State) (r : HalResult) : (s.keepDelivery r).laneResult = s.laneResult := rfl

theorem halRecompute_resultCurrent {s : State} (h : s.calm) : s.halRecompute.resultCurrent := by
  rw [halRecompute_delivery h]
  split
  · exact fun _ _ => (laneResult_keepDelivery s _).symm
  · rename_i idle
    intro released agreed
    exact absurd ⟨((inPhase_iff s _).1 released).1, agreed⟩ idle

/-! ## Reports (R199 to R202) -/

/-- A report outside a hold reaches SGI and FRB, and the HAL by a recomputation alone. -/
theorem report_sparesOthers {s : State} {r : Report} (h : s.calm) (mild : r.severity ≠ .severe) :
    s.sparesOthers (s.report r) :=
  ⟨(report_calm h mild).1, (report_calm h mild).2.1⟩

theorem report_eq_handCompromise {s : State} {r : Report} (mild : r.severity ≠ .severe) :
    s.report r = (s.storeReport r).handCompromise s.frb.banks.holdCompromised :=
  if_neg (by simp [State.secondSevere, mild])

theorem report_glu {s : State} {r : Report} (h : s.calm) (mild : r.severity ≠ .severe) : (s.report r).glu = s.glu := by
  rw [report_eq_handCompromise mild, State.handCompromise]
  split
  · simp
  · rw [halRecompute_glu ((storeReport_stays s r).calm h), State.storeReport_glu]

/-- A report is an input of the lanes by hold-compromised alone (R83). -/
theorem laneResult_storeReport {s : State} {r : Report}
    (same : (s.storeReport r).frb.banks.holdCompromised = s.frb.banks.holdCompromised) :
    (s.storeReport r).laneResult = s.laneResult := by
  simp [State.laneResult, State.capacityForced, State.demand, same]

theorem report_resultCurrent {s : State} {r : Report} (h : s.calm) (mild : r.severity ≠ .severe)
    (current : s.resultCurrent) : (s.report r).resultCurrent := by
  rw [report_eq_handCompromise mild, State.handCompromise]
  split
  · rename_i same
    simpa [State.resultCurrent, State.inPhase, laneResult_storeReport same] using current
  · exact halRecompute_resultCurrent ((storeReport_stays s r).calm h)

/-- A report made if its fault comes about. -/
def State.reportIf (s : State) (fault : Bool) (r : Report) : State := if fault then s.report r else s

section
variable {s : State} {fault : Bool} {r : Report} (h : s.calm) (mild : r.severity ≠ .severe)
include h mild

theorem reportIf_sparesOthers : s.sparesOthers (s.reportIf fault r) := by
  cases fault
  · exact (State.handsOn.refl s).tosparesOthers
  · exact report_sparesOthers h mild

theorem reportIf_glu : (s.reportIf fault r).glu = s.glu := by
  cases fault
  · rfl
  · exact report_glu h mild

theorem reportIf_frb : (s.reportIf fault r).frb = { s.frb with
    banks := if fault then s.frb.banks.store r.bank (s.complete r) else s.frb.banks } := by
  cases fault
  · rfl
  · exact (report_calm h mild).2.2

theorem reportIf_resultCurrent (current : s.resultCurrent) : (s.reportIf fault r).resultCurrent := by
  cases fault
  · exact current
  · exact report_resultCurrent h mild current

end

/-! ## The end of the command -/

/-- The times that lapse at the end of a command are no inputs of the lanes. -/
theorem laneResult_ended (s : State) : s.lapse.drawn.laneResult = s.laneResult := by
  have captured : s.lapse.drawn.hpc.pCap = s.hpc.pCap := by
    show s.lapsedTimes.pCap = s.hpc.pCap
    unfold State.lapsedTimes
    split <;> rfl
  unfold State.laneResult
  rw [captured]
  rfl

theorem ended_resultCurrent {s : State} (h : s.resultCurrent) : s.lapse.drawn.resultCurrent := by
  intro released agreed
  rw [ended_inPhase] at released
  exact (h released agreed).trans (laneResult_ended s).symm

/-! ## Vehicle grade and mass handed on (R49, R56) -/

section
variable {s : State} (h : s.calm) (reading : s.glu.reading = true)
include reading

theorem gradeRecompute_eq : s.gradeRecompute =
    if (s.glu.chooseGrade s.pvt.entries).vehicleGrade = s.glu.vehicleGrade
      ∧ (s.glu.chooseGrade s.pvt.entries).gradeStatus = s.glu.gradeStatus
    then s.withGlu (s.glu.chooseGrade s.pvt.entries)
    else (s.withGlu (s.glu.chooseGrade s.pvt.entries)).halRecompute := if_pos reading

theorem massRecompute_eq : s.massRecompute =
    if massOf s.glu s.mdc.settings s.pvt.entries = s.glu.mass then s
    else (s.withGlu { s.glu with mass := massOf s.glu s.mdc.settings s.pvt.entries }).halRecompute := by
  unfold State.massRecompute
  rw [if_pos reading]
  dsimp only
  split
  · rename_i same
    rw [same]
  · rfl

include h

theorem gradeRecompute_handsOn : s.handsOn s.gradeRecompute := by
  have formed := withGlu_handsOn s (s.glu.chooseGrade s.pvt.entries)
  rw [gradeRecompute_eq reading]
  split
  · exact formed
  · exact formed.trans (halRecompute_handsOn (formed.stays.calm h))

theorem gradeRecompute_glu : s.gradeRecompute.glu = s.glu.chooseGrade s.pvt.entries := by
  rw [gradeRecompute_eq reading]
  split
  · rfl
  · exact halRecompute_glu ((withGlu_handsOn s _).stays.calm h)

theorem gradeRecompute_resultCurrent
    (changed : (s.glu.chooseGrade s.pvt.entries).vehicleGrade ≠ s.glu.vehicleGrade
      ∨ (s.glu.chooseGrade s.pvt.entries).gradeStatus ≠ s.glu.gradeStatus) : s.gradeRecompute.resultCurrent := by
  rw [gradeRecompute_eq reading, if_neg (by simpa [imp_iff_not_or] using changed)]
  exact halRecompute_resultCurrent ((withGlu_handsOn s _).stays.calm h)

theorem massRecompute_handsOn : s.handsOn s.massRecompute := by
  have formed := withGlu_handsOn s { s.glu with mass := massOf s.glu s.mdc.settings s.pvt.entries }
  rw [massRecompute_eq reading]
  split
  · exact .refl s
  · exact formed.trans (halRecompute_handsOn (formed.stays.calm h))

theorem massRecompute_glu :
    s.massRecompute.glu = { s.glu with mass := massOf s.glu s.mdc.settings s.pvt.entries } := by
  rw [massRecompute_eq reading]
  split
  · rename_i same
    rw [same]
  · exact halRecompute_glu ((withGlu_handsOn s _).stays.calm h)

theorem massRecompute_resultCurrent (current : s.resultCurrent) : s.massRecompute.resultCurrent := by
  rw [massRecompute_eq reading]
  split
  · exact current
  · exact halRecompute_resultCurrent ((withGlu_handsOn s _).stays.calm h)

end

end Sys2Proof.Machine

/-! PROOF. An accelerometer reading outside a hold (R43 to R50): the GLU it leaves, its two reports, and its three rows. -/

namespace Sys2Proof.Machine

/-! ## One reading of the GLU -/

/-- What a reading gives the GLU of its own: history, window run, own grade and grade-valid (R43 to R47). -/
def Glu.ownPart (g : Glu) : List Accel × Nat × Int × Bool := (g.accelHistory, g.windowRun, g.ownGrade, g.gradeValid)

theorem chooseGrade_ownPart (g : Glu) (l : List PeerEntry) : (g.chooseGrade l).ownPart = g.ownPart := by
  unfold Glu.chooseGrade
  dsimp only
  split
  · split <;> rfl
  · rfl

section
variable (g : Glu) (r : Option Accel) (stationary : Bool) (entries : List PeerEntry)

/-- A full history gives the own grade and makes it valid, unless its root is 0 (R45, R46). -/
theorem take_ownPart : ∃ own valid,
    (g.take r stationary).ownPart = (g.history r stationary, g.nextWindowRun r, own, valid)
    ∧ (valid = true ↔ (g.history r stationary).length = 16 ∧ gradeOf (g.history r stationary) = some own) := by
  unfold Glu.take
  dsimp only
  split
  · rename_i full
    split
    · rename_i formed
      exact ⟨_, _, rfl, by simp [full, formed]⟩
    · rename_i root
      exact ⟨_, _, rfl, by simp [root]⟩
  · rename_i short
    exact ⟨_, _, rfl, by simp [short]⟩

/-- Window, history and own grade leave the vehicle grade. -/
theorem take_vehicleGrade : (g.take r stationary).vehicleGrade = g.vehicleGrade
    ∧ (g.take r stationary).gradeStatus = g.gradeStatus := by
  unfold Glu.take
  dsimp only
  repeat' split
  all_goals exact ⟨rfl, rfl⟩

/-- The GLU after a reading but for the disagreement time: the vehicle grade is chosen anew at a new own grade and at a
change of grade-valid (R43 to R46, R49). -/
def Glu.graded : Glu :=
  if Glu.gradeTaken g (g.take r stationary) then (g.take r stationary).chooseGrade entries else g.take r stationary

theorem graded_ownPart : (g.graded r stationary entries).ownPart = (g.take r stationary).ownPart := by
  unfold Glu.graded
  split
  · exact chooseGrade_ownPart _ _
  · rfl

theorem graded_reading : (g.graded r stationary entries).reading = g.reading := by
  unfold Glu.graded
  split
  · exact (chooseGrade_reading _ _).trans (take_reading _ _ _)
  · exact take_reading _ _ _

/-- History, window run and grade-valid after a reading (R43 to R47). -/
theorem graded_own : (g.graded r stationary entries).accelHistory = g.history r stationary
    ∧ (g.graded r stationary entries).windowRun = (if accelInside r then 0 else min 10 (g.windowRun + 1))
    ∧ ((g.graded r stationary entries).gradeValid = true ↔ (g.graded r stationary entries).accelHistory.length = 16
      ∧ gradeOf (g.graded r stationary entries).accelHistory = some (g.graded r stationary entries).ownGrade) := by
  obtain ⟨own, valid, taken, iff⟩ := take_ownPart g r stationary
  have part := (graded_ownPart g r stationary entries).trans taken
  simp only [Glu.ownPart, Prod.mk.injEq] at part
  obtain ⟨history, run, grade, good⟩ := part
  rw [history, run, grade, good]
  exact ⟨rfl, rfl, iff⟩

end

/-! ## The steps of a reading -/

/-- The time of the disagreement test taken on, before its report (R48). -/
def State.disagreementTimed (s : State) : State := s.withGlu { s.glu with disagreement := s.glu.nextDisagreement }

theorem disagreementTest_eq {s : State} (reading : s.glu.reading = true) :
    s.disagreementTest = s.disagreementTimed.reportIf s.glu.disagreementFault disagreementReport := if_pos reading

theorem accelGrade_eq (s : State) (r : Option Accel) : s.accelGrade r =
    if Glu.gradeTaken s.glu (s.glu.take r s.wmt.stationary)
    then (s.withGlu (s.glu.take r s.wmt.stationary)).gradeRecompute
    else s.withGlu (s.glu.take r s.wmt.stationary) := rfl

section
variable {s : State} (h : s.calm) (reading : s.glu.reading = true) (r : Option Accel)
include h reading

theorem accelGrade_handsOn : s.handsOn (s.accelGrade r) := by
  have taken := withGlu_handsOn s (s.glu.take r s.wmt.stationary)
  rw [accelGrade_eq]
  split
  · exact taken.trans (gradeRecompute_handsOn (taken.stays.calm h) ((take_reading _ _ _).trans reading))
  · exact taken

theorem accelGrade_glu : (s.accelGrade r).glu = s.glu.graded r s.wmt.stationary s.pvt.entries := by
  have taken := withGlu_handsOn s (s.glu.take r s.wmt.stationary)
  rw [accelGrade_eq, Glu.graded]
  split
  · exact gradeRecompute_glu (taken.stays.calm h) ((take_reading _ _ _).trans reading)
  · rfl

/-- A reading at which the vehicle grade or its status changes leaves the result current (R49, R78). -/
theorem accelGrade_resultCurrent
    (changed : (s.glu.graded r s.wmt.stationary s.pvt.entries).vehicleGrade ≠ s.glu.vehicleGrade
      ∨ (s.glu.graded r s.wmt.stationary s.pvt.entries).gradeStatus ≠ s.glu.gradeStatus) :
    (s.accelGrade r).resultCurrent := by
  obtain ⟨value, status⟩ := take_vehicleGrade s.glu r s.wmt.stationary
  have taken := withGlu_handsOn s (s.glu.take r s.wmt.stationary)
  rw [Glu.graded] at changed
  rw [accelGrade_eq]
  split
  · rename_i again
    rw [if_pos again, ← value, ← status] at changed
    exact gradeRecompute_resultCurrent (taken.stays.calm h) ((take_reading _ _ _).trans reading) changed
  · rename_i still
    rw [if_neg still, value, status] at changed
    simp at changed

end

/-! ## The whole reading -/

/-- A reading up to its disagreement test: own and vehicle grade, and the report of the window test (R47). -/
def State.accelTold (s : State) (r : Option Accel) : State :=
  (s.accelGrade r).reportIf (Glu.windowFault s.glu (s.glu.take r s.wmt.stationary)) accelerometerReport

section
variable {s : State} (h : s.calm) (reading : s.glu.reading = true) (r : Option Accel)
include h reading

theorem accelTold_sparesOthers : s.sparesOthers (s.accelTold r) := by
  have graded := (accelGrade_handsOn h reading r).tosparesOthers
  exact graded.trans (reportIf_sparesOthers (graded.stays.calm h) (by decide))

theorem accelTold_glu : (s.accelTold r).glu = s.glu.graded r s.wmt.stationary s.pvt.entries :=
  (reportIf_glu ((accelGrade_handsOn h reading r).stays.calm h) (by decide)).trans (accelGrade_glu h reading r)

theorem accelTold_frb : (s.accelTold r).frb = { s.frb with
    banks := if Glu.windowFault s.glu (s.glu.take r s.wmt.stationary)
      then s.frb.banks.store .mass (s.complete accelerometerReport) else s.frb.banks } := by
  have graded := accelGrade_handsOn h reading r
  rw [State.accelTold, reportIf_frb (graded.stays.calm h) (by decide), complete_stays graded.stays, graded.frb]
  rfl

theorem accelRead_eq : s.accelRead r = (s.accelTold r).disagreementTimed.reportIf
    (s.glu.graded r s.wmt.stationary s.pvt.entries).disagreementFault disagreementReport := by
  have reads : (s.accelGrade r).glu.reading = true := by
    rw [accelGrade_glu h reading, graded_reading, reading]
  have told : (s.accelTold r).glu.reading = true := by
    rw [accelTold_glu h reading, graded_reading, reading]
  rw [← accelTold_glu h reading, ← disagreementTest_eq told]
  simp [State.accelRead, State.accelTold, State.reportIf, reads]

theorem accelTimed_sparesOthers : s.sparesOthers (s.accelTold r).disagreementTimed :=
  (accelTold_sparesOthers h reading r).trans (withGlu_handsOn _ _).tosparesOthers

theorem accelRead_sparesOthers : s.sparesOthers (s.accelRead r) := by
  have timed := accelTimed_sparesOthers h reading r
  rw [accelRead_eq h reading]
  exact timed.trans (reportIf_sparesOthers (timed.stays.calm h) (by decide))

theorem accelRead_glu : (s.accelRead r).glu = { s.glu.graded r s.wmt.stationary s.pvt.entries with
    disagreement := (s.glu.graded r s.wmt.stationary s.pvt.entries).nextDisagreement } := by
  have timed := accelTimed_sparesOthers h reading r
  rw [accelRead_eq h reading, reportIf_glu (timed.stays.calm h) (by decide), ← accelTold_glu h reading]
  rfl

theorem accelRead_frb : (s.accelRead r).frb = { s.frb with
    banks := if (s.glu.graded r s.wmt.stationary s.pvt.entries).disagreementFault
      then (s.accelTold r).frb.banks.store .mass (s.complete disagreementReport) else (s.accelTold r).frb.banks } := by
  have timed := accelTimed_sparesOthers h reading r
  rw [accelRead_eq h reading, reportIf_frb (timed.stays.calm h) (by decide), complete_stays timed.stays,
    State.disagreementTimed, (withGlu_handsOn _ _).frb, accelTold_frb h reading]
  rfl

/-- A change of the vehicle grade or its status leaves the result current through both reports (R49, R78, R202). -/
theorem accelRead_resultCurrent
    (changed : (s.glu.graded r s.wmt.stationary s.pvt.entries).vehicleGrade ≠ s.glu.vehicleGrade
      ∨ (s.glu.graded r s.wmt.stationary s.pvt.entries).gradeStatus ≠ s.glu.gradeStatus) :
    (s.accelRead r).resultCurrent := by
  have graded := (accelGrade_handsOn h reading r).stays.calm h
  have told : (s.accelTold r).resultCurrent :=
    reportIf_resultCurrent graded (by decide) (accelGrade_resultCurrent h reading r changed)
  have timed : (s.accelTold r).disagreementTimed.resultCurrent := told
  rw [accelRead_eq h reading]
  exact reportIf_resultCurrent ((accelTimed_sparesOthers h reading r).stays.calm h) (by decide) timed

/-- Each row of a reading is the whole reading when its report is due, and nothing otherwise (log entry 5). -/
theorem exec_accelRow {c : Instr} {happens : Bool}
    (row : (c, happens) ∈ [(.accelerometerReading r, true),
      (.accelerometerWindowFault r, Glu.windowFault s.glu (s.glu.take r s.wmt.stationary)),
      (.gradeDisagreement r, (s.glu.graded r s.wmt.stationary s.pvt.entries).disagreementFault)]) :
    exec c s = .next (conclude s (if happens then s.accelRead r else s)) := by
  have reads : (s.accelGrade r).glu.reading = true := by
    rw [accelGrade_glu h reading, graded_reading, reading]
  simp only [List.mem_cons, Prod.mk.injEq, List.not_mem_nil, or_false] at row
  rcases row with ⟨rfl, rfl⟩ | ⟨rfl, rfl⟩ | ⟨rfl, rfl⟩
  · show execAccelerometerReading r s = _
    rw [execAccelerometerReading, reading]
  · show execAccelerometerWindowFault r s = _
    rw [execAccelerometerWindowFault, reading, Bool.true_and]
  · show execGradeDisagreement r s = _
    rw [execGradeDisagreement, reads, reading, Bool.true_and, Bool.true_and, accelGrade_glu h reading]

end

/-- Settles O34: in a steady state the reading leaves a steady state, on which nothing more is acted. -/
theorem accelerometerReadingFormsGrade : Obligations.AccelerometerReadingFormsGrade := by
  intro s r c happens g h fault k steady reading row
  have calm := steady.calm
  rw [exec_accelRow calm reading r row]
  cases happens with
  | false =>
    rw [if_neg (by decide), (State.stays.refl s).conclude steady]
    exact ⟨_, rfl, nofun, nofun, nofun, nofun, nofun, fun _ => s.keeps_ended, fun b _ => s.keeps_ended b (by simp)⟩
  | true =>
    have spares := accelRead_sparesOthers calm reading r
    have glu := accelRead_glu calm reading r
    obtain ⟨history, run, valid⟩ := graded_own s.glu r s.wmt.stationary s.pvt.entries
    rw [if_pos rfl, spares.stays.conclude steady]
    refine ⟨_, rfl, fun _ => glu, fun _ => ?_, fun _ => ?_, fun _ => ?_,
      fun _ changed => ended_resultCurrent (accelRead_resultCurrent calm reading r changed), nofun, spares.keeps_ended⟩
    · simp only [State.drawn_glu, State.lapse_glu, glu]
      exact ⟨history, run⟩
    · simp only [State.drawn_glu, State.lapse_glu, glu]
      exact valid
    · rw [State.drawn_frb, State.lapse_frb, accelRead_frb calm reading, accelTold_frb calm reading]
      rfl

end Sys2Proof.Machine

/-! PROOF. A load reading outside a hold (R52 to R56): the GLU it leaves in range, the fifth reading out of range, and the
two rows. -/

namespace Sys2Proof.Machine

/-! ## One reading of the GLU -/

/-- The GLU after an in-range reading: the mass is formed anew at a change of load or load-known (R52 to R56). -/
def Glu.loaded (g : Glu) (mV : Nat) (stationary : Bool) (c : Settings) (entries : List PeerEntry) : Glu :=
  let t := g.takeLoad mV stationary
  if t.ownLoad = g.ownLoad ∧ t.loadKnown = g.loadKnown then t else { t with mass := massOf t c entries }

/-- The lifted flag is judged anew at a change of load and at the first load known (R55). -/
theorem takeLoad_lifted (g : Glu) (mV : Nat) (stationary : Bool) : (g.takeLoad mV stationary).lifted =
    if (g.takeLoad mV stationary).ownLoad ≠ g.ownLoad ∨ g.loadKnown = false
    then decide ((g.takeLoad mV stationary).ownLoad < 500) else g.lifted := by
  simp [Glu.takeLoad, liftedAt]

theorem takeLoad_lifted_same {g : Glu} {mV : Nat} {stationary : Bool}
    (still : (g.takeLoad mV stationary).ownLoad = g.ownLoad ∧ (g.takeLoad mV stationary).loadKnown = g.loadKnown) :
    (g.takeLoad mV stationary).lifted = g.lifted := by
  have known : g.loadKnown = true := still.2.symm
  rw [takeLoad_lifted, if_neg (by simp [still.1, known])]

/-- With own load and load-known as they were, a reading hands nothing on; else the mass is formed, beside the recomputation
that a change of load or lifted flag asks for (R53, R55, R56). -/
theorem loadHandings_takeLoad (g : Glu) (mV : Nat) (stationary : Bool) :
    let t := g.takeLoad mV stationary
    loadHandings g t = if t.ownLoad = g.ownLoad ∧ t.loadKnown = g.loadKnown then []
      else if t.ownLoad = g.ownLoad ∧ t.lifted = g.lifted then [State.massRecompute]
      else [State.halRecompute, State.massRecompute] := by
  intro t
  unfold loadHandings
  by_cases still : t.ownLoad = g.ownLoad ∧ t.loadKnown = g.loadKnown
  · have lifted : t.lifted = g.lifted := takeLoad_lifted_same still
    simp [still, lifted]
  · by_cases same : t.ownLoad = g.ownLoad ∧ t.lifted = g.lifted <;> simp [still, same]

section
variable {g : Glu} {mV : Nat} {stationary : Bool} {c : Settings} {entries : List PeerEntry}

/-- The mass alone is formed beside what the reading itself gives. -/
theorem loaded_eq : ∃ m, g.loaded mV stationary c entries = { g.takeLoad mV stationary with mass := m } := by
  unfold Glu.loaded
  dsimp only
  split
  · exact ⟨_, rfl⟩
  · exact ⟨_, rfl⟩

theorem loaded_ownLoad : (g.loaded mV stationary c entries).ownLoad = (g.takeLoad mV stationary).ownLoad := by
  obtain ⟨m, e⟩ := loaded_eq (g := g)
  rw [e]

theorem loaded_lifted : (g.loaded mV stationary c entries).lifted = (g.takeLoad mV stationary).lifted := by
  obtain ⟨m, e⟩ := loaded_eq (g := g)
  rw [e]

/-- The history and the mean of an in-range reading (R52 to R54). -/
theorem loaded_history : ((g.loaded mV stationary c entries).loadHistory = newest 50 (g.loadHistory ++ [loadOf mV])
    ∧ (g.loaded mV stationary c entries).loadRun = 0 ∧ (g.loaded mV stationary c entries).loadKnown = true)
    ∧ (g.loaded mV stationary c entries).ownLoad = meanLoad (g.loaded mV stationary c entries).loadHistory stationary := by
  obtain ⟨m, e⟩ := loaded_eq (g := g)
  rw [e]
  exact ⟨⟨rfl, rfl, rfl⟩, rfl⟩

theorem loaded_changed (changed : (g.loaded mV stationary c entries).ownLoad ≠ g.ownLoad ∨ g.loadKnown = false) :
    (g.loaded mV stationary c entries).lifted = decide ((g.loaded mV stationary c entries).ownLoad < 500)
    ∧ (g.loaded mV stationary c entries).mass = massOf (g.loaded mV stationary c entries) c entries := by
  rw [loaded_ownLoad] at changed
  have other : ¬((g.takeLoad mV stationary).ownLoad = g.ownLoad ∧ (g.takeLoad mV stationary).loadKnown = g.loadKnown) :=
    fun same => changed.elim (fun h => h same.1) fun h => nomatch same.2.trans h
  have formed : g.loaded mV stationary c entries
      = { g.takeLoad mV stationary with mass := massOf (g.takeLoad mV stationary) c entries } := if_neg other
  rw [loaded_lifted, loaded_ownLoad, takeLoad_lifted, if_pos changed, formed]
  exact ⟨rfl, rfl⟩

theorem loaded_unchanged (same : (g.loaded mV stationary c entries).ownLoad = g.ownLoad) (known : g.loadKnown = true) :
    (g.loaded mV stationary c entries).lifted = g.lifted ∧ (g.loaded mV stationary c entries).mass = g.mass := by
  rw [loaded_ownLoad] at same
  have still : g.loaded mV stationary c entries = g.takeLoad mV stationary := if_pos ⟨same, known.symm⟩
  rw [still]
  exact ⟨takeLoad_lifted_same ⟨same, known.symm⟩, rfl⟩

end

/-! ### Ranges and the run out of range (R52, R54) -/

theorem loadInRange_eq_true {mV : Nat} (h : 250 ≤ mV ∧ mV ≤ 4750) : loadInRange mV = true := by
  simpa [loadInRange] using h

theorem loadInRange_eq_false {mV : Nat} (h : mV < 250 ∨ 4750 < mV) : loadInRange mV = false := by
  simp only [loadInRange, Bool.and_eq_false_iff, decide_eq_false_iff_not]
  omega

theorem missLoad_early {g : Glu} (run : g.loadRun < 4) : g.missLoad = ({ g with loadRun := g.loadRun + 1 }, false) :=
  if_neg (by omega)

theorem missLoad_fifth {g : Glu} (run : g.loadRun = 4) :
    g.missLoad = ({ g with loadRun := 5, loadHistory := [] }, true) := by
  simp [Glu.missLoad, run]

theorem missLoad_quiet {g : Glu} (run : g.loadRun ≠ 4) (top : g.loadRun ≤ 5) : g.missLoad.2 = false := by
  unfold Glu.missLoad
  split
  · have full : g.loadRun = 5 := by omega
    simp [full]
  · rfl

/-! ## Handings in order (log entry 10) -/

theorem handAll_nil (s : State) : handAll [] s = { s with free := { s.free with order := restOfOrder 0 s.free.order } } :=
  rfl

theorem handAll_single (f : State → State) (s : State) :
    handAll [f] s = f { s with free := { s.free with order := restOfOrder 1 s.free.order } } := by
  have order (k : Nat) : permute k [f] = [f] := by
    unfold permute
    simp [permute, Nat.mod_one, insertAt]
  rw [handAll, order]
  rfl

/-! ## One reading of the node -/

/-- The state that the handings of an in-range reading begin in (log entry 66). -/
def State.loadTaken (s : State) (mV n : Nat) : State :=
  { s with glu := s.glu.takeLoad mV s.wmt.stationary, free := { s.free with order := restOfOrder n s.free.order } }

theorem loadTaken_handsOn (s : State) (mV n : Nat) : s.handsOn (s.loadTaken mV n) :=
  ⟨⟨⟨rfl, rfl, rfl, rfl, rfl, rfl, rfl, rfl, rfl⟩, rfl⟩, rfl, rfl⟩

/-- An in-range reading hands nothing on at the same load, load-known and lifted flag; else the mass is formed, and a
recomputation at a change of load or lifted flag comes before it or after it. -/
theorem loadRead_cases {s : State} {mV : Nat} (inside : loadInRange mV = true) :
    let g := s.glu.takeLoad mV s.wmt.stationary
    let still := g.ownLoad = s.glu.ownLoad ∧ g.loadKnown = s.glu.loadKnown
    let same := g.ownLoad = s.glu.ownLoad ∧ g.lifted = s.glu.lifted
    (still ∧ same ∧ s.loadRead mV = s.loadTaken mV 0)
    ∨ ¬still ∧ (same ∧ s.loadRead mV = (s.loadTaken mV 1).massRecompute
      ∨ s.loadRead mV = (s.loadTaken mV 2).halRecompute.massRecompute
      ∨ s.loadRead mV = (s.loadTaken mV 2).massRecompute.halRecompute) := by
  intro g still same
  have handed : s.loadRead mV = handAll (loadHandings s.glu g) { s with glu := g } := if_pos inside
  rw [handed, loadHandings_takeLoad]
  by_cases hs : still
  · rw [if_pos hs]
    exact .inl ⟨hs, ⟨hs.1, takeLoad_lifted_same hs⟩, handAll_nil _⟩
  rw [if_neg hs]
  refine .inr ⟨hs, ?_⟩
  by_cases hl : same
  · rw [if_pos hl]
    exact .inl ⟨hl, handAll_single _ _⟩
  · rw [if_neg hl]
    exact .inr (handAll_pair State.halRecompute State.massRecompute { s with glu := g })

/-- What an in-range reading leaves (R52 to R56, R78). -/
structure State.loads (s : State) (mV : Nat) (t : State) : Prop extends s.handsOn t where
  glu : t.glu = s.glu.loaded mV s.wmt.stationary s.mdc.settings s.pvt.entries
  current : ¬((s.glu.takeLoad mV s.wmt.stationary).ownLoad = s.glu.ownLoad
    ∧ (s.glu.takeLoad mV s.wmt.stationary).lifted = s.glu.lifted) → t.resultCurrent

theorem loadRead_loads {s : State} {mV : Nat} (h : s.calm) (reading : s.glu.reading = true)
    (inside : loadInRange mV = true) : s.loads mV (s.loadRead mV) := by
  have taken (n : Nat) : s.handsOn (s.loadTaken mV n) := loadTaken_handsOn s mV n
  have calm (n : Nat) : (s.loadTaken mV n).calm := (taken n).stays.calm h
  have mass (n : Nat) := massRecompute_handsOn (calm n) reading
  have hal (n : Nat) := halRecompute_handsOn (calm n)
  rcases loadRead_cases (s := s) inside with ⟨still, same, e⟩ | ⟨changed, ⟨same, e⟩ | e | e⟩ <;> rw [e]
  · exact ⟨taken 0, (if_pos still).symm, fun anew => absurd same anew⟩
  · exact ⟨(taken 1).trans (mass 1), (massRecompute_glu (calm 1) reading).trans (if_neg changed).symm,
      fun anew => absurd same anew⟩
  · have reads : (s.loadTaken mV 2).halRecompute.glu.reading = true := by rw [halRecompute_glu (calm 2)]; exact reading
    have calm' := (hal 2).stays.calm (calm 2)
    refine ⟨((taken 2).trans (hal 2)).trans (massRecompute_handsOn calm' reads), ?_,
      fun _ => massRecompute_resultCurrent calm' reads (halRecompute_resultCurrent (calm 2))⟩
    obtain ⟨-, pvt, -, -, -, mdc, -⟩ := (hal 2).stays
    rw [massRecompute_glu calm' reads, halRecompute_glu (calm 2), pvt, mdc]
    exact (if_neg changed).symm
  · have calm' := (mass 2).stays.calm (calm 2)
    exact ⟨((taken 2).trans (mass 2)).trans (halRecompute_handsOn calm'), ((halRecompute_glu calm').trans
      (massRecompute_glu (calm 2) reading)).trans (if_neg changed).symm, fun _ => halRecompute_resultCurrent calm'⟩

/-- Out of range a reading counts, and its fifth empties the history and is reported (R54). -/
theorem loadRead_outside {s : State} {mV : Nat} (outside : loadInRange mV = false) :
    s.loadRead mV = (s.withGlu s.glu.missLoad.1).reportIf s.glu.missLoad.2 loadReport := by
  simp only [State.loadRead, outside]
  rfl

/-! ## The two rows -/

theorem exec_loadReading {s : State} (reading : s.glu.reading = true) (mV : Nat) :
    exec (.loadReading mV) s = .next (conclude s (s.loadRead mV)) := by
  show execLoadReading mV s = _
  rw [execLoadReading, if_pos reading]

theorem exec_loadInputFault {s : State} (mV : Nat) : exec (.loadInputFault mV) s
    = .next (conclude s (if s.glu.reading && !loadInRange mV && s.glu.missLoad.2 then s.loadRead mV else s)) := rfl

/-- Settles O35: the four cases of the reading, each ended in a steady state. -/
theorem loadReadingFormsLoad : Obligations.LoadReadingFormsLoad := by
  refine ⟨fun s v steady reading inside => ?_, fun s v steady reading outside run => ?_,
    fun s v c steady reading outside run row => ?_, fun s v steady quiet top => ?_⟩
  · have loads := loadRead_loads steady.calm reading (loadInRange_eq_true inside)
    rw [exec_loadReading reading, loads.stays.conclude steady]
    refine ⟨_, rfl, ?_⟩
    simp only [State.drawn_glu, State.lapse_glu, loads.glu]
    refine ⟨loaded_history.1, loaded_history.2, loaded_changed, loaded_unchanged, fun changed => ?_, loads.keeps_ended⟩
    refine ended_resultCurrent (loads.current fun same => ?_)
    rw [loaded_ownLoad, loaded_lifted] at changed
    exact changed.elim (fun h => h same.1) fun h => h same.2
  · have missed := withGlu_handsOn s { s.glu with loadRun := s.glu.loadRun + 1 }
    rw [exec_loadReading reading, loadRead_outside (loadInRange_eq_false outside), missLoad_early run]
    exact ⟨_, congrArg _ (missed.stays.conclude steady), rfl, withGlu_keeps_ended s _⟩
  · have inside := loadInRange_eq_false outside
    have missed := withGlu_handsOn s { s.glu with loadRun := 5, loadHistory := [] }
    have calm := missed.stays.calm steady.calm
    have spares := missed.tosparesOthers.trans (reportIf_sparesOthers (fault := true) (r := loadReport) calm (by decide))
    have read : exec c s = .next (conclude s (s.loadRead v)) := by
      rcases row with rfl | rfl
      · exact exec_loadReading reading v
      · rw [exec_loadInputFault, reading, inside, missLoad_fifth run]
        rfl
    rw [read, loadRead_outside inside, missLoad_fifth run, spares.stays.conclude steady]
    refine ⟨_, rfl, ?_, ?_, spares.keeps_ended⟩
    · exact reportIf_glu calm (by decide)
    · refine (reportIf_frb calm (by decide)).trans ?_
      rw [complete_stays missed.stays]
      rfl
  · have idle : (s.glu.reading && !loadInRange v && s.glu.missLoad.2) = false := by
      rcases quiet with inside | run
      · simp [loadInRange_eq_true inside]
      · simp [missLoad_quiet run top]
    rw [exec_loadInputFault, idle, if_neg (by decide), (State.stays.refl s).conclude steady]
    exact ⟨_, rfl, s.keeps_ended⟩

end Sys2Proof.Machine

/-! PROOF. The peer table through every step (R60, R61, R63): ascending, for peers only, and so of at most seven entries. -/

namespace Sys2Proof.Machine

/-! ## A table in order -/

/-- The entries stand in ascending order, each for a peer of the node `own` and with a load as R61 leaves it. -/
def tableFor (own : Nat) (l : List PeerEntry) : Prop :=
  l.Pairwise (fun e f => e.node < f.node) ∧ ∀ e ∈ l, 1 ≤ e.node ∧ e.node ≤ 8 ∧ e.node ≠ own ∧ e.decl.load ≤ 2500

theorem State.tableOk_iff (s : State) :
    s.tableOk ↔ tableFor s.number s.pvt.entries ∧ 1 ≤ s.number ∧ s.number ≤ 8 := and_assoc.symm

theorem tableFor_nil (own : Nat) : tableFor own [] :=
  ⟨.nil, fun _ he => absurd he List.not_mem_nil⟩

/-- A change of entries that leaves each its node number and no load above the cap leaves the table in order. -/
theorem tableFor_map {own : Nat} {l : List PeerEntry} {change : PeerEntry → PeerEntry} (h : tableFor own l)
    (node : ∀ e, (change e).node = e.node) (load : ∀ e, e.decl.load ≤ 2500 → (change e).decl.load ≤ 2500) :
    tableFor own (l.map change) := by
  obtain ⟨ascending, peers⟩ := h
  refine ⟨List.pairwise_map.2 (by simpa only [node] using ascending), fun x hx => ?_⟩
  obtain ⟨e, he, rfl⟩ := List.mem_map.1 hx
  obtain ⟨low, high, other, capped⟩ := peers e he
  rw [node]
  exact ⟨low, high, other, load e capped⟩

theorem tableFor_changeEntry {own n : Nat} {l : List PeerEntry} {change : PeerEntry → PeerEntry} (h : tableFor own l)
    (node : ∀ e, (change e).node = e.node) (load : ∀ e, e.decl.load ≤ 2500 → (change e).decl.load ≤ 2500) :
    tableFor own (changeEntry n change l) :=
  tableFor_map h (fun e => by split <;> simp [node]) fun e he => by split <;> simp [he, load]

theorem entryFor_eq_none {n : Nat} {l : List PeerEntry} : entryFor n l = none ↔ ∀ e ∈ l, e.node ≠ n := by
  simp [entryFor, List.find?_eq_none]

/-- An entry for a number the table does not hold, put at its place, leaves the table ascending (R63). -/
theorem insertEntry_ascending {e : PeerEntry} {l : List PeerEntry} (h : l.Pairwise (fun e f => e.node < f.node))
    (absent : ∀ f ∈ l, f.node ≠ e.node) : (insertEntry e l).Pairwise (fun e f => e.node < f.node) := by
  induction l with
  | nil => exact List.pairwise_singleton _ e
  | cons f l ih =>
    obtain ⟨above, rest⟩ := List.pairwise_cons.1 h
    have different : f.node ≠ e.node := absent f List.mem_cons_self
    rw [insertEntry]
    split
    · rename_i before
      refine List.pairwise_cons.2 ⟨fun x hx => ?_, h⟩
      rcases List.mem_cons.1 hx with rfl | hx
      · exact before
      · exact before.trans (above x hx)
    · rename_i behind
      refine List.pairwise_cons.2 ⟨fun x hx => ?_, ih rest fun g hg => absent g (List.mem_cons_of_mem f hg)⟩
      rcases mem_insertEntry hx with rfl | hx
      · omega
      · exact above x hx

/-- An accepted Declaration of a peer leaves the table in order (R61, R63, R64). -/
theorem tableFor_take {own n : Nat} {p : Pvt} {d : Declared} (h : tableFor own p.entries) (low : 1 ≤ n) (high : n ≤ 8)
    (other : n ≠ own) (capped : d.capped) : tableFor own (p.take n d).entries := by
  unfold Pvt.take
  split
  · rename_i absent
    refine ⟨insertEntry_ascending h.1 (entryFor_eq_none.1 absent), fun x hx => ?_⟩
    rcases mem_insertEntry hx with rfl | hx
    · exact ⟨low, high, other, capped.2⟩
    · exact h.2 x hx
  · exact tableFor_changeEntry h (fun _ => rfl) fun _ _ => capped.2

/-- The node numbers of a table in order are different numbers 1..8 other than the node's own, of which there are seven. -/
theorem tableFor_length {own : Nat} {l : List PeerEntry} (h : tableFor own l) (low : 1 ≤ own) (high : own ≤ 8) :
    l.length ≤ 7 := by
  obtain ⟨ascending, peers⟩ := h
  have different : (l.map PeerEntry.node).Nodup :=
    (List.pairwise_map.2 ascending).imp fun less => Nat.ne_of_lt less
  have inside : (l.map PeerEntry.node).toFinset ⊆ (Finset.Icc 1 8).erase own := by
    intro n hn
    obtain ⟨e, he, rfl⟩ := List.mem_map.1 (List.mem_toFinset.1 hn)
    obtain ⟨above, below, other, -⟩ := peers e he
    exact Finset.mem_erase.2 ⟨other, Finset.mem_Icc.2 ⟨above, below⟩⟩
  have seven : ((Finset.Icc 1 8).erase own).card = 7 := by
    rw [Finset.card_erase_of_mem (Finset.mem_Icc.2 ⟨low, high⟩), Nat.card_Icc]
  calc l.length = (l.map PeerEntry.node).toFinset.card := by
        rw [List.toFinset_card_of_nodup different, List.length_map]
    _ ≤ 7 := seven ▸ Finset.card_le_card inside

/-! ## The table of the state -/

theorem State.number_of_straps {s t : State} (h : t.mdc.straps = s.mdc.straps) : t.number = s.number := by
  rw [State.number, h, State.number]

theorem State.tableOk_of_same {s t : State} (table : t.pvt.entries = s.pvt.entries)
    (straps : t.mdc.straps = s.mdc.straps) (h : s.tableOk) : t.tableOk := by
  rw [State.tableOk_iff, table, State.number_of_straps straps]
  exact s.tableOk_iff.1 h

/-- A changed table in order. -/
theorem State.tableOk_of_table {s : State} {p : Pvt} (h : s.tableOk) (table : tableFor s.number p.entries) :
    ({ s with pvt := p } : State).tableOk :=
  (State.tableOk_iff _).2 ⟨table, (s.tableOk_iff.1 h).2⟩

/-- The pins read as a number 1..8 (R184). -/
theorem nodeNumber_bounds (num0 num1 num2 : Bool) :
    1 ≤ nodeNumber num0 num1 num2 ∧ nodeNumber num0 num1 num2 ≤ 8 := by
  cases num0 <;> cases num1 <;> cases num2 <;> decide

/-- Every elementary move keeps the table in order. -/
theorem Move.keeps_tableOk {c : Instr} (s t : State) (m : Move c s t) (h : s.tableOk) : t.tableOk := by
  obtain ⟨table, low, high⟩ := s.tableOk_iff.1 h
  cases m with
  | pvtTake n d h1 h8 own hd => exact State.tableOk_of_table h (tableFor_take table h1 h8 own hd)
  | pvtCapacity | pvtAlert | pvtDrop | pvtFresh =>
    exact State.tableOk_of_table h (tableFor_changeEntry table (fun _ => rfl) fun _ capped => capped)
  | mdc m hm hs => exact State.tableOk_of_same (s := s) rfl hs h
  | power num0 num1 num2 =>
    exact (State.tableOk_iff _).2 ⟨tableFor_nil _, nodeNumber_bounds num0 num1 num2⟩
  | restart resume a => exact (State.tableOk_iff _).2 ⟨tableFor_nil _, low, high⟩
  | alert | declaration | rouse | owedReply | reply | record | safe =>
    exact State.tableOk_of_same (by simp) (by simp [State.safeMode]) h
  | _ => exact State.tableOk_of_same (s := s) rfl rfl h

theorem tick_tableOk {s : State} (h : s.tableOk) : s.tick.tableOk := by
  obtain ⟨table, bounds⟩ := s.tableOk_iff.1 h
  unfold State.tick
  split
  · exact (State.tableOk_iff _).2 ⟨tableFor_map table (fun _ => rfl) fun _ capped => capped, bounds⟩
  · exact h

/-- Settles O5: every elementary move keeps the table in order, and so do a command, which is a run of moves, and a tick,
which only ages the entries. -/
theorem stepKeepsTable : Obligations.StepKeepsTable := by
  refine ⟨fun s t h hstep => ?_, fun s h => ?_⟩
  · rcases step_cases s with ⟨c, l, u, -, hu, moves⟩ | ⟨-, htick⟩
    · obtain rfl : t = u := by simpa [hu] using hstep.symm
      exact moves.keeps Move.keeps_tableOk h
    · obtain rfl : t = s.tick := by simpa [htick] using hstep.symm
      exact tick_tableOk h
  · obtain ⟨table, low, high⟩ := s.tableOk_iff.1 h
    exact tableFor_length table low high

end Sys2Proof.Machine

/-! PROOF. The state after reset (R60, R146, R162, R173, R177, R184, R198). -/

namespace Sys2Proof.Machine

/-- Settles O2: every block stands in its initial state, which is a closed term, with table, list and banks empty. -/
theorem resetHasInvariants : Obligations.ResetHasInvariants := by
  have motion : State.reset.motionOk := ⟨Wmt.initial_ok, by decide⟩
  have levels : State.reset.levelsOk := by decide
  have table : State.reset.tableOk := (State.tableOk_iff _).2 ⟨tableFor_nil _, by decide⟩
  have phase : State.reset.phaseOk := by decide
  have valves : State.reset.valvesOk := by decide
  have list : State.reset.listOk := by decide
  have counts : State.reset.sgi.countsOk := by decide
  have settings : State.reset.settingsOk := by decide
  have faults : State.reset.faultsOk := by decide
  exact ⟨motion, levels, table, phase, valves, rfl, list, counts, settings, faults⟩

end Sys2Proof.Machine

/-! PROOF. What a command that is acted on outside a hold touches: at most the parts listed, with the MDC, the phase and
the lanes' free value as they stood, so that what the node is at rest in stands (R78, R199). -/

namespace Sys2Proof.Machine

/-! ## Parts touched -/

/-- At most the parts listed differ, and MDC, phase and the lanes' free value stand as they were. -/
structure State.touches (s t : State) (parts : List Block) : Prop where
  keeps : s.keeps t parts
  mdc : t.mdc = s.mdc
  phase : t.hpc.phase = s.hpc.phase
  lane : t.free.laneFault = s.free.laneFault

theorem Block.same_refl (s : State) (b : Block) : b.same s s := by cases b <;> rfl

theorem State.touches.refl (s : State) : s.touches s [] := ⟨fun b _ => b.same_refl s, rfl, rfl, rfl⟩

section
variable {s t u : State} {l m : List Block}

theorem State.touches.mono (h : s.touches t l) (more : l ⊆ m) : s.touches t m :=
  ⟨fun b other => h.keeps b fun inside => other (more inside), h.mdc, h.phase, h.lane⟩

theorem State.touches.trans (h : s.touches t l) (k : t.touches u m) : s.touches u (l ++ m) := by
  refine ⟨fun b other => ?_, k.mdc.trans h.mdc, k.phase.trans h.phase, k.lane.trans h.lane⟩
  obtain ⟨before, after⟩ := not_or.1 fun inside => other (List.mem_append.2 inside)
  exact Block.same_trans (h.keeps b before) (k.keeps b after)

/-- Two changes within the same parts. -/
theorem State.touches.within (h : s.touches t l) (k : t.touches u l) : s.touches u l :=
  (h.trans k).mono (by simp)

/-- A part that stands as it was need not be listed. -/
theorem State.touches.without (h : s.touches t l) (b : Block) (same : b.same s t) :
    s.touches t (l.erase b) := by
  refine ⟨fun x other => ?_, h.mdc, h.phase, h.lane⟩
  by_cases e : x = b
  · exact e ▸ same
  · exact h.keeps x fun inside => other ((List.mem_erase_of_ne e).2 inside)

theorem State.touches.calm (h : s.touches t l) (hs : s.calm) : t.calm := by
  unfold State.calm State.inHold
  rw [h.mdc, h.phase, h.lane]
  exact hs

theorem State.touches.steady (h : s.touches t l) (hs : s.steady) (vir : .vir ∉ l) : t.steady := by
  have records : t.vir = s.vir := h.keeps .vir vir
  unfold State.steady State.inPhase State.demand
  rw [h.mdc, records, h.phase, h.lane]
  exact hs

/-- A record is completed from mode, phase and mask (R199). -/
theorem State.touches.complete (h : s.touches t l) (r : Report) : t.complete r = s.complete r := by
  simp only [State.complete, State.reportedMark, State.activity, h.mdc, h.phase]

theorem State.touches.keeps_ended (h : s.touches t l) : s.keeps t.lapse.drawn l := fun b other =>
  Block.same_trans (h.keeps b other) (ended_same t b)

/-- A command that leaves a steady state steady ends there: nothing more is acted on. -/
theorem State.touches.conclude (h : s.touches t l) (hs : s.steady) (vir : .vir ∉ l) :
    Machine.conclude s t = t.lapse.drawn := conclude_fixed (react_steady s (h.steady hs vir))

end

/-! ## What the shared operations touch -/

/-- The table replaced, which hands nothing on yet. -/
def State.withPvt (s : State) (p : Pvt) : State := { s with pvt := p }

theorem withPvt_touches (s : State) (p : Pvt) : s.touches (s.withPvt p) [.pvt] := by
  refine ⟨fun b other => ?_, rfl, rfl, rfl⟩
  cases b
  case pvt => simp at other
  all_goals rfl

/-- The state that n handings without an order of their own begin in. -/
def State.ordered (s : State) (n : Nat) : State :=
  { s with free := { s.free with order := restOfOrder n s.free.order } }

theorem ordered_touches (s : State) (n : Nat) : s.touches (s.ordered n) [] :=
  ⟨fun b _ => by cases b <;> rfl, rfl, rfl, rfl⟩

theorem handAll_one (f : State → State) (s : State) : handAll [f] s = f (s.ordered 1) := handAll_single f s

/-- Two handings are taken in the one order or the other (log entry 10). -/
theorem handAll_two (f g : State → State) (s : State) :
    handAll [f, g] s = g (f (s.ordered 2)) ∨ handAll [f, g] s = f (g (s.ordered 2)) := handAll_pair f g s

theorem keepDelivery_touches (s : State) (r : HalResult) : s.touches (s.keepDelivery r) [.hal, .hpc] := by
  refine ⟨fun b other => ?_, rfl, rfl, rfl⟩
  cases b
  case hal | hpc => simp at other
  all_goals rfl

theorem halRecompute_touches {s : State} (h : s.calm) : s.touches s.halRecompute [.hal, .hpc] := by
  rcases halRecompute_calm h with e | ⟨r, e⟩ <;> rw [e]
  · exact (State.touches.refl s).mono (by simp)
  · exact keepDelivery_touches s r

theorem storeReport_touches (s : State) (r : Report) : s.touches (s.storeReport r) [.sgi, .frb] := by
  refine ⟨fun b other => ?_, by simp, by simp, by simp⟩
  cases b
  case sgi | frb => simp at other
  all_goals simp [Block.same]

/-- A report outside a hold that is no second severe one is stored, with at most a recomputation (R199 to R202). -/
theorem report_touches {s : State} {r : Report} (h : s.calm) (first : s.secondSevere r = false) :
    s.touches (s.report r) [.hal, .hpc, .sgi, .frb] ∧ (s.report r).frb = (s.storeReport r).frb := by
  have stored := storeReport_touches s r
  have handed := halRecompute_touches (stored.calm h)
  unfold State.report State.answerCause State.handCompromise
  rw [first, if_neg (by decide)]
  split
  · exact ⟨stored.mono (by simp), rfl⟩
  · exact ⟨(stored.trans handed).mono (by simp), handed.keeps .frb (by decide)⟩

end Sys2Proof.Machine

/-! PROOF. Frames that are not taken: malformed frames, and frames under the node's own number (R61, R62, R69, R72,
R169). -/

namespace Sys2Proof.Machine

/-! ## The frames as reports -/

/-- Two states that a command leaves alike end it alike. -/
theorem next_conclude (before : State) {t u : State} (h : t = u) :
    (Host.Outcome.next (conclude before t) : Host.Outcome State Fault Refusal) = .next (conclude before u) := by rw [h]

theorem takesFrom_of_receives {s : State} {n : Nat} (receives : s.receives = true) (low : 1 ≤ n) (high : n ≤ 8) :
    s.takesFrom n = true := by
  simp [State.takesFrom, receives, low, high]

section
variable {s : State} {n : Nat} {data : List Byte}

theorem exec_declaration_malformed (takes : s.takesFrom n = true) (bad : decodeDeclaration data = none) :
    exec (.declaration n data) s = .next (conclude s (s.report (malformedReport (.peer n)))) := by
  show execDeclaration n data s = _
  simp [execDeclaration, State.declarationArrives, takes, bad]

theorem exec_alert_malformed (takes : s.takesFrom n = true) (bad : decodeAlert data = none) :
    exec (.alert n data) s = .next (conclude s (s.report (malformedReport (.peer n)))) := by
  show execAlert n data s = _
  simp [execAlert, State.alertArrives, takes, bad]

theorem stationFrame_malformed {α : Type} {d : Option α} (receives : s.receives = true) (bad : d = none) (e : Element)
    (take : α → State) : s.stationFrame e d take = s.report (malformedReport e) := by
  simp [State.stationFrame, receives, bad]

theorem exec_declaration_clash {d : Declared} (takes : s.takesFrom s.number = true)
    (good : decodeDeclaration data = some d) :
    exec (.declaration s.number data) s = .next (conclude s s.clash) := by
  show execDeclaration s.number data s = _
  simp [execDeclaration, State.declarationArrives, takes, good, State.declare]

theorem exec_alert_clash {a : LastAlert} (takes : s.takesFrom s.number = true) (good : decodeAlert data = some a) :
    exec (.alert s.number data) s = .next (conclude s s.clash) := by
  show execAlert s.number data s = _
  simp [execAlert, State.alertArrives, takes, good, State.alerted]

end

/-! ## Identity clash (R62) -/

/-- The clash span begun anew. -/
def State.spanBegun (s : State) : State := s.withPvt { s.pvt with clashTime := some 0 }

theorem clash_eq (s : State) :
    s.clash = if s.pvt.clashTime.isNone then s.spanBegun.report identityReport else s.spanBegun := rfl

/-- An own-number frame begins the span anew, and its first in a span is reported. -/
theorem clash_spec {s : State} (h : s.calm)
    (first : s.frb.responseActive = false ∨ s.pvt.clashTime.isSome = true) :
    s.touches s.clash [.pvt, .hal, .hpc, .sgi, .frb] ∧ s.clash.pvt = { s.pvt with clashTime := some 0 }
    ∧ s.clash.frb = if s.pvt.clashTime.isNone then
        { banks := s.frb.banks.store .node (s.complete identityReport), responseActive := true } else s.frb := by
  have begun : s.touches s.spanBegun [.pvt] := withPvt_touches s _
  rw [clash_eq]
  cases span : s.pvt.clashTime with
  | some x => exact ⟨begun.mono (by simp), rfl, rfl⟩
  | none =>
    have clear : s.spanBegun.frb.responseActive = false := first.resolve_right (by simp [span])
    obtain ⟨told, frb⟩ := report_touches (begun.calm h) (secondSevere_first (r := identityReport) clear)
    refine ⟨begun.trans told, told.keeps .pvt (by decide), frb.trans ?_⟩
    rw [State.storeReport_frb, begun.complete]
    simp [identityReport, State.spanBegun, State.withPvt]

/-- Settles O37: a malformed frame is its report and nothing else, and an own-number frame is a clash. -/
theorem badFramesAreReported : Obligations.BadFramesAreReported := by
  refine ⟨fun s c e n data steady receives row => ?_, fun s c data steady takes first row => ?_⟩
  · have told : exec c s = .next (conclude s (s.report (malformedReport e))) := by
      rcases row with ⟨rfl, rfl, low, high, bad⟩ | ⟨rfl, rfl, low, high, bad⟩ | ⟨rfl, rfl, bad⟩ | ⟨rfl, rfl, bad⟩
        | ⟨rfl, rfl, bad⟩
      · exact exec_declaration_malformed (takesFrom_of_receives receives low high) bad
      · exact exec_alert_malformed (takesFrom_of_receives receives low high) bad
      · exact next_conclude s (stationFrame_malformed receives bad .cabStation s.takeCab)
      · exact next_conclude s (stationFrame_malformed receives bad .powertrainStation s.takeDrive)
      · exact next_conclude s (stationFrame_malformed receives bad .drumStation s.takeDrum)
    have mild : (malformedReport e).severity ≠ .severe := by simp [malformedReport, plainReport]
    obtain ⟨touches, frb⟩ := report_touches steady.calm (secondSevere_mild (s := s) mild)
    rw [told, touches.conclude steady (by decide)]
    exact ⟨_, rfl, frb.trans (storeReport_mild mild), touches.keeps_ended⟩
  · have clash : exec c s = .next (conclude s s.clash) := by
      rcases row with ⟨rfl, good⟩ | ⟨rfl, good⟩
      · obtain ⟨d, hd⟩ := Option.isSome_iff_exists.1 good
        exact exec_declaration_clash takes hd
      · obtain ⟨a, ha⟩ := Option.isSome_iff_exists.1 good
        exact exec_alert_clash takes ha
    obtain ⟨touches, pvt, frb⟩ := clash_spec steady.calm first
    rw [clash, touches.conclude steady (by decide)]
    exact ⟨_, rfl, pvt, frb, touches.keeps_ended⟩

end Sys2Proof.Machine

/-! PROOF. What the ages of the table and an Alert do outside the handings of creep and grade: an entry's expiry, the removal
of a last alert, and an accepted Alert, in a steady state and in SECURED with service retained (R38, R66 to R70). -/

namespace Sys2Proof.Machine

/-! ## SECURED with service retained -/

theorem State.sustains.touches {s t : State} (h : s.sustains t) :
    s.touches t [.csu, .hal, .hpc, .cpr, .sgi, .frb] := by
  refine ⟨fun b other => ?_, h.mdc, h.phase, by rw [h.free]⟩
  cases b
  case wmt => exact h.wmt
  case glu => exact h.glu
  case pvt => exact h.pvt
  case vir => exact h.vir
  case pad => exact h.pad
  case mdc => exact congrArg Mdc.lasting h.mdc
  case queue => exact h.pending
  all_goals simp at other

/-- A command that sustains a retaining state ends there: nothing more is acted on. -/
theorem State.sustains.conclude {s t : State} (h : s.sustains t) (before : State) (k : s.retaining) :
    Machine.conclude before t = t.lapse.drawn := conclude_fixed (react_retaining before (h.retaining k))

/-- A recomputation and a report that is not severe, in either order: the record is stored as completed before them. -/
theorem reported_and_recomputed {s : State} (lane : s.free.laneFault = none) {r : Report} (mild : r.severity ≠ .severe) :
    ∃ t, handAll [State.halRecompute, fun t => t.report r] s = t ∧ (s.ordered 2).sustains t ∧ t.csu = s.csu
      ∧ t.frb = { s.frb with banks := s.frb.banks.store r.bank (s.complete r) } := by
  have lane : (s.ordered 2).free.laneFault = none := lane
  rcases handAll_two State.halRecompute (fun t => t.report r) s with e | e
  · have delivered := halRecompute_delivers lane
    obtain ⟨told, csu, frb⟩ := report_sustains (delivered.lane lane) (secondSevere_mild mild)
    refine ⟨_, e, delivered.tosustains.trans told, csu.trans delivered.csu, frb.trans ?_⟩
    rw [storeReport_mild mild, delivered.complete, delivered.frb]
    rfl
  · obtain ⟨told, csu, frb⟩ := report_sustains lane (secondSevere_mild mild)
    have delivered := halRecompute_delivers (told.lane lane)
    exact ⟨_, e, told.trans delivered.tosustains, delivered.csu.trans csu,
      delivered.frb.trans (frb.trans (storeReport_mild mild))⟩

/-! ## Expiry of an entry and removal of a last alert (R66, R67, R70) -/

theorem mem_changeEntry {n : Nat} {change : PeerEntry → PeerEntry} {l : List PeerEntry} {e : PeerEntry}
    (h : e ∈ changeEntry n change l) (node : e.node = n) : ∃ f, f.node ≠ n ∧ e = f ∨ e = change f := by
  obtain ⟨f, -, rfl⟩ := List.mem_map.1 h
  refine ⟨f, ?_⟩
  split
  · exact .inr rfl
  · rename_i other
    exact .inl ⟨other, rfl⟩

theorem exec_peerExpired {s : State} {n : Nat} (due : s.entryDue n (ms 300) .stale = true) :
    exec (.peerExpired n) s = .next (conclude s (handAll (expiryHandings n s.inHold)
      (s.withPvt (s.pvt.setFreshness n .expired)))) := next_conclude s (if_pos due)

theorem expired_in_steady {s : State} {n : Nat} (steady : s.steady) (due : s.entryDue n (ms 300) .stale = true) :
    ∃ t, exec (.peerExpired n) s = .next t ∧ t.pvt = s.pvt.setFreshness n .expired ∧ t.resultCurrent
      ∧ s.keeps t [.pvt, .hal, .hpc] := by
  have aged := (withPvt_touches s (s.pvt.setFreshness n .expired)).trans (ordered_touches _ 1)
  have handed := halRecompute_touches (aged.calm steady.calm)
  have whole := aged.trans handed
  rw [exec_peerExpired due, steady.calm.1]
  refine ⟨_, next_conclude s (handAll_one _ _), ?_⟩
  rw [whole.conclude steady (by decide)]
  exact ⟨handed.keeps .pvt (by decide), ended_resultCurrent (halRecompute_resultCurrent (aged.calm steady.calm)),
    whole.keeps_ended⟩

/-- In a hold an expiry is reported, before its recomputation or after it (R67). -/
theorem expired_in_secured {s : State} {n : Nat} (retaining : s.retaining) (due : s.entryDue n (ms 300) .stale = true) :
    ∃ t, exec (.peerExpired n) s = .next t ∧ t.pvt = s.pvt.setFreshness n .expired
      ∧ t.frb = { s.frb with banks := s.frb.banks.store .link (s.complete (expiryReport n)) }
      ∧ s.keeps t [.pvt, .hal, .hpc, .cpr, .sgi, .frb] := by
  have aged := (withPvt_touches s (s.pvt.setFreshness n .expired)).trans (ordered_touches _ 2)
  have mild : (expiryReport n).severity ≠ .severe := by simp [expiryReport, plainReport]
  have ⟨_, _, _, lane⟩ := retaining
  obtain ⟨t, e, sustains, csu, frb⟩ := reported_and_recomputed
    (s := s.withPvt (s.pvt.setFreshness n .expired)) lane mild
  have hold : s.inHold = true := inHold_of_inPhase retaining.1 rfl
  rw [exec_peerExpired due, hold]
  refine ⟨_, next_conclude s e, ?_⟩
  rw [sustains.conclude s retaining]
  exact ⟨sustains.pvt, frb, (aged.trans (sustains.touches.without .csu csu)).keeps_ended⟩

theorem alert_removed {s : State} {n : Nat} (steady : s.steady) (due : s.alertDue n = true) :
    ∃ t, exec (.lastAlertRemoval n) s = .next t ∧ t.pvt = s.pvt.dropAlert n
      ∧ (∀ e ∈ t.pvt.entries, e.node = n → e.lastAlert = none) ∧ s.keeps t [.pvt] := by
  have dropped := withPvt_touches s (s.pvt.dropAlert n)
  refine ⟨_, next_conclude (u := s.withPvt (s.pvt.dropAlert n)) s (if_pos due), ?_⟩
  rw [dropped.conclude steady (by decide)]
  refine ⟨rfl, fun e he node => ?_, dropped.keeps_ended⟩
  obtain ⟨f, ⟨other, rfl⟩ | rfl⟩ := mem_changeEntry he node
  · exact absurd node other
  · rfl

/-! ## An accepted Alert (R38, R69) -/

/-- An Alert aborts a release and brings a capture, and is otherwise not acted on by the HPC (R103, R111). -/
theorem hpcAlert_ignored {s : State} (releasing : s.inPhase .releasing = false) (follows : s.followsNow = false) :
    s.hpcAlert = s := by
  simp [State.hpcAlert, releasing, follows]

theorem followsNow_steady {s : State} (h : s.steady) : s.followsNow = false := by
  rcases h with m | ⟨m, -⟩ | ⟨-, demand, -⟩
  · simp [State.followsNow, State.inPhase, m]
  · simp [State.followsNow, State.inPhase, m]
  · obtain ⟨d, hd⟩ := Option.isSome_iff_exists.1 demand
    simp [State.followsNow, hd]

theorem hpcAlert_steady {s : State} (h : s.steady) : s.hpcAlert = s := by
  refine hpcAlert_ignored (Bool.eq_false_iff.2 fun releasing => ?_) (followsNow_steady h)
  exact absurd (inHold_of_inPhase releasing rfl) (by simp [h.calm.1])

theorem hpcAlert_secured {s : State} (h : s.inPhase .secured = true) : s.hpcAlert = s := by
  obtain ⟨-, phase⟩ := (inPhase_iff s _).1 h
  exact hpcAlert_ignored (apart_of_inPhase h (by decide)) (by simp [State.followsNow, State.inPhase, phase])

/-- The CSU at an Alert in a hold: node level 4 at a breach or an insufficiency, own level as it stood (R38). -/
theorem csuAlert_spec {s : State} (hold : s.inHold = true) (lane : s.free.laneFault = none) (c : AlertCause) :
    s.sustains (s.csuAlert c) ∧ (s.csuAlert c).frb = s.frb ∧ (s.csuAlert c).csu = { s.csu with
      nodeLevel := if c = .breach ∨ c = .insufficient then 4 else s.csu.nodeLevel } := by
  unfold State.csuAlert
  by_cases grave : c = .breach ∨ c = .insufficient
  · rw [if_pos (by simpa [hold] using grave), if_pos grave]
    exact ⟨setLevels_sustains lane _ _, setLevels_frb lane _ _, setLevels_csu lane _ _⟩
  · rw [if_neg (by simpa [hold] using grave), if_neg grave]
    exact ⟨.refl s, rfl, rfl⟩

theorem exec_alert {s : State} {n : Nat} {data : List Byte} {a : LastAlert} (takes : s.takesFrom n = true)
    (peer : n ≠ s.number) (good : decodeAlert data = some a) : exec (.alert n data) s = .next (conclude s
      (handAll ((if s.inHold then [fun t => t.csuAlert a.cause] else []) ++ [State.hpcAlert])
        (s.withPvt (s.pvt.takeAlert n a)))) := by
  show execAlert n data s = _
  simp [execAlert, State.alertArrives, takes, good, State.alerted, peer, State.withPvt]

/-- In SECURED the CSU alone acts on an Alert, before the HPC or after it. -/
theorem alertHandings_secured {s : State} (secured : s.inPhase .secured = true) (lane : s.free.laneFault = none)
    (c : AlertCause) : handAll [fun t => t.csuAlert c, State.hpcAlert] s = (s.ordered 2).csuAlert c := by
  have hold : (s.ordered 2).inHold = true := inHold_of_inPhase secured rfl
  have raised := (csuAlert_spec hold lane c).1
  rcases handAll_two (fun t => t.csuAlert c) State.hpcAlert s with e | e <;> rw [e]
  · exact hpcAlert_secured ((raised.inPhase _).trans secured)
  · rw [hpcAlert_secured (s := s.ordered 2) secured]

/-- Settles O39: in a steady state an Alert leaves its trace alone, and in SECURED the CSU acts on it. -/
theorem alertRaisesNodeLevel : Obligations.AlertRaisesNodeLevel := by
  refine ⟨fun s n data a steady takes peer good => ?_, fun s n data a retaining takes peer good => ?_⟩
  · have traced := (withPvt_touches s (s.pvt.takeAlert n a)).trans (ordered_touches _ 1)
    have handed : handAll [State.hpcAlert] (s.withPvt (s.pvt.takeAlert n a))
        = (s.withPvt (s.pvt.takeAlert n a)).ordered 1 :=
      (handAll_one _ _).trans (hpcAlert_steady (traced.steady steady (by decide)))
    rw [exec_alert takes peer good, steady.calm.1]
    refine ⟨_, next_conclude s handed, ?_⟩
    rw [traced.conclude steady (by decide)]
    refine ⟨rfl, fun e he node => ?_, traced.keeps_ended⟩
    obtain ⟨f, ⟨other, rfl⟩ | rfl⟩ := mem_changeEntry he node
    · exact absurd node other
    · rfl
  · have traced := (withPvt_touches s (s.pvt.takeAlert n a)).trans (ordered_touches _ 2)
    have ⟨secured, _, _, lane⟩ := retaining
    have hold : s.inHold = true := inHold_of_inPhase secured rfl
    obtain ⟨sustains, frb, csu⟩ :=
      csuAlert_spec (s := (s.withPvt (s.pvt.takeAlert n a)).ordered 2) hold lane a.cause
    rw [exec_alert takes peer good, hold]
    refine ⟨_, next_conclude s (alertHandings_secured (s := s.withPvt (s.pvt.takeAlert n a)) secured lane a.cause), ?_⟩
    rw [sustains.conclude s retaining]
    refine ⟨sustains.pvt, csu, ?_, (traced.trans (sustains.touches.without .frb frb)).keeps_ended⟩
    rw [ended_inPhase, sustains.inPhase]
    exact secured

end Sys2Proof.Machine

/-! PROOF. The station records (R72 to R75): a frame overwrites its record, an age of 200 ms makes it stale, and drive
demand and margin follow (R78, R80). -/

namespace Sys2Proof.Machine

/-! ## States at rest -/

/-- What stands with no standing condition waiting: CONFIG, SAFE with the vehicle found stationary, and RELEASED where no
capture behind a peer is open, with no lane going wrong. -/
def State.rests (s : State) : Prop :=
  s.mdc.mode = .config ∨ (s.mdc.mode = .safe ∧ s.mdc.safeStationary = true)
    ∨ (s.inPhase .released = true ∧ s.followsNow = false ∧ s.free.laneFault = none)

theorem State.rests.calm {s : State} (h : s.rests) : s.calm := by
  rcases h with h | ⟨h, -⟩ | ⟨h, -, lane⟩
  · simp [State.calm, State.inHold, h]
  · simp [State.calm, State.inHold, h]
  · obtain ⟨run, phase⟩ := (inPhase_iff s _).1 h
    exact ⟨by simp [State.inHold, run, phase, Phase.isHold], fun _ => lane⟩

theorem react_rests {s : State} (before : State) (h : s.rests) : State.react before s = s := by
  rcases h with h | ⟨h, seen⟩ | ⟨h, idle, -⟩
  · simp [State.react, h]
  · simp [State.react, h, State.reactSafe, seen]
  · obtain ⟨run, phase⟩ := (inPhase_iff s _).1 h
    simp [State.react, run, State.reactRun, phase, idle]

/-- What a state at rest reads of tracker, table and records stands where these do. -/
theorem State.touches.rests {s t : State} {l : List Block} (h : s.touches t l) (hs : s.rests)
    (apart : .wmt ∉ l ∧ .pvt ∉ l ∧ .vir ∉ l) : t.rests := by
  obtain ⟨wmt, pvt, vir⟩ := apart
  have wheel : t.wmt = s.wmt := h.keeps .wmt wmt
  have table : t.pvt = s.pvt := h.keeps .pvt pvt
  have records : t.vir = s.vir := h.keeps .vir vir
  unfold State.rests State.followsNow State.inPhase State.vehicleStationary State.peersStationary State.demand
  rw [h.mdc, h.phase, h.lane, wheel, table, records]
  exact hs

/-! ## Records replaced -/

/-- The records replaced, which hands nothing on yet. -/
def State.withVir (s : State) (v : Vir) : State := { s with vir := v }

theorem withVir_touches (s : State) (v : Vir) : s.touches (s.withVir v) [.vir] := by
  refine ⟨fun b other => ?_, rfl, rfl, rfl⟩
  cases b
  case vir => simp at other
  all_goals rfl

theorem demand_of_drive {s t : State} (h : t.vir.drive = s.vir.drive) : t.demand = s.demand := by
  unfold State.demand
  rw [h]

/-- Cab and drum records are none of what a steady state rests on. -/
theorem withVir_steady {s : State} {v : Vir} (steady : s.steady) (drive : v.drive = s.vir.drive) :
    (s.withVir v).steady := by
  have demand : (s.withVir v).demand = s.demand := demand_of_drive drive
  unfold State.steady
  rw [demand]
  exact steady

/-- A new drive record leaves a steady state at rest, unless a capture behind a peer opens. -/
theorem withVir_rests {s : State} {v : Vir} (steady : s.steady)
    (shut : s.mdc.mode ≠ .run ∨ (s.withVir v).demand.isSome = true ∨ s.vehicleStationary = false) :
    (s.withVir v).rests := by
  rcases steady with m | m | ⟨released, -, lane⟩
  · exact .inl m
  · exact .inr (.inl m)
  · refine .inr (.inr ⟨released, ?_, lane⟩)
    have run : s.mdc.mode = .run := ((inPhase_iff s _).1 released).1
    rcases shut with other | demand | moving
    · exact absurd run other
    · obtain ⟨d, hd⟩ := Option.isSome_iff_exists.1 demand
      simp [State.followsNow, hd]
    · have moving : (s.withVir v).vehicleStationary = false := moving
      simp [State.followsNow, moving]

/-! ## Frames and ages as commands -/

theorem stationFrame_taken {α : Type} {s : State} {d : Option α} {x : α} (receives : s.receives = true)
    (good : d = some x) (e : Element) (take : α → State) : s.stationFrame e d take = take x := by
  simp [State.stationFrame, receives, good]

theorem exec_recordStale {s : State} {x : Station} (due : s.recordDue x = true) :
    exec (.recordStale x) s = .next (conclude s (s.staleRecord x)) := next_conclude s (if_pos due)

/-! ## The cab record (R73) -/

/-- A change of the cab record is handed to no block. -/
theorem cab_ends {s : State} (steady : s.steady) {v : Vir} (drive : v.drive = s.vir.drive) :
    Machine.conclude s (s.withVir v) = (s.withVir v).lapse.drawn :=
  conclude_fixed (react_steady s (withVir_steady steady drive))

/-- A stale cab record reads as absent but for the ignition (R73). -/
theorem cab_stale (s : State) : (s.withVir (s.vir.setStale .cab)).driverAbsent = true
    ∧ (s.withVir (s.vir.setStale .cab)).ignition = s.ignition ∧ (s.withVir (s.vir.setStale .cab)).switchAuto = true := by
  unfold State.driverAbsent State.ignition State.switchAuto State.withVir Vir.setStale
  cases s.vir.cab <;> exact ⟨rfl, rfl, rfl⟩

/-! ## The drive record (R74, R78) -/

/-- At rest the HAL alone acts on a drive record, before the HPC or after it. -/
theorem driveHandings_rests {s : State} (h : s.rests) (before : State) :
    handAll [State.halRecompute, State.react before] s = (s.ordered 2).halRecompute := by
  have chosen : (s.ordered 2).rests := (ordered_touches s 2).rests h (by decide)
  have computed := (halRecompute_touches chosen.calm).rests chosen (by decide)
  rcases handAll_two State.halRecompute (State.react before) s with e | e <;> rw [e]
  · exact react_rests before computed
  · rw [react_rests before chosen]

/-- A drive record handed on leaves the result current and nothing more to act on. -/
theorem drive_handed {s : State} {v : Vir} (h : (s.withVir v).rests) :
    ∃ t, conclude s (handAll [State.halRecompute, State.react s] (s.withVir v)) = t ∧ t.vir = v
      ∧ t.demand = (s.withVir v).demand ∧ t.resultCurrent ∧ s.keeps t [.vir, .hal, .hpc] := by
  have taken := (withVir_touches s v).trans (ordered_touches _ 2)
  have chosen : ((s.withVir v).ordered 2).rests := (ordered_touches _ 2).rests h (by decide)
  have computed := halRecompute_touches chosen.calm
  have records : ((s.withVir v).ordered 2).halRecompute.vir = v := computed.keeps .vir (by decide)
  rw [driveHandings_rests h, conclude_fixed (react_rests s (computed.rests chosen (by decide)))]
  refine ⟨_, rfl, records, ?_, ended_resultCurrent (halRecompute_resultCurrent chosen.calm),
    (taken.trans computed).keeps_ended⟩
  exact demand_of_drive (congrArg Vir.drive records)

/-- Drive demand as a fresh record gives it (R74). -/
theorem demand_of_frame (s : State) (x : DriveFields) :
    (s.withVir { s.vir with drive := some (x, { age := 0, fresh := true }) }).demand
      = if x.gear = .neutral ∨ x.force = 0 then none else some (x.gear, 10 * x.force) := by
  by_cases neutral : x.gear = .neutral
  · simp [State.demand, State.withVir, neutral]
  · by_cases still : x.force = 0
    · simp [State.demand, State.withVir, still]
    · simp [State.demand, State.withVir, neutral, still, Nat.pos_of_ne_zero still]

/-- A stale drive record is no drive demand (R74). -/
theorem demand_stale (s : State) : (s.withVir (s.vir.setStale .drive)).demand = none := by
  unfold State.demand State.withVir Vir.setStale
  cases s.vir.drive <;> simp

/-! ## The drum record (R75, R80) -/

theorem formMargin_touches (s : State) : s.touches s.formMargin [.hal] := by
  refine ⟨fun b other => ?_, rfl, rfl, rfl⟩
  cases b
  case hal => simp at other
  all_goals rfl

theorem halRecompute_margin {s : State} (h : s.calm) : s.halRecompute.hal.margin = s.hal.margin := by
  rcases halRecompute_calm h with e | ⟨r, e⟩ <;> rw [e]
  rfl

/-- A drum record handed on forms the margin, with a recomputation when it changes (R78, R80). -/
theorem drumHanded_spec {s : State} (h : s.calm) (awake : s.mdc.mode ≠ .watch) :
    s.touches s.drumHanded [.hal, .hpc]
    ∧ s.drumHanded.hal.margin = effectiveMargin s.mdc.settings s.drumCounts
    ∧ (s.drumHanded.hal.margin ≠ s.hal.margin → s.drumHanded.resultCurrent) := by
  have formed := formMargin_touches s
  unfold State.drumHanded
  rw [if_neg awake]
  split
  · rename_i same
    exact ⟨(State.touches.refl s).mono (by simp), same.symm, fun changed => absurd rfl changed⟩
  · have calm := formed.calm h
    exact ⟨(formed.trans (halRecompute_touches calm)).mono (by simp), halRecompute_margin calm,
      fun _ => halRecompute_resultCurrent calm⟩

theorem State.steady.awake {s : State} (h : s.steady) : s.mdc.mode ≠ .watch := by
  rcases h with m | ⟨m, -⟩ | ⟨released, -⟩
  · simp [m]
  · simp [m]
  · simp [((inPhase_iff s _).1 released).1]

theorem drum_handed {s : State} {v : Vir} (steady : s.steady) (drive : v.drive = s.vir.drive) :
    ∃ t, conclude s (s.withVir v).drumHanded = t ∧ t.vir = v
      ∧ t.hal.margin = effectiveMargin s.mdc.settings (s.withVir v).drumCounts
      ∧ (t.hal.margin ≠ s.hal.margin → t.resultCurrent) ∧ s.keeps t [.vir, .hal, .hpc] := by
  have still : (s.withVir v).steady := withVir_steady steady drive
  obtain ⟨touches, margin, current⟩ := drumHanded_spec still.calm still.awake
  rw [conclude_fixed (react_steady s (touches.steady still (by decide)))]
  exact ⟨_, rfl, touches.keeps .vir (by decide), margin, fun changed => ended_resultCurrent (current changed),
    ((withVir_touches s v).trans touches).keeps_ended⟩

/-- The margin as a fresh drum record gives it (R80). -/
theorem margin_of_frame (s : State) (x : DrumFields) : effectiveMargin s.mdc.settings
      (s.withVir { s.vir with drum := some (x, { age := 0, fresh := true }) }).drumCounts
    = s.mdc.settings.margin + (if 2 ≤ x.speed.natAbs ∨ x.discharge = true then s.mdc.settings.drumMargin else 0) := by
  by_cases counts : 2 ≤ x.speed.natAbs ∨ x.discharge = true
  · simp [effectiveMargin, State.drumCounts, State.withVir, counts]
  · simp [effectiveMargin, State.drumCounts, State.withVir, counts]

/-- A stale drum record counts as a turning drum (R75). -/
theorem drumCounts_stale (s : State) : (s.withVir (s.vir.setStale .drum)).drumCounts = true := by
  unfold State.drumCounts State.withVir Vir.setStale
  cases s.vir.drum <;> rfl

/-! ## The obligation -/

theorem setStale_age {v : Vir} {x : Station} {a : RecordAge} (h : (v.setStale x).age x = some a) : a.fresh = false := by
  cases x <;> simp only [Vir.setStale, Vir.age, Option.map_map, Option.map_eq_some_iff] at h <;>
    obtain ⟨r, -, rfl⟩ := h <;> rfl

/-- Settles O40: frame by frame, and station by station for the ages. -/
theorem stationRecordsAreKept : Obligations.StationRecordsAreKept := by
  refine ⟨fun s data x steady receives good => ?_, fun s data x steady receives good shut => ?_,
    fun s data x steady receives good => ?_, fun s x steady due shut => ?_⟩
  · have ended := cab_ends steady (v := { s.vir with cab := some (x, { age := 0, fresh := true }) }) rfl
    exact ⟨_, (next_conclude s (stationFrame_taken receives good .cabStation s.takeCab)).trans (congrArg _ ended), rfl,
      (withVir_touches s _).keeps_ended⟩
  · have demand := demand_of_frame s x
    have rests : (s.withVir { s.vir with drive := some (x, { age := 0, fresh := true }) }).rests := by
      refine withVir_rests steady (shut.imp_right (Or.imp_left fun ⟨gear, force⟩ => ?_))
      rw [demand, if_neg (by simp [gear, Nat.ne_of_gt force])]
      rfl
    obtain ⟨t, e, vir, asked, current, keeps⟩ := drive_handed rests
    exact ⟨t, (next_conclude s (stationFrame_taken receives good .powertrainStation s.takeDrive)).trans
      (congrArg _ e), vir, asked.trans demand, current, keeps⟩
  · obtain ⟨t, e, vir, margin, current, keeps⟩ :=
      drum_handed (v := { s.vir with drum := some (x, { age := 0, fresh := true }) }) steady rfl
    exact ⟨t, (next_conclude s (stationFrame_taken receives good .drumStation s.takeDrum)).trans (congrArg _ e),
      vir, margin.trans (margin_of_frame s x), current, keeps⟩
  · rw [exec_recordStale due]
    cases x with
    | cab =>
      have ended := cab_ends steady (v := s.vir.setStale .cab) rfl
      exact ⟨_, congrArg _ ended, rfl, fun a => setStale_age (x := .cab), nofun, nofun, fun _ => cab_stale s,
        ((withVir_touches s _).mono (by simp)).keeps_ended⟩
    | drive =>
      have rests : (s.withVir (s.vir.setStale .drive)).rests :=
        withVir_rests steady ((shut rfl).imp_right .inr)
      obtain ⟨t, e, vir, asked, current, keeps⟩ := drive_handed rests
      refine ⟨t, congrArg _ e, vir, fun a => ?_, fun _ => ⟨asked.trans (demand_stale s), current⟩, nofun, nofun, keeps⟩
      rw [vir]
      exact setStale_age
    | drum =>
      obtain ⟨t, e, vir, margin, -, keeps⟩ := drum_handed (v := s.vir.setStale .drum) steady rfl
      refine ⟨t, congrArg _ e, vir, fun a => ?_, nofun, fun _ => ?_, nofun, keeps⟩
      · rw [vir]
        exact setStale_age
      · rw [margin, drumCounts_stale]
        rfl

end Sys2Proof.Machine

/-! PROOF. The handings of a Declaration and of an entry passing to stale (R65, R66, R79): in whatever order they are made,
each part ends as the table gives it. -/

namespace Sys2Proof.Machine

/-! ## Handings in whatever order (log entry 10) -/

section
variable {I P : State → Prop} {l : List (State → State)} (keep : ∀ f ∈ l, ∀ s, I s → I (f s))
include keep

theorem inOrder_keeps {s : State} (h : I s) : I (inOrder l s) := by
  induction l generalizing s with
  | nil => exact h
  | cons f l ih =>
    exact ih (fun g hg => keep g (List.mem_cons_of_mem f hg)) (keep f List.mem_cons_self s h)

theorem handAll_keeps {s : State} (h : I (s.ordered l.length)) : I (handAll l s) :=
  inOrder_keeps (fun f hf => keep f ((permute_perm _ l).mem_iff.1 hf)) h

variable (still : ∀ f ∈ l, ∀ s, I s → P s → P (f s)) {g : State → State} (reach : ∀ s, I s → P (g s)) (hg : g ∈ l)
include still reach hg

/-- What one of the handings brings about and none takes away holds at the end. -/
theorem inOrder_reaches {s : State} (h : I s) : P (inOrder l s) := by
  induction l generalizing s with
  | nil => exact absurd hg List.not_mem_nil
  | cons f l ih =>
    have keep' : ∀ g ∈ l, ∀ s, I s → I (g s) := fun g hg => keep g (List.mem_cons_of_mem f hg)
    have still' : ∀ g ∈ l, ∀ s, I s → P s → P (g s) := fun g hg => still g (List.mem_cons_of_mem f hg)
    have after := keep f List.mem_cons_self s h
    rcases List.mem_cons.1 hg with rfl | later
    · exact (inOrder_keeps (I := fun s => I s ∧ P s) (fun f hf s hs => ⟨keep' f hf s hs.1, still' f hf s hs.1 hs.2⟩)
        ⟨after, reach s h⟩).2
    · exact ih keep' still' later after

theorem handAll_reaches {s : State} (h : I (s.ordered l.length)) : P (handAll l s) := by
  have order := permute_perm s.free.order l
  exact inOrder_reaches (fun f hf => keep f (order.mem_iff.1 hf)) (fun f hf => still f (order.mem_iff.1 hf)) reach
    (order.mem_iff.2 hg) h

end

/-! ## What creep, grade and mass read of the table -/

/-- An entry but for its declared capacity. -/
def PeerEntry.uncapped (e : PeerEntry) : PeerEntry := { e with decl := { e.decl with capacity := 0 } }

/-- Two tables differ in declared capacities alone. -/
def sameButCapacity (l m : List PeerEntry) : Prop := l.map PeerEntry.uncapped = m.map PeerEntry.uncapped

theorem takeCapacity_sameButCapacity (p : Pvt) (n c : Nat) :
    sameButCapacity p.entries (p.takeCapacity n c).entries := by
  unfold sameButCapacity Pvt.takeCapacity changeEntry
  rw [List.map_map]
  refine List.map_congr_left fun e _ => ?_
  by_cases h : e.node = n <;> simp [h, PeerEntry.uncapped]

section
variable {l m : List PeerEntry}

theorem peerCreeps_uncapped (l : List PeerEntry) : peerCreeps (l.map PeerEntry.uncapped) = peerCreeps l := by
  simp only [peerCreeps, List.filter_map, List.map_map]
  rfl

theorem candidates_uncapped (g : Glu) (l : List PeerEntry) :
    g.candidates (l.map PeerEntry.uncapped) = g.candidates l := by
  simp only [Glu.candidates, List.filter_map, List.map_map]
  rfl

theorem massOf_uncapped (g : Glu) (k : Settings) (l : List PeerEntry) :
    massOf g k (l.map PeerEntry.uncapped) = massOf g k l := by
  simp only [massOf, List.map_map, List.length_map]
  rfl

variable (h : sameButCapacity l m)
include h

theorem recompute_sameButCapacity (u : Csu) : u.recompute l = u.recompute m := by
  have creeps : peerCreeps l = peerCreeps m := by rw [← peerCreeps_uncapped l, h, peerCreeps_uncapped]
  simp only [Csu.recompute, Csu.effectiveCreep, creeps]

theorem chooseGrade_sameButCapacity (g : Glu) : g.chooseGrade l = g.chooseGrade m := by
  have values : g.candidates l = g.candidates m := by rw [← candidates_uncapped g l, h, candidates_uncapped]
  simp only [Glu.chooseGrade, values]

theorem massOf_sameButCapacity (g : Glu) (k : Settings) : massOf g k l = massOf g k m := by
  rw [← massOf_uncapped g k l, h, massOf_uncapped]

end

/-! ## Creep, grade and mass formed once and again -/

theorem recompute_again (u : Csu) (l : List PeerEntry) : (u.recompute l).recompute l = u.recompute l := by
  cases h : u.effectiveCreep l with
  | none =>
    have again : ({ u with effective := none } : Csu).effectiveCreep l = none := h
    rw [recompute_none h, recompute_none again]
  | some e =>
    have again : ({ u with effective := some e, lastEffective := e, blind := false } : Csu).effectiveCreep l = some e :=
      h
    rw [recompute_some h, recompute_some again]

/-- The GLU with a mass given. -/
def Glu.withMass (g : Glu) (x : Nat) : Glu := { g with mass := x }

@[simp] theorem Glu.withMass_mass (g : Glu) (x : Nat) : (g.withMass x).mass = x := rfl

/-- The GLU with the vehicle grade as a handing forms it: not formed while the GLU is stopped (R49). -/
def Glu.regraded (g : Glu) (l : List PeerEntry) : Glu := if g.reading then g.chooseGrade l else g

/-- The vehicle mass as a handing forms it: not formed while the GLU is stopped (R56). -/
def Glu.remassed (g : Glu) (k : Settings) (l : List PeerEntry) : Nat := if g.reading then massOf g k l else g.mass

theorem chooseGrade_candidates (g : Glu) (l m : List PeerEntry) : (g.chooseGrade l).candidates m = g.candidates m := by
  unfold Glu.chooseGrade
  dsimp only
  repeat' split
  all_goals rfl

theorem chooseGrade_mass (g : Glu) (l : List PeerEntry) : (g.chooseGrade l).mass = g.mass := by
  unfold Glu.chooseGrade
  dsimp only
  repeat' split
  all_goals rfl

theorem chooseGrade_withMass (g : Glu) (l : List PeerEntry) (x : Nat) :
    (g.withMass x).chooseGrade l = (g.chooseGrade l).withMass x := by
  have values : (g.withMass x).candidates l = g.candidates l := rfl
  have status : (g.withMass x).gradeStatus = g.gradeStatus := rfl
  unfold Glu.chooseGrade
  rw [values, status]
  dsimp only
  repeat' split
  all_goals rfl

/-- A grade chosen anew from the same candidates stays (R50). -/
theorem chooseGrade_again (g : Glu) (l : List PeerEntry) : (g.chooseGrade l).chooseGrade l = g.chooseGrade l := by
  have values := chooseGrade_candidates g l l
  by_cases empty : g.candidates l = []
  · by_cases status : g.gradeStatus = .default
    · have e := chooseGrade_default empty status
      rw [e] at values ⊢
      exact chooseGrade_default (values.trans empty) status
    · have e := chooseGrade_held empty status
      rw [e] at values ⊢
      exact chooseGrade_held (values.trans empty) (by simp)
  · have e := chooseGrade_formed empty
    rw [chooseGrade_formed (values.symm ▸ empty), values, e]

/-- The choice changes value and status of the grade alone. -/
theorem chooseGrade_same {g : Glu} {l : List PeerEntry} (value : (g.chooseGrade l).vehicleGrade = g.vehicleGrade)
    (status : (g.chooseGrade l).gradeStatus = g.gradeStatus) : g.chooseGrade l = g := by
  have only : g.chooseGrade l = { g with vehicleGrade := (g.chooseGrade l).vehicleGrade
                                         gradeStatus := (g.chooseGrade l).gradeStatus } := by
    unfold Glu.chooseGrade
    dsimp only
    repeat' split
    all_goals rfl
  rw [only, value, status]

theorem regraded_again (g : Glu) (l : List PeerEntry) : (g.regraded l).regraded l = g.regraded l := by
  cases reading : g.reading with
  | false => simp [Glu.regraded, reading]
  | true => simp [Glu.regraded, reading, chooseGrade_reading, chooseGrade_again]

theorem regraded_withMass (g : Glu) (l : List PeerEntry) (x : Nat) :
    (g.withMass x).regraded l = (g.regraded l).withMass x := by
  have reading : (g.withMass x).reading = g.reading := rfl
  unfold Glu.regraded
  rw [reading]
  split
  · exact chooseGrade_withMass g l x
  · rfl

theorem regraded_mass (g : Glu) (l : List PeerEntry) : (g.regraded l).mass = g.mass := by
  unfold Glu.regraded
  split
  · exact chooseGrade_mass g l
  · rfl

theorem regraded_reading (g : Glu) (l : List PeerEntry) : (g.regraded l).reading = g.reading := by
  unfold Glu.regraded
  split
  · exact chooseGrade_reading g l
  · rfl

theorem massOf_regraded (g : Glu) (k : Settings) (l m : List PeerEntry) :
    massOf (g.regraded l) k m = massOf g k m := by
  unfold Glu.regraded Glu.chooseGrade
  dsimp only
  repeat' split
  all_goals rfl

/-! ## The handings outside a hold -/

theorem creepRecompute_touches {s : State} (h : s.calm) :
    s.touches (s.creepRecompute false) [.csu]
      ∧ (s.creepRecompute false).csu = s.csu.recompute s.pvt.entries := by
  rw [creepRecompute_calm h.1]
  refine ⟨⟨fun b other => ?_, rfl, rfl, rfl⟩, rfl⟩
  cases b
  case csu => simp at other
  all_goals rfl

/-- Effective creep is no input of the lanes. -/
theorem creepRecompute_resultCurrent {s : State} (h : s.calm) (current : s.resultCurrent) :
    (s.creepRecompute false).resultCurrent := by
  obtain ⟨-, level⟩ := recompute_levels s.csu s.pvt.entries
  have same : ({ s with csu := s.csu.recompute s.pvt.entries } : State).laneResult = s.laneResult := by
    unfold State.laneResult
    rw [level]
    rfl
  rw [creepRecompute_calm h.1]
  exact fun released agreed => (current released agreed).trans same.symm

theorem State.handsOn.touches {s t : State} (h : s.handsOn t) : s.touches t [.glu, .hal, .hpc] := by
  obtain ⟨wmt, pvt, vir, cpr, pad, mdc, pending, phase, lane⟩ := h.stays
  refine ⟨fun b other => ?_, mdc, phase, lane⟩
  cases b
  case glu | hal | hpc => simp at other
  case wmt => exact wmt
  case csu => exact h.csu
  case pvt => exact pvt
  case vir => exact vir
  case cpr => exact cpr
  case pad => exact pad
  case sgi => exact h.sgi
  case mdc => exact congrArg Mdc.lasting mdc
  case frb => exact h.frb
  case queue => exact pending

theorem gradeRecompute_touches {s : State} (h : s.calm) :
    s.touches s.gradeRecompute [.glu, .hal, .hpc] ∧ s.gradeRecompute.glu = s.glu.regraded s.pvt.entries := by
  unfold Glu.regraded
  cases reading : s.glu.reading with
  | true => exact ⟨(gradeRecompute_handsOn h reading).touches, gradeRecompute_glu h reading⟩
  | false =>
    have idle : s.gradeRecompute = s := if_neg (by simp [reading])
    rw [idle]
    exact ⟨(State.touches.refl s).mono (by simp), rfl⟩

/-- With the grade as it stood nothing is an input anew, and with another the HAL recomputes (R49, R78). -/
theorem gradeRecompute_keeps_current {s : State} (h : s.calm) (current : s.resultCurrent) :
    s.gradeRecompute.resultCurrent := by
  cases reading : s.glu.reading with
  | false => rwa [show s.gradeRecompute = s from if_neg (by simp [reading])]
  | true =>
    by_cases same : (s.glu.chooseGrade s.pvt.entries).vehicleGrade = s.glu.vehicleGrade
        ∧ (s.glu.chooseGrade s.pvt.entries).gradeStatus = s.glu.gradeStatus
    · rw [gradeRecompute_eq reading, if_pos same, chooseGrade_same same.1 same.2]
      exact current
    · exact gradeRecompute_resultCurrent h reading (by simpa [imp_iff_not_or] using same)

theorem massRecompute_touches {s : State} (h : s.calm) : s.touches s.massRecompute [.glu, .hal, .hpc]
    ∧ s.massRecompute.glu = s.glu.withMass (s.glu.remassed s.mdc.settings s.pvt.entries) := by
  unfold Glu.remassed
  cases reading : s.glu.reading with
  | true => exact ⟨(massRecompute_handsOn h reading).touches, massRecompute_glu h reading⟩
  | false =>
    have idle : s.massRecompute = s := if_neg (by simp [reading])
    rw [idle]
    exact ⟨(State.touches.refl s).mono (by simp), rfl⟩

theorem massRecompute_keeps_current {s : State} (h : s.calm) (current : s.resultCurrent) :
    s.massRecompute.resultCurrent := by
  cases reading : s.glu.reading with
  | false => rwa [show s.massRecompute = s from if_neg (by simp [reading])]
  | true => exact massRecompute_resultCurrent h reading current

theorem handCapacity_touches {s : State} (h : s.calm) (n c : Nat) : s.touches (s.handCapacity n c) [.pvt, .hal, .hpc]
    ∧ (s.handCapacity n c).pvt = s.pvt.takeCapacity n c ∧ (s.handCapacity n c).resultCurrent := by
  have taken := withPvt_touches s (s.pvt.takeCapacity n c)
  have computed := halRecompute_touches (taken.calm h)
  exact ⟨taken.trans computed, computed.keeps .pvt (by decide), halRecompute_resultCurrent (taken.calm h)⟩

/-! ## On the way of the handings -/

/-- The GLU that the table p gives: grade and mass formed from it. -/
def State.gluFrom (u : State) (p : Pvt) : Glu :=
  (u.glu.regraded p.entries).withMass (u.glu.remassed u.mdc.settings p.entries)

/-- Between the handings that begin in u and end with the table p: table, effective creep, vehicle grade and mass each
stand as they did or as the table p gives them. -/
structure State.heads (u : State) (p : Pvt) (t : State) : Prop where
  touches : u.touches t [.pvt, .csu, .glu, .hal, .hpc]
  table : t.pvt = u.pvt ∨ t.pvt = p
  creep : t.csu = u.csu ∨ t.csu = u.csu.recompute p.entries
  grade : t.glu = u.glu.withMass t.glu.mass ∨ t.glu = (u.glu.regraded p.entries).withMass t.glu.mass
  mass : t.glu.mass = u.glu.mass ∨ t.glu.mass = u.glu.remassed u.mdc.settings p.entries

/-- A handing from s to t undoes nothing of what the table p gives. -/
structure State.advances (u : State) (p : Pvt) (s t : State) : Prop where
  heads : u.heads p t
  table : s.pvt = p → t.pvt = p
  creep : s.csu = u.csu.recompute p.entries → t.csu = u.csu.recompute p.entries
  grade : s.glu = (u.glu.regraded p.entries).withMass s.glu.mass
    → t.glu = (u.glu.regraded p.entries).withMass t.glu.mass
  mass : s.glu.mass = u.glu.remassed u.mdc.settings p.entries
    → t.glu.mass = u.glu.remassed u.mdc.settings p.entries
  current : s.resultCurrent → t.resultCurrent

theorem State.heads.start (u : State) (p : Pvt) : u.heads p u :=
  ⟨(State.touches.refl u).mono (by simp), .inl rfl, .inl rfl, .inl rfl, .inl rfl⟩

section
variable {u s : State} {p : Pvt} (calm : u.calm) (same : sameButCapacity u.pvt.entries p.entries) (h : u.heads p s)
include h

/-- A handing that does nothing. -/
theorem State.heads.idle {t : State} (e : t = s) : u.advances p s t := by
  subst e
  exact ⟨h, id, id, id, id, id⟩

/-- A handing that leaves each part as it stood, or brings it to what the table p gives. -/
theorem State.heads.advance {t : State} {l : List Block} (touches : s.touches t l)
    (inside : l ⊆ [.pvt, .csu, .glu, .hal, .hpc]) (table : t.pvt = s.pvt ∨ t.pvt = p)
    (creep : t.csu = s.csu ∨ t.csu = u.csu.recompute p.entries)
    (grade : (∀ g : Glu, s.glu = g.withMass s.glu.mass → t.glu = g.withMass t.glu.mass)
      ∨ t.glu = (u.glu.regraded p.entries).withMass t.glu.mass)
    (mass : t.glu.mass = s.glu.mass ∨ t.glu.mass = u.glu.remassed u.mdc.settings p.entries)
    (current : s.resultCurrent → t.resultCurrent) : u.advances p s t where
  heads :=
    { touches := h.touches.within (touches.mono inside)
      table := table.elim (fun e => e ▸ h.table) .inr
      creep := creep.elim (fun e => e ▸ h.creep) .inr
      grade := grade.elim (fun still => h.grade.imp (still _) (still _)) .inr
      mass := mass.elim (fun e => e ▸ h.mass) .inr }
  table := fun there => table.elim (fun e => e.trans there) id
  creep := fun there => creep.elim (fun e => e.trans there) id
  grade := fun there => grade.elim (fun still => still _ there) id
  mass := fun there => mass.elim (fun e => e.trans there) id
  current := current

include same

theorem State.heads.sameButCapacity : sameButCapacity s.pvt.entries p.entries := by
  rcases h.table with e | e <;> rw [e]
  · exact same
  · exact rfl

include calm

theorem creep_advances : u.advances p s (s.creepRecompute false)
    ∧ (s.creepRecompute false).csu = u.csu.recompute p.entries := by
  have quiet := h.touches.calm calm
  obtain ⟨touches, csu⟩ := creepRecompute_touches quiet
  have glu : (s.creepRecompute false).glu = s.glu := touches.keeps .glu (by decide)
  have formed : (s.creepRecompute false).csu = u.csu.recompute p.entries := by
    rw [csu, recompute_sameButCapacity (h.sameButCapacity same)]
    rcases h.creep with e | e <;> rw [e]
    exact recompute_again _ _
  exact ⟨h.advance touches (by simp) (.inl (touches.keeps .pvt (by decide))) (.inr formed)
    (.inl fun g e => by rwa [glu]) (.inl (congrArg Glu.mass glu)) (creepRecompute_resultCurrent quiet), formed⟩

theorem grade_advances : u.advances p s s.gradeRecompute
    ∧ s.gradeRecompute.glu = (u.glu.regraded p.entries).withMass s.gradeRecompute.glu.mass
    ∧ s.gradeRecompute.glu.mass = s.glu.mass := by
  have quiet := h.touches.calm calm
  obtain ⟨touches, glu⟩ := gradeRecompute_touches quiet
  have mass : s.gradeRecompute.glu.mass = s.glu.mass := by rw [glu, regraded_mass]
  have chosen : s.glu.regraded s.pvt.entries = s.glu.regraded p.entries := by
    simp only [Glu.regraded, chooseGrade_sameButCapacity (h.sameButCapacity same)]
  have formed : s.gradeRecompute.glu = (u.glu.regraded p.entries).withMass s.gradeRecompute.glu.mass := by
    rw [mass, glu, chosen]
    rcases h.grade with e | e
    · exact (congrArg (·.regraded p.entries) e).trans (regraded_withMass _ _ _)
    · refine (congrArg (·.regraded p.entries) e).trans ((regraded_withMass _ _ _).trans ?_)
      rw [regraded_again]
  exact ⟨h.advance touches (by simp) (.inl (touches.keeps .pvt (by decide))) (.inl (touches.keeps .csu (by decide)))
    (.inr formed) (.inl mass) (gradeRecompute_keeps_current quiet), formed, mass⟩

theorem mass_advances : u.advances p s s.massRecompute
    ∧ s.massRecompute.glu.mass = u.glu.remassed u.mdc.settings p.entries := by
  have quiet := h.touches.calm calm
  obtain ⟨touches, glu⟩ := massRecompute_touches quiet
  obtain ⟨reading, own⟩ : s.glu.reading = u.glu.reading
      ∧ massOf s.glu u.mdc.settings p.entries = massOf u.glu u.mdc.settings p.entries := by
    rcases h.grade with e | e <;> rw [e]
    · exact ⟨rfl, rfl⟩
    · exact ⟨regraded_reading _ _, massOf_regraded _ _ _ _⟩
  have formed : s.massRecompute.glu.mass = u.glu.remassed u.mdc.settings p.entries := by
    have stood := h.mass
    rw [glu, Glu.withMass_mass, Glu.remassed, h.touches.mdc, reading,
      massOf_sameButCapacity (h.sameButCapacity same), own]
    unfold Glu.remassed at stood ⊢
    cases takes : u.glu.reading with
    | true => rfl
    | false => simpa [takes] using stood
  refine ⟨h.advance touches (by simp) (.inl (touches.keeps .pvt (by decide))) (.inl (touches.keeps .csu (by decide)))
    (.inl fun g e => ?_) (.inr formed) (massRecompute_keeps_current quiet), formed⟩
  rw [glu]
  exact congrArg (·.withMass (s.glu.remassed s.mdc.settings s.pvt.entries)) e

end

end Sys2Proof.Machine

/-! PROOF. PEER_STALE, PEER_EXPIRED and LAST_ALERT_REMOVAL (R66 to R68, R70). -/

namespace Sys2Proof.Machine

theorem exec_peerStale {s : State} {n : Nat} (due : s.entryDue n (ms 60) .fresh = true) :
    exec (.peerStale n) s = .next (conclude s (handAll (staleHandings s)
      (s.withPvt (s.pvt.setFreshness n .stale)))) := next_conclude s (if_pos due)

/-- A handing of a stale entry: creep and grade follow the table as it stands, and the mass stays (R66). -/
theorem staleHanding_advances {u s before : State} (steady : u.steady) (h : u.heads u.pvt s) {f : State → State}
    (hf : f ∈ staleHandings before) : u.advances u.pvt s (f s) ∧ (f s).glu.mass = s.glu.mass := by
  simp only [staleHandings, List.mem_cons, List.not_mem_nil, or_false] at hf
  rcases hf with rfl | rfl | rfl
  · exact ⟨(creep_advances steady.calm rfl h).1, congrArg Glu.mass
      ((creepRecompute_touches (h.touches.calm steady.calm)).1.keeps .glu (by decide))⟩
  · obtain ⟨advances, -, mass⟩ := grade_advances steady.calm rfl h
    exact ⟨advances, mass⟩
  · have rest := react_steady before (h.touches.steady steady (by decide))
    exact ⟨h.idle rest, congrArg (·.glu.mass) rest⟩

/-- The handings of a stale entry, whatever their order, form creep and grade from the table and leave the mass. -/
theorem staleHandings_end {u s before : State} (steady : u.steady) (chosen : s.ordered 3 = u) :
    ∃ t, handAll (staleHandings before) s = t ∧ u.touches t [.csu, .glu, .hal, .hpc]
    ∧ t.csu = u.csu.recompute u.pvt.entries ∧ t.glu = u.glu.regraded u.pvt.entries ∧ t.glu.mass = u.glu.mass := by
  have start : u.heads u.pvt (s.ordered 3) ∧ (s.ordered 3).glu.mass = u.glu.mass := by
    rw [chosen]
    exact ⟨.start u u.pvt, rfl⟩
  have keep : ∀ f ∈ staleHandings before, ∀ t, u.heads u.pvt t ∧ t.glu.mass = u.glu.mass →
      u.heads u.pvt (f t) ∧ (f t).glu.mass = u.glu.mass := fun f hf t ht =>
    have made := staleHanding_advances steady ht.1 hf
    ⟨made.1.heads, made.2.trans ht.2⟩
  obtain ⟨heads, mass⟩ := handAll_keeps keep start
  have creep := handAll_reaches (P := fun t => t.csu = u.csu.recompute u.pvt.entries) keep
    (fun f hf t ht => (staleHanding_advances steady ht.1 hf).1.creep)
    (fun t ht => (creep_advances steady.calm rfl ht.1).2) (by simp [staleHandings]) start
  have grade := handAll_reaches (P := fun t => t.glu = (u.glu.regraded u.pvt.entries).withMass t.glu.mass) keep
    (fun f hf t ht => (staleHanding_advances steady ht.1 hf).1.grade)
    (fun t ht => (grade_advances steady.calm rfl ht.1).2.1) (by simp [staleHandings]) start
  have table : (handAll (staleHandings before) s).pvt = u.pvt := heads.table.elim id id
  refine ⟨_, rfl, heads.touches.without .pvt table, creep, grade.trans ?_, mass⟩
  rw [mass, ← regraded_mass u.glu u.pvt.entries]
  rfl

theorem stale_in_steady {s : State} {n : Nat} (steady : s.steady) (due : s.entryDue n (ms 60) .fresh = true) :
    ∃ t, exec (.peerStale n) s = .next t ∧ t.pvt = s.pvt.setFreshness n .stale
      ∧ t.csu = s.csu.recompute t.pvt.entries
      ∧ (t.glu = if s.glu.reading then s.glu.chooseGrade t.pvt.entries else s.glu) ∧ t.glu.mass = s.glu.mass
      ∧ s.keeps t [.pvt, .csu, .glu, .hal, .hpc] := by
  have aged := (withPvt_touches s (s.pvt.setFreshness n .stale)).trans (ordered_touches _ 3)
  obtain ⟨t, e, touches, csu, glu, mass⟩ := staleHandings_end (before := s) (aged.steady steady (by decide)) rfl
  have table : t.pvt = s.pvt.setFreshness n .stale := touches.keeps .pvt (by decide)
  have whole := aged.trans touches
  rw [exec_peerStale due, e, whole.conclude steady (by decide)]
  refine ⟨_, rfl, table, ?_, ?_, mass, whole.keeps_ended⟩
  · show t.csu = s.csu.recompute t.pvt.entries
    rw [table]
    exact csu
  · show t.glu = if s.glu.reading then s.glu.chooseGrade t.pvt.entries else s.glu
    rw [table]
    exact glu

/-- Settles O38: one row at a time. -/
theorem peerAgesAreHandedOn : Obligations.PeerAgesAreHandedOn :=
  ⟨fun _ _ => stale_in_steady, fun _ _ => expired_in_steady, fun _ _ => expired_in_secured, fun _ _ => alert_removed⟩

end Sys2Proof.Machine

/-! PROOF. An accepted Declaration (R61, R63 to R65): its entry, its report, and its handings. -/

namespace Sys2Proof.Machine

/-! ## The entry (R63, R64) -/

theorem entryFor_node {n : Nat} {l : List PeerEntry} {e : PeerEntry} (h : entryFor n l = some e) : e.node = n := by
  simpa [entryFor] using List.find?_some h

section
variable (change : PeerEntry → PeerEntry) (node : ∀ e, (change e).node = e.node) (n m : Nat) (l : List PeerEntry)
include node

theorem entryFor_changeEntry :
    entryFor m (changeEntry n change l) = (entryFor m l).map (fun e => if e.node = n then change e else e) := by
  unfold entryFor changeEntry
  rw [List.find?_map]
  congr 2
  funext e
  show ((if e.node = n then change e else e).node == m) = (e.node == m)
  split
  · rw [node]
  · rfl

theorem entryFor_changeEntry_same : entryFor n (changeEntry n change l) = (entryFor n l).map change := by
  rw [entryFor_changeEntry change node]
  exact Option.map_congr fun e he => if_pos (entryFor_node he)

theorem entryFor_changeEntry_other (other : m ≠ n) : entryFor m (changeEntry n change l) = entryFor m l := by
  rw [entryFor_changeEntry change node]
  refine (Option.map_congr fun e he => if_neg ?_).trans Option.map_id'
  rw [entryFor_node he]
  exact other

end

theorem entryFor_insertEntry_same {e : PeerEntry} {l : List PeerEntry} (absent : entryFor e.node l = none) :
    entryFor e.node (insertEntry e l) = some e := by
  induction l with
  | nil => simp [entryFor, insertEntry]
  | cons f l ih =>
    obtain ⟨other, rest⟩ : f.node ≠ e.node ∧ entryFor e.node l = none := by
      simpa [entryFor] using absent
    rw [insertEntry]
    split
    · simp [entryFor]
    · simpa [entryFor, other] using ih rest

theorem entryFor_insertEntry_other {e : PeerEntry} {m : Nat} (other : m ≠ e.node) (l : List PeerEntry) :
    entryFor m (insertEntry e l) = entryFor m l := by
  induction l with
  | nil => simp [entryFor, insertEntry, other.symm]
  | cons f l ih =>
    rw [insertEntry]
    split
    · simp [entryFor, other.symm]
    · by_cases here : f.node = m
      · simp [entryFor, here]
      · simpa [entryFor, here] using ih

section
variable (p : Pvt) (n : Nat) (d : Declared)

theorem take_entry : entryFor n (p.take n d).entries
    = some ((entryFor n p.entries).elim (PeerEntry.created n d) fun e => e.updated d) := by
  unfold Pvt.take
  split
  · rename_i absent
    rw [absent]
    exact entryFor_insertEntry_same (e := PeerEntry.created n d) absent
  · rename_i e held
    rw [held]
    exact (entryFor_changeEntry_same (fun e => e.updated d) (fun _ => rfl) n _).trans (congrArg _ held)

theorem take_other {m : Nat} (other : m ≠ n) : entryFor m (p.take n d).entries = entryFor m p.entries := by
  unfold Pvt.take
  split
  · exact entryFor_insertEntry_other (e := PeerEntry.created n d) other _
  · exact entryFor_changeEntry_other (fun e => e.updated d) (fun _ => rfl) n m _ other

/-- An entry with its declared capacity replaced. -/
def PeerEntry.withCapacity (e : PeerEntry) (c : Nat) : PeerEntry := { e with decl := { e.decl with capacity := c } }

theorem takeCapacity_entries (c : Nat) :
    (p.takeCapacity n c).entries = changeEntry n (fun e => e.withCapacity c) p.entries := rfl

/-- The table after a Declaration, its capacity handed over (R63 to R65). -/
def Pvt.declaredBy : Pvt := (p.take n { d with capacity := p.summed n }).takeCapacity n d.capacity

theorem declaredBy_entry : entryFor n (p.declaredBy n d).entries = some
    { node := n, decl := d, age := 0, freshness := .fresh
      creepSteady := (entryFor n p.entries).elim false
        (fun e => e.freshness != .expired && e.decl.creepValid && d.creepValid && e.decl.creep == d.creep)
      lastAlert := (entryFor n p.entries).bind PeerEntry.lastAlert } := by
  rw [Pvt.declaredBy, takeCapacity_entries,
    entryFor_changeEntry_same (fun e => e.withCapacity d.capacity) (fun _ => rfl), take_entry]
  cases held : entryFor n p.entries with
  | none => rfl
  | some e =>
    obtain rfl : e.node = n := entryFor_node held
    rfl

theorem declaredBy_other {m : Nat} (other : m ≠ n) :
    entryFor m (p.declaredBy n d).entries = entryFor m p.entries := by
  rw [Pvt.declaredBy, takeCapacity_entries,
    entryFor_changeEntry_other (fun e => e.withCapacity d.capacity) (fun _ => rfl) n m _ other, take_other p n _ other]

end

theorem takeCapacity_again (p : Pvt) (n c : Nat) : (p.takeCapacity n c).takeCapacity n c = p.takeCapacity n c := by
  unfold Pvt.takeCapacity changeEntry
  simp only [List.map_map]
  congr 1
  refine List.map_congr_left fun e _ => ?_
  by_cases h : e.node = n <;> simp [h]

/-! ## The report of a creation (R63) -/

/-- The mark of the expected-count report (R71). -/
def State.countMarked (s : State) : State := s.withPvt { s.pvt with expectedReported := true }

theorem creationReport_eq (s : State) (n : Nat) : s.creationReport n =
    if s.exceedsExpected then s.countMarked.report (expectedReport n) else s := rfl

/-- A creation beyond the expected count is reported, and the table else left (R63). -/
theorem creationReport_spec {s : State} (calm : s.calm) (n : Nat) :
    s.touches (s.creationReport n) [.pvt, .hal, .hpc, .sgi, .frb] ∧ (s.creationReport n).pvt.entries = s.pvt.entries
    ∧ (s.creationReport n).frb = { s.frb with
        banks := if s.exceedsExpected then s.frb.banks.store .node (s.complete (expectedReport n))
          else s.frb.banks } := by
  rw [creationReport_eq]
  split
  · have marked : s.touches s.countMarked [.pvt] := withPvt_touches s _
    have mild : (expectedReport n).severity ≠ .severe := by simp [expectedReport, plainReport]
    obtain ⟨told, frb⟩ := report_touches (marked.calm calm) (secondSevere_mild (s := s.countMarked) mild)
    have table : (s.countMarked.report (expectedReport n)).pvt = s.countMarked.pvt := told.keeps .pvt (by decide)
    refine ⟨marked.trans told, (congrArg Pvt.entries table).trans rfl, frb.trans ((storeReport_mild mild).trans ?_)⟩
    rw [marked.complete]
    rfl
  · exact ⟨(State.touches.refl s).mono (by simp), rfl, rfl⟩

/-- The table with the Declaration entered, but for its capacity. -/
def State.entered (s : State) (n : Nat) (d : Declared) : State :=
  s.withPvt (s.pvt.take n { d with capacity := s.pvt.summed n })

theorem tabled_eq (s : State) (n : Nat) (d : Declared) : s.tabled n d =
    if (entryFor n s.pvt.entries).isNone then (s.entered n d).creationReport n else s.entered n d := rfl

/-- The table with the Declaration, and the report of a creation beyond the expected count. -/
theorem tabled_spec {s : State} (calm : s.calm) (n : Nat) (d : Declared) :
    s.touches (s.tabled n d) [.pvt, .hal, .hpc, .sgi, .frb]
    ∧ (s.tabled n d).pvt.entries = (s.entered n d).pvt.entries
    ∧ (s.tabled n d).frb = { s.frb with
        banks := if (entryFor n s.pvt.entries).isNone && s.mdc.settings.nExp - 1 < (s.tabled n d).pvt.entries.length
          then s.frb.banks.store .node (s.complete (expectedReport n)) else s.frb.banks } := by
  have taken : s.touches (s.entered n d) [.pvt] := withPvt_touches s _
  rw [tabled_eq]
  cases created : (entryFor n s.pvt.entries).isNone with
  | false => exact ⟨taken.mono (by simp), rfl, rfl⟩
  | true =>
    obtain ⟨told, entries, frb⟩ := creationReport_spec (taken.calm calm) n
    rw [if_pos rfl, entries]
    refine ⟨(taken.trans told).mono (by simp), rfl, frb.trans ?_⟩
    rw [taken.complete, Bool.true_and]
    rfl

/-! ## The handings (R65) -/

/-- The capacity handed over, before which the table stood as u left it. -/
theorem capacity_advances {u s : State} (calm : u.calm) (n c : Nat) (h : u.heads (u.pvt.takeCapacity n c) s) :
    u.advances (u.pvt.takeCapacity n c) s (s.handCapacity n c)
      ∧ (s.handCapacity n c).pvt = u.pvt.takeCapacity n c ∧ (s.handCapacity n c).resultCurrent := by
  obtain ⟨touches, table, current⟩ := handCapacity_touches (h.touches.calm calm) n c
  have glu : (s.handCapacity n c).glu = s.glu := touches.keeps .glu (by decide)
  have taken : (s.handCapacity n c).pvt = u.pvt.takeCapacity n c := by
    rw [table]
    rcases h.table with e | e <;> rw [e]
    exact takeCapacity_again _ _ _
  exact ⟨h.advance touches (by simp) (.inr taken) (.inl (touches.keeps .csu (by decide)))
    (.inl fun g e => by rwa [glu]) (.inl (congrArg Glu.mass glu)) fun _ => current, taken, current⟩

section
variable {u : State} {n c : Nat} {before : State} (steady : u.steady)
include steady

theorem declarationHanding_advances {s : State} (h : u.heads (u.pvt.takeCapacity n c) s) {f : State → State}
    (hf : f ∈ declarationHandings before n c) : u.advances (u.pvt.takeCapacity n c) s (f s) := by
  have same := takeCapacity_sameButCapacity u.pvt n c
  have quiet := h.touches.steady steady (by decide)
  simp only [declarationHandings, List.mem_cons, List.not_mem_nil, or_false] at hf
  rcases hf with rfl | rfl | rfl | rfl | rfl | rfl
  · exact (creep_advances steady.calm same h).1
  · exact h.idle (by simp [State.mergeLevel, quiet.calm.1])
  · exact (grade_advances steady.calm same h).1
  · exact (mass_advances steady.calm same h).1
  · exact (capacity_advances steady.calm n c h).1
  · exact h.idle (react_steady before quiet)

/-- Handings that begin in u, whatever their order, end with everything as the table with the capacity gives it. -/
theorem declarationHandings_end {s : State} (chosen : s.ordered 6 = u) :
    ∃ t, handAll (declarationHandings before n c) s = t
    ∧ u.touches t [.pvt, .csu, .glu, .hal, .hpc] ∧ t.pvt = u.pvt.takeCapacity n c
    ∧ t.csu = u.csu.recompute t.pvt.entries ∧ t.glu = u.gluFrom t.pvt ∧ t.resultCurrent := by
  let p := u.pvt.takeCapacity n c
  have same : sameButCapacity u.pvt.entries p.entries := takeCapacity_sameButCapacity u.pvt n c
  have start : u.heads p (s.ordered 6) := chosen ▸ .start u p
  have advance : ∀ f ∈ declarationHandings before n c, ∀ t, u.heads p t → u.advances p t (f t) :=
    fun f hf t ht => declarationHanding_advances steady ht hf
  have keep : ∀ f ∈ declarationHandings before n c, ∀ t, u.heads p t → u.heads p (f t) :=
    fun f hf t ht => (advance f hf t ht).heads
  have heads := handAll_keeps keep start
  have table := handAll_reaches (P := fun t => t.pvt = p) keep (fun f hf t ht => (advance f hf t ht).table)
    (fun t ht => (capacity_advances steady.calm n c ht).2.1) (by simp [declarationHandings]) start
  have creep := handAll_reaches (P := fun t => t.csu = u.csu.recompute p.entries) keep
    (fun f hf t ht => (advance f hf t ht).creep) (fun t ht => (creep_advances steady.calm same ht).2)
    (by simp [declarationHandings]) start
  have grade := handAll_reaches (P := fun t => t.glu = (u.glu.regraded p.entries).withMass t.glu.mass) keep
    (fun f hf t ht => (advance f hf t ht).grade) (fun t ht => (grade_advances steady.calm same ht).2.1)
    (by simp [declarationHandings]) start
  have mass := handAll_reaches (P := fun t => t.glu.mass = u.glu.remassed u.mdc.settings p.entries) keep
    (fun f hf t ht => (advance f hf t ht).mass) (fun t ht => (mass_advances steady.calm same ht).2)
    (by simp [declarationHandings]) start
  have current := handAll_reaches (P := State.resultCurrent) keep (fun f hf t ht => (advance f hf t ht).current)
    (fun t ht => (capacity_advances steady.calm n c ht).2.2) (by simp [declarationHandings]) start
  refine ⟨_, rfl, heads.touches, table, ?_, ?_, current⟩
  · rw [table]
    exact creep
  · rw [table, grade, mass]
    rfl

end

/-- Grade and mass are formed from the table where the GLU takes readings. -/
theorem gluFrom_eq (u : State) (p : Pvt) : u.gluFrom p = if u.glu.reading then
    { u.glu.chooseGrade p.entries with mass := massOf u.glu u.mdc.settings p.entries } else u.glu := by
  unfold State.gluFrom Glu.regraded Glu.remassed
  split <;> rfl

/-! ## The obligation -/

theorem exec_declaration {s : State} {n : Nat} {data : List Byte} {d : Declared} (takes : s.takesFrom n = true)
    (peer : n ≠ s.number) (good : decodeDeclaration data = some d) : exec (.declaration n data) s
      = .next (conclude s (handAll (declarationHandings s n d.capacity) (s.tabled n d))) := by
  show execDeclaration n data s = _
  simp [execDeclaration, State.declarationArrives, takes, good, State.declare, peer]

/-- Settles O36: the entry and its report, then the handings, each of which only brings its part to what the table
gives. -/
theorem declarationEntersTable : Obligations.DeclarationEntersTable := by
  intro s n data d steady takes peer good
  obtain ⟨entered, entries, frb⟩ := tabled_spec steady.calm n d
  have begun := entered.trans (ordered_touches (s.tabled n d) 6)
  have quiet : ((s.tabled n d).ordered 6).steady := begun.steady steady (by decide)
  obtain ⟨t, e, touches, table, csu, glu, current⟩ :=
    declarationHandings_end (n := n) (c := d.capacity) (before := s) quiet rfl
  have whole := (begun.trans touches).mono (m := [.pvt, .csu, .glu, .hal, .hpc, .sgi, .frb]) (by simp)
  have rows : t.pvt.entries = (s.pvt.declaredBy n d).entries := by
    rw [table]
    exact congrArg (changeEntry n _) entries
  have count : t.pvt.entries.length = (s.tabled n d).pvt.entries.length := by
    rw [table]
    exact List.length_map _
  have ownCsu : (s.tabled n d).csu = s.csu := entered.keeps .csu (by decide)
  have ownGlu : (s.tabled n d).glu = s.glu := entered.keeps .glu (by decide)
  have banks : t.frb = (s.tabled n d).frb := touches.keeps .frb (by decide)
  rw [exec_declaration takes peer good, e, whole.conclude steady (by decide)]
  refine ⟨_, rfl, ?_, fun m other => ?_, ?_, ?_, ended_resultCurrent current, ?_, whole.keeps_ended⟩
  · show entryFor n t.pvt.entries = _
    rw [rows, declaredBy_entry]
  · show entryFor m t.pvt.entries = _
    rw [rows, declaredBy_other _ _ _ other]
  · show t.csu = s.csu.recompute t.pvt.entries
    rw [csu, ← ownCsu]
    rfl
  · refine glu.trans ((gluFrom_eq _ _).trans ?_)
    rw [show ((s.tabled n d).ordered 6).glu = s.glu from ownGlu, begun.mdc]
    rfl
  · refine (banks.trans frb).trans ?_
    rw [← count]
    rfl

end Sys2Proof.Machine

/-! PROOF. The integer ceiling of the hold computation (spec/05: R81, R86, R88, R91, R92), and stages 4 and 5 from it. -/

namespace Sys2Proof.Machine

/-! ## The ceiling -/

theorem ceilDiv_le_iff {a b n : Nat} (pos : 0 < b) : ceilDiv a b ≤ n ↔ a ≤ n * b := by
  rw [Nat.mul_comm]
  exact ceilDiv_le_iff_le_mul pos

/-- The ceiling of a quotient is the least whole number at or above it. -/
theorem ceilDiv_isLeast (a : Nat) {b : Nat} (pos : 0 < b) : IsLeast {n | a ≤ n * b} (ceilDiv a b) :=
  ⟨(ceilDiv_le_iff pos).1 le_rfl, fun _ above => (ceilDiv_le_iff pos).2 above⟩

theorem div_isGreatest (a : Nat) {b : Nat} (pos : 0 < b) : IsGreatest {n | n * b ≤ a} (a / b) :=
  ⟨Nat.div_mul_le_self a b, fun _ below => (Nat.le_div_iff_mul_le pos).2 below⟩

/-! ## Grade magnitude and stage 4 (R81) -/

theorem gradeMagnitude_default {g : Glu} (h : g.gradeStatus = .default) : g.gradeMagnitude = 250 := by
  simp [Glu.gradeMagnitude, h]

theorem gradeMagnitude_known {g : Glu} (h : g.gradeStatus ≠ .default) :
    g.gradeMagnitude = g.vehicleGrade.natAbs := by
  simp [Glu.gradeMagnitude, h]

/-- The largest product of the ranges stays under the cap (R81). -/
theorem force_in_range {mass grade margin : Nat} (m : mass ≤ 200000) (g : grade ≤ 400) (k : margin ≤ 250) :
    ceilDiv (mass * grade * 981 * margin) 10000000 ≤ 1962000 := by
  refine (ceilDiv_le_iff (by decide)).2 ?_
  calc mass * grade * 981 * margin ≤ 200000 * 400 * 981 * 250 := by gcongr
    _ = 1962000 * 10000000 := by norm_num

theorem requiredForce_flat (mass margin : Nat) : requiredForce mass 0 margin = 0 := by
  simp [requiredForce, ceilDiv]

/-! ## Stage 5 (R82, R83) -/

theorem laneResult_cOwn (s : State) : s.laneResult.cOwn
    = if s.capacityForced then 0 else min s.laneResult.traction s.laneResult.brake := rfl

theorem cOwn_le_traction (s : State) : s.laneResult.cOwn ≤ s.laneResult.traction := by
  rw [laneResult_cOwn]
  split
  · exact Nat.zero_le _
  · exact min_le_left _ _

theorem cOwn_le_brake (s : State) : s.laneResult.cOwn ≤ s.laneResult.brake := by
  rw [laneResult_cOwn]
  split
  · exact Nat.zero_le _
  · exact min_le_right _ _

theorem traction_in_range {load friction : Nat} (l : load ≤ 25000) (f : friction ≤ 90) :
    tractionLimit load friction ≤ 220725 := by
  have product : load * 981 * friction ≤ 25000 * 981 * 90 := by gcongr
  exact (Nat.div_le_div_right product).trans (by norm_num)

theorem pPush_le_pMax {c : Settings} (ok : c.ok) : c.pPush ≤ c.pMax := by
  obtain ⟨-, -, -, pMax, pPush, -⟩ := ok
  omega

theorem brakeLimit_add {c : Settings} (ok : c.ok) : brakeLimit c + c.gain * c.pPush = c.gain * c.pMax := by
  rw [brakeLimit, ← Nat.mul_add, Nat.sub_add_cancel (pPush_le_pMax ok)]

theorem brakeLimit_bounds {c : Settings} (ok : c.ok) : 6000 ≤ brakeLimit c ∧ brakeLimit c ≤ 360000 := by
  obtain ⟨-, -, ⟨gainLow, gainHigh⟩, pMax, pPush, -⟩ := ok
  have low : 300 ≤ c.pMax - c.pPush := by omega
  have high : c.pMax - c.pPush ≤ 900 := by omega
  exact ⟨Nat.mul_le_mul gainLow low, Nat.mul_le_mul gainHigh high⟩

/-! ## A frozen set stays (R188) -/

/-- The set is frozen with these settings. -/
def State.frozenAt (k : Settings) (s : State) : Prop := s.mdc.frozen = true ∧ s.mdc.settings = k

theorem reconciled_of_ordered {k : Settings} (h : k.noticeThreshold + k.escalateInterval ≤ k.breachThreshold) :
    k.reconciled = k := if_neg (by omega)

/-- Every elementary move but a power-on keeps a frozen set that needs no reconciliation. -/
theorem Move.keeps_frozenAt {c : Instr} {k : Settings} (stays : powersOn c = false) (settled : k.reconciled = k)
    (s t : State) (m : Move c s t) (h : s.frozenAt k) : t.frozenAt k := by
  obtain ⟨frozen, same⟩ := h
  cases m with
  | mdc m hm hs hc hw hf => exact ⟨hf.trans frozen, hc.trans same⟩
  | settings g b2 b3 b4 b5 b6 b7 hm => simp [State.windowOpen, frozen] at hm
  | reconcile hm => exact ⟨frozen, (congrArg Settings.reconciled same).trans settled⟩
  | freeze => exact ⟨rfl, same⟩
  | power num0 num1 num2 spring pol key h => simp [h, powersOn] at stays
  | alert | declaration | rouse | owedReply | reply | record | safe =>
    exact ⟨by simpa [State.safeMode] using frozen, by simpa [State.safeMode] using same⟩
  | _ => exact ⟨frozen, same⟩

/-- No command but a power-on changes the settings of a frozen set. -/
theorem exec_frozen_settings {c : Instr} {s t : State} (stays : powersOn c = false) (ok : s.settingsOk)
    (frozen : s.mdc.frozen = true) (h : exec c s = .next t) : t.mdc.settings = s.mdc.settings := by
  obtain ⟨-, ordered, -⟩ := ok
  obtain ⟨u, hu, moves⟩ := exec_moves c s
  obtain rfl : u = t := by simpa [hu] using h
  exact (moves.keeps (Move.keeps_frozenAt stays (reconciled_of_ordered (ordered frozen))) ⟨frozen, rfl⟩).2

/-- Settles O15: the ceiling and the floor by what a quotient rounded up or down is, the bounds by the ends of the
ranges, and the brake limit as a function of settings that are frozen. -/
theorem forceAndCapacityRule : Obligations.ForceAndCapacityRule := by
  refine ⟨fun s => ⟨_, ceilDiv_isLeast _ (by decide), rfl, force_in_range, gradeMagnitude_default,
    gradeMagnitude_known, fun flat => ?_⟩, fun s ok => ?_, fun c s t stays ok frozen h => ?_⟩
  · show requiredForce s.glu.mass s.glu.gradeMagnitude s.hal.margin = 0
    rw [flat, requiredForce_flat]
  · have traction (load : s.glu.ownLoad ≤ 25000) : s.laneResult.traction ≤ 220725 := by
      obtain ⟨-, -, -, -, -, -, ⟨-, friction⟩, -⟩ := ok
      exact traction_in_range load friction
    obtain ⟨low, high⟩ := brakeLimit_bounds ok
    refine ⟨div_isGreatest _ (by decide), brakeLimit_add ok, low, high, fun forced => ?_, fun free => ?_,
      fun load => ⟨traction load, (cOwn_le_traction s).trans (traction load)⟩⟩
    · rw [laneResult_cOwn, if_pos forced]
    · rw [laneResult_cOwn, free, if_neg Bool.false_ne_true]
  · exact congrArg brakeLimit (exec_frozen_settings stays ok frozen h)

end Sys2Proof.Machine

/-! PROOF. Stages 6 and 7 (R85, R86): the capacity sum over the table and the own share of the force. -/

namespace Sys2Proof.Machine

/-! ## Stage 6 (R85) -/

theorem capacity_expired {e : PeerEntry} (h : e.freshness = .expired) : e.capacity = 0 := if_pos h

theorem capacity_heard {e : PeerEntry} (h : e.freshness ≠ .expired) : e.capacity = 10 * e.decl.capacity := if_neg h

/-- The sum counts ten times the declared capacity of the entries that are not expired. -/
theorem capacitySum_eq (own : Nat) (l : List PeerEntry) : capacitySum own l
    = own + 10 * ((l.filter (fun e => e.freshness != .expired)).map (fun e => e.decl.capacity)).sum := by
  unfold capacitySum
  congr 1
  induction l with
  | nil => rfl
  | cons e l ih =>
    by_cases h : e.freshness = .expired
    · simp [capacity_expired h, h, ih]
    · simp [capacity_heard h, h, ih, Nat.mul_add]

theorem capacitySum_cons (own : Nat) (e : PeerEntry) (l : List PeerEntry) :
    capacitySum own (e :: l) = e.capacity + capacitySum own l := by
  simp [capacitySum, Nat.add_left_comm]

theorem changeEntry_cons (n : Nat) (change : PeerEntry → PeerEntry) (e : PeerEntry) (l : List PeerEntry) :
    changeEntry n change (e :: l) = (if e.node = n then change e else e) :: changeEntry n change l := rfl

/-- A change of the entries for a node number that leaves each one's capacity leaves the sum. -/
theorem capacitySum_changeEntry {n : Nat} {change : PeerEntry → PeerEntry} {l : List PeerEntry} (own : Nat)
    (h : ∀ e ∈ l, e.node = n → (change e).capacity = e.capacity) :
    capacitySum own (changeEntry n change l) = capacitySum own l := by
  unfold capacitySum changeEntry
  rw [List.map_map]
  congr 2
  refine List.map_congr_left fun e he => ?_
  dsimp only [Function.comp]
  split
  · rename_i same
    exact h e he same
  · rfl

/-- Entries passing from stale to expired take their declared capacity from the sum. -/
theorem capacitySum_expired {n : Nat} {l : List PeerEntry} (own : Nat)
    (h : ∀ e ∈ l, e.node = n → e.freshness = .stale) :
    capacitySum own (changeEntry n (fun e => { e with freshness := .expired }) l)
      + 10 * ((l.filter (fun e => e.node == n)).map (fun e => e.decl.capacity)).sum = capacitySum own l := by
  induction l with
  | nil => rfl
  | cons e l ih =>
    have rest := ih fun f hf => h f (List.mem_cons_of_mem e hf)
    rw [changeEntry_cons, capacitySum_cons, capacitySum_cons]
    by_cases same : e.node = n
    · have heard : e.freshness ≠ .expired := by simp [h e List.mem_cons_self same]
      simp only [same, if_true, capacity_expired, capacity_heard heard, beq_self_eq_true, List.filter_cons_of_pos,
        List.map_cons, List.sum_cons]
      omega
    · simp only [same, if_false, beq_iff_eq, not_false_eq_true, List.filter_cons_of_neg]
      omega

/-! ## Stage 7 (R86) -/

theorem cOwn_le_sumC (s : State) : s.laneResult.cOwn ≤ s.laneResult.sumC := Nat.le_add_right _ _

theorem ownShare_le (force own sum : Nat) : ownShare force own sum ≤ own := by
  unfold ownShare
  split
  · exact Nat.zero_le own
  · exact min_le_left _ _

theorem ownShare_pos {sum : Nat} (force own : Nat) (pos : 0 < sum) :
    ownShare force own sum = min own (ceilDiv (force * own) sum) := if_neg (Nat.ne_of_gt pos)

theorem insufficiency_iff {force sum : Nat} (pos : 0 < sum) : insufficiency force sum = true ↔ sum < force := by
  simp [insufficiency, Nat.ne_of_gt pos]

/-- With more force than capacity the proportional share reaches the own capacity. -/
theorem ownShare_short {force own sum : Nat} (part : own ≤ sum) (short : sum < force) :
    ownShare force own sum = own := by
  rcases Nat.eq_zero_or_pos sum with none | pos
  · have nothing : own = 0 := by omega
    exact Nat.le_antisymm (ownShare_le _ _ _) (nothing ▸ Nat.zero_le _)
  · rw [ownShare_pos force own pos]
    refine min_eq_left (Nat.le_of_mul_le_mul_right ?_ pos)
    calc own * sum ≤ own * force := by gcongr
      _ = force * own := Nat.mul_comm own force
      _ ≤ ceilDiv (force * own) sum * sum := (ceilDiv_isLeast _ pos).1

/-- Settles O16: the sum entry by entry, and the share as the smaller of the own capacity and the rounded-up part. -/
theorem capacitySumAndShareRule : Obligations.CapacitySumAndShareRule := by
  refine ⟨capacitySum_eq, fun own => rfl, fun own n p fresh => capacitySum_changeEntry own fun e he same => ?_,
    fun own n p stale => capacitySum_expired own stale, fun s => ⟨rfl, fun none => ?_, fun pos => ?_, ownShare_le _ _ _,
      ownShare_short (cOwn_le_sumC s), fun none => Nat.le_zero.1 (none ▸ ownShare_le _ _ _)⟩⟩
  · rw [capacity_heard (by simp), capacity_heard (by simp [fresh e he same])]
  · exact ⟨if_pos none, by simp [State.laneResult, insufficiency, show capacitySum _ _ = 0 from none]⟩
  · exact ⟨⟨_, ceilDiv_isLeast _ pos, ownShare_pos _ _ pos⟩, insufficiency_iff pos⟩

end Sys2Proof.Machine

/-! PROOF. Stages 8 and 10 (R88, R91, R92): the pressure of a share, the computed pressure and the release result. -/

namespace Sys2Proof.Machine

/-! ## The pressure of a share (R88, R92) -/

theorem sharePressure_zero (c : Settings) {share : Nat} (h : share = 0) : sharePressure c share = 0 := if_pos h

theorem sharePressure_pos (c : Settings) {share : Nat} (h : 0 < share) :
    sharePressure c share = c.pPush + ceilDiv share c.gain := if_neg (Nat.ne_of_gt h)

theorem gain_pos {c : Settings} (ok : c.ok) : 0 < c.gain := by
  obtain ⟨-, -, ⟨low, -⟩, -⟩ := ok
  omega

/-- A share within the brake limit asks for at most P_max. -/
theorem sharePressure_le_pMax {c : Settings} {share : Nat} (ok : c.ok) (h : share ≤ brakeLimit c) :
    sharePressure c share ≤ c.pMax := by
  rcases Nat.eq_zero_or_pos share with none | pos
  · rw [sharePressure_zero c none]
    exact Nat.zero_le _
  · have rise : ceilDiv share c.gain ≤ c.pMax - c.pPush :=
      (ceilDiv_le_iff (gain_pos ok)).2 (by rwa [Nat.mul_comm])
    have room := pPush_le_pMax ok
    rw [sharePressure_pos c pos]
    omega

/-- The pressure of a share above 0 is the pushout pressure and the least rise that gives the share. -/
theorem sharePressure_rise {c : Settings} {share : Nat} (ok : c.ok) (pos : 0 < share) :
    ∃ q, sharePressure c share = c.pPush + q ∧ IsLeast {n : Nat | share ≤ n * c.gain} q :=
  ⟨_, sharePressure_pos c pos, ceilDiv_isLeast share (gain_pos ok)⟩

/-! ## Stage 8 (R88) -/

theorem share_le_brake (s : State) : s.laneResult.share ≤ brakeLimit s.mdc.settings :=
  (ownShare_le _ _ _).trans (cOwn_le_brake s)

/-- Settles O17: the base is the pressure of the own share, which lies within the brake limit. -/
theorem pressureRule : Obligations.PressureRule := by
  intro s ok
  refine ⟨sharePressure s.mdc.settings s.laneResult.share, rfl, sharePressure_zero _, sharePressure_rise ok,
    sharePressure_le_pMax ok (share_le_brake s), min_le_left _ _, fun none => by rw [none]; rfl,
    fun capped => le_min capped (le_max_left _ _), le_min (min_le_left _ _) ?_⟩
  exact (min_le_right _ _).trans (le_max_of_le_right (Nat.le_add_left _ _))

/-! ## Stage 10 (R91, R92) -/

theorem weight_in_range {mass grade : Nat} (m : mass ≤ 200000) (g : grade ≤ 400) :
    weightComponent mass grade ≤ 784800 := by
  refine (ceilDiv_le_iff (by decide)).2 ?_
  calc mass * grade * 981 ≤ 200000 * 400 * 981 := by gcongr
    _ = 784800 * 100000 := by norm_num

theorem releaseShare_le (remaining margin own sum : Nat) : releaseShare remaining margin own sum ≤ own := by
  unfold releaseShare
  split
  · exact Nat.zero_le own
  · exact min_le_left _ _

theorem releaseShare_pos {sum : Nat} (remaining margin own : Nat) (pos : 0 < sum) :
    releaseShare remaining margin own sum = min own (ceilDiv (remaining * margin * own) (100 * sum)) :=
  if_neg (Nat.ne_of_gt pos)

theorem release_undemanded {s : State} (h : s.demand = none) : s.laneResult.release = none := by
  simp [State.laneResult, releaseResult, remainingHold, h]

/-- The remaining hold under drive demand (R91). -/
def State.remaining (s : State) (gear : Gear) (force : Nat) : Nat :=
  if s.glu.uphill gear then s.laneResult.fGrav - force else 0

/-- The release share under drive demand (R92). -/
def State.releaseShare (s : State) (gear : Gear) (force : Nat) : Nat :=
  Machine.releaseShare (s.remaining gear force) s.hal.margin s.laneResult.cOwn s.laneResult.sumC

theorem release_demanded {s : State} {gear : Gear} {force : Nat} (h : s.demand = some (gear, force)) :
    s.laneResult.release = some { remaining := s.remaining gear force, share := s.releaseShare gear force
                                  pressure := sharePressure s.mdc.settings (s.releaseShare gear force) } := by
  show releaseResult _ _ s.demand _ _ _ _ = _
  rw [h]
  rfl

/-- Settles O18: under drive demand the release result is made of the remaining hold, its share and the pressure of
that share, which lies within the brake limit. -/
theorem releaseRule : Obligations.ReleaseRule := by
  intro s ok
  refine ⟨ceilDiv_isLeast _ (by decide), weight_in_range, release_undemanded, fun gear force demand => ?_⟩
  have limited : s.releaseShare gear force ≤ brakeLimit s.mdc.settings :=
    (releaseShare_le _ _ _ _).trans (cOwn_le_brake s)
  refine ⟨_, release_demanded demand, fun uphill => if_pos uphill, fun other => ?_, fun none => if_pos none,
    fun pos => ⟨_, ceilDiv_isLeast _ (Nat.mul_pos (by decide) pos), releaseShare_pos _ _ _ pos⟩,
    sharePressure_zero _, sharePressure_rise ok, sharePressure_le_pMax ok limited⟩
  exact if_neg (by simp [other])

end Sys2Proof.Machine

/-! PROOF. A recomputation with the lanes sound (R78, R89, R90, R94, R96, R109, R122): what a delivery leaves, and what the
phase makes of it. -/

namespace Sys2Proof.Machine

/-! ## When a recomputation is made -/

theorem halRecompute_idle {s : State} (h : s.mdc.mode ≠ .run ∨ s.hal.lanes = .mismatched) : s.halRecompute = s := by
  unfold State.halRecompute
  split
  · rename_i made
    rcases h with other | apart
    · exact absurd made.1 other
    · simp [apart] at made
  · rfl

theorem halRecompute_sound {s : State} (run : s.mdc.mode = .run) (agreed : s.hal.lanes = .agreed)
    (lane : s.free.laneFault = none) : s.halRecompute = s.deliver s.laneResult := by
  simp [State.halRecompute, run, agreed, lane]

/-! ## What acting on a delivery leaves -/

/-- HAL, delivery kept and transmit list stand. -/
structure State.acts (s t : State) : Prop where
  hal : t.hal = s.hal
  last : t.hpc.last = s.hpc.last
  sgi : t.sgi = s.sgi

theorem State.acts.refl (s : State) : s.acts s := ⟨rfl, rfl, rfl⟩

theorem ratchet_acts (s : State) (p : Nat) : s.acts (s.ratchet p) := by
  unfold State.ratchet
  split
  · exact ⟨rfl, rfl, rfl⟩
  · exact .refl s

theorem newGoal_acts (s : State) (p : Option Nat) : s.acts (s.newGoal p) := by
  unfold State.newGoal
  split
  · exact ⟨rfl, rfl, rfl⟩
  · exact .refl s

theorem raiseRetained_acts (s : State) (p : Nat) : s.acts (s.raiseRetained p) := by
  unfold State.raiseRetained
  split
  · split
    · exact ⟨rfl, rfl, rfl⟩
    · exact .refl s
  · exact .refl s

/-- Whatever the phase, a delivery is kept and then acted on. -/
theorem deliver_acts (s : State) (r : HalResult) : (s.keepDelivery r).acts (s.deliver r) := by
  unfold State.deliver
  dsimp only
  split
  · exact ratchet_acts _ _
  · exact ratchet_acts _ _
  · exact newGoal_acts _ _
  · exact raiseRetained_acts _ _
  · exact .refl _
  · exact .refl _

/-! ## The ratchet (R89) -/

theorem ratchet_rises {s : State} {p : Nat} (h : s.hpc.pHold < p) :
    s.ratchet p = ({ s with hpc := { s.hpc with pHold := p } } : State).handTarget p false := if_pos h

theorem ratchet_holds {s : State} {p : Nat} (h : p ≤ s.hpc.pHold) : s.ratchet p = s := if_neg (Nat.not_lt.2 h)

theorem ratchet_pHold (s : State) (p : Nat) : (s.ratchet p).hpc.pHold = max s.hpc.pHold p := by
  rcases Nat.lt_or_ge s.hpc.pHold p with less | least
  · rw [ratchet_rises less, max_eq_right less.le]
    rfl
  · rw [ratchet_holds least, max_eq_left least]

theorem ratchet_target {s : State} {p : Nat} (h : s.hpc.pHold < p) :
    (s.ratchet p).cpr.target = min s.mdc.settings.pMax p := by
  rw [ratchet_rises h]
  exact Cpr.take_target _ _ _ _

/-! ## The retained target (R122) -/

theorem raiseRetained_retained (s : State) (p : Nat) :
    (s.raiseRetained p).hpc.retained = s.hpc.retained.map (fun x => max x p) := by
  unfold State.raiseRetained
  split
  · rename_i t held
    split
    · rename_i less
      simp [held, max_eq_right less.le]
    · rename_i least
      simp [held, max_eq_left (Nat.not_lt.1 least)]
  · rename_i absent
    simp [absent]

theorem raiseRetained_pHold (s : State) (p : Nat) : (s.raiseRetained p).hpc.pHold = s.hpc.pHold := by
  unfold State.raiseRetained
  split
  · split <;> rfl
  · rfl

/-! ## The ramp goal (R109) -/

theorem newGoal_release {s : State} {q : ReleaseRecord} {p : Nat} (h : s.hpc.release = some q) :
    (s.newGoal (some p)).hpc.release = some { q with goal := min s.cpr.target p } := by
  simp [State.newGoal, h]

theorem newGoal_cpr (s : State) (p : Option Nat) : (s.newGoal p).cpr = s.cpr := by
  unfold State.newGoal
  split <;> rfl

theorem newGoal_pHold (s : State) (p : Option Nat) : (s.newGoal p).hpc.pHold = s.hpc.pHold := by
  unfold State.newGoal
  split <;> rfl

/-! ## A delivery, phase by phase -/

section
variable {s : State} {r : HalResult}

theorem deliver_held (h : s.hpc.phase = .capturing ∨ s.hpc.phase = .holding) :
    s.deliver r = (s.keepDelivery r).ratchet r.pCalc := by
  rcases h with h | h <;> simp [State.deliver, h]

theorem deliver_releasing (h : s.hpc.phase = .releasing) :
    s.deliver r = (s.keepDelivery r).newGoal (deliveryOf r).release := by
  simp [State.deliver, h]

theorem deliver_secured (h : s.hpc.phase = .secured) : s.deliver r = (s.keepDelivery r).raiseRetained r.pCalc := by
  simp [State.deliver, h]

theorem deliver_kept (h : s.hpc.phase = .released ∨ s.hpc.phase = .securing) : s.deliver r = s.keepDelivery r := by
  rcases h with h | h <;> simp [State.deliver, h]

/-- The result becomes the HAL's state; margin and lane status stand (R94). -/
theorem deliver_hal : (s.deliver r).hal = { s.hal with result := r } := (deliver_acts s r).hal

theorem deliver_result : (s.deliver r).hal.result = r := by rw [deliver_hal]

theorem deliver_margin : (s.deliver r).hal.margin = s.hal.margin := by rw [deliver_hal]

theorem deliver_lanes : (s.deliver r).hal.lanes = s.hal.lanes := by rw [deliver_hal]

theorem deliver_last : (s.deliver r).hpc.last = deliveryOf r := (deliver_acts s r).last

theorem deliver_sgi : (s.deliver r).sgi = s.sgi := (deliver_acts s r).sgi

theorem deliver_held_pHold (h : s.hpc.phase = .capturing ∨ s.hpc.phase = .holding) :
    (s.deliver r).hpc.pHold = max s.hpc.pHold r.pCalc := by
  rw [deliver_held h]
  exact ratchet_pHold _ _

theorem deliver_held_target (h : s.hpc.phase = .capturing ∨ s.hpc.phase = .holding) (rises : s.hpc.pHold < r.pCalc) :
    (s.deliver r).cpr.target = min s.mdc.settings.pMax r.pCalc := by
  rw [deliver_held h]
  exact ratchet_target (s := s.keepDelivery r) rises

theorem deliver_held_cpr (h : s.hpc.phase = .capturing ∨ s.hpc.phase = .holding) (holds : r.pCalc ≤ s.hpc.pHold) :
    (s.deliver r).cpr = s.cpr := by
  rw [deliver_held h, ratchet_holds (s := s.keepDelivery r) holds]
  rfl

theorem deliver_releasing_cpr (h : s.hpc.phase = .releasing) : (s.deliver r).cpr = s.cpr := by
  rw [deliver_releasing h]
  exact newGoal_cpr _ _

theorem deliver_releasing_goal {q : ReleaseRecord} {p : Nat} (h : s.hpc.phase = .releasing)
    (record : s.hpc.release = some q) (available : (deliveryOf r).release = some p) :
    (s.deliver r).hpc.release = some { q with goal := min s.cpr.target p } := by
  rw [deliver_releasing h, available]
  exact newGoal_release (s := s.keepDelivery r) record

theorem deliver_secured_retained (h : s.hpc.phase = .secured) :
    (s.deliver r).hpc.retained = s.hpc.retained.map (fun x => max x r.pCalc) := by
  rw [deliver_secured h]
  exact raiseRetained_retained _ _

theorem deliver_kept_cpr (h : s.hpc.phase = .released ∨ s.hpc.phase = .securing) : (s.deliver r).cpr = s.cpr := by
  rw [deliver_kept h]
  rfl

/-- Outside CAPTURING and HOLDING a delivery leaves P_hold (R90). -/
theorem deliver_pHold (capturing : s.hpc.phase ≠ .capturing) (holding : s.hpc.phase ≠ .holding) :
    (s.deliver r).hpc.pHold = s.hpc.pHold := by
  cases phase : s.hpc.phase
  case capturing => exact absurd phase capturing
  case holding => exact absurd phase holding
  case releasing =>
    rw [deliver_releasing phase]
    exact newGoal_pHold _ _
  case secured =>
    rw [deliver_secured phase]
    exact raiseRetained_pHold _ _
  case released =>
    rw [deliver_kept (.inl phase)]
    rfl
  case securing =>
    rw [deliver_kept (.inr phase)]
    rfl

end

/-- Settles O20: a sound recomputation is a delivery, which is kept in every phase and then acted on in its own way. -/
theorem recomputationDelivers : Obligations.RecomputationDelivers := by
  refine ⟨fun s run agreed lane => ?_, fun s => halRecompute_idle⟩
  rw [halRecompute_sound run agreed lane]
  have frame := deliver_delivers s s.laneResult
  exact ⟨deliver_result, deliver_last, deliver_margin, deliver_lanes.trans agreed, frame.mdc, frame.phase,
    deliver_held_pHold, deliver_held_target,
    deliver_held_cpr, deliver_pHold, fun h => ⟨deliver_releasing_cpr h, fun q p => deliver_releasing_goal h⟩,
    deliver_secured_retained, deliver_kept_cpr, frame.csu, frame.glu, frame.pvt, frame.frb, deliver_sgi, frame.pad⟩

end Sys2Proof.Machine

/-! PROOF. A lane mismatch (R94, R95, R97, R125, R190): what is withheld, the report, and the RESTART or SAFE that
follows. -/

namespace Sys2Proof.Machine

/-! ## What an entry to SAFE leaves -/

/-- The result last delivered, the delivery kept and the restart counter stand. -/
structure State.withholds (s t : State) : Prop where
  result : t.hal.result = s.hal.result
  last : t.hpc.last = s.hpc.last
  counter : t.mdc.restartCounter = s.mdc.restartCounter

/-- Besides, the NODE bank stands, and fault-response-active once set. -/
structure State.sparesNode (s t : State) : Prop extends s.withholds t where
  node : t.frb.banks.get .node = s.frb.banks.get .node
  response : s.frb.responseActive = true → t.frb.responseActive = true

theorem State.withholds.trans {s t u : State} (h : s.withholds t) (k : t.withholds u) : s.withholds u :=
  ⟨k.result.trans h.result, k.last.trans h.last, k.counter.trans h.counter⟩

theorem State.sparesNode.refl (s : State) : s.sparesNode s := ⟨⟨rfl, rfl, rfl⟩, rfl, id⟩

theorem State.sparesNode.trans {s t u : State} (h : s.sparesNode t) (k : t.sparesNode u) : s.sparesNode u :=
  ⟨h.towithholds.trans k.towithholds, k.node.trans h.node, k.response ∘ h.response⟩

theorem storeReport_withholds (s : State) (r : Report) : s.withholds (s.storeReport r) := by
  refine ⟨?_, ?_, ?_⟩ <;> simp

theorem storeReport_get (s : State) (r : Report) (k : Bank) : (s.storeReport r).frb.banks.get k
    = if k = r.bank then some (overwrite (s.frb.banks.get r.bank) (s.complete r)) else s.frb.banks.get k := by
  rw [State.storeReport_frb]
  exact Banks.get_store _ _ _ _

theorem storeReport_sparesNode (s : State) {r : Report} (other : r.bank ≠ .node) : s.sparesNode (s.storeReport r) where
  towithholds := storeReport_withholds s r
  node := by rw [storeReport_get, if_neg other.symm]
  response active := by simp [State.storeReport_frb, active]

theorem lineAtEntry_sparesNode (s : State) : s.sparesNode s.lineAtEntry := by
  have judged : s.sparesNode s.judgeLine := ⟨⟨rfl, rfl, rfl⟩, rfl, id⟩
  unfold State.lineAtEntry
  split
  · exact judged.trans (storeReport_sparesNode _ (by decide))
  · exact judged

theorem safeFrames_mdc (s : State) (left : Mode) : (s.safeFrames left).mdc = s.mdc := by
  unfold State.safeFrames
  dsimp only
  split <;> simp

theorem safeFrames_sparesNode (s : State) (left : Mode) : s.sparesNode (s.safeFrames left) := by
  refine ⟨⟨?_, ?_, by rw [safeFrames_mdc]⟩, ?_, ?_⟩ <;> unfold State.safeFrames <;> dsimp only <;> split <;> simp

theorem startSafe_sparesNode (s : State) (hold : Bool) (left : Mode) : s.sparesNode (s.startSafe hold left) := by
  refine ⟨⟨?_, ?_, ?_⟩, ?_, ?_⟩ <;> simp [State.startSafe, State.safeMode]

theorem endWindow_closed {s : State} (h : s.mdc.mode ≠ .config) : s.endWindow = s := if_neg h

theorem enterSafe_sparesNode {s : State} (h : s.mdc.mode ≠ .config) : s.sparesNode s.enterSafe := by
  unfold State.enterSafe
  split
  · exact .refl s
  · rw [endWindow_closed h]
    exact ((startSafe_sparesNode _ _ _).trans (lineAtEntry_sparesNode _)).trans (safeFrames_sparesNode _ _)

theorem enterSafe_mode (s : State) : s.enterSafe.mdc.mode = .safe := by
  unfold State.enterSafe
  split
  · assumption
  · rw [safeFrames_mdc, lineAtEntry_mode, State.startSafe_mdc]
    rfl

/-! ## A report in RUN or SAFE, where a SAFE cause is answered at once -/

section
variable {s : State} (awake : s.mdc.mode = .run ∨ s.mdc.mode = .safe)
include awake

theorem not_config_of_awake : s.mdc.mode ≠ .config := by rcases awake with e | e <;> simp [e]

theorem answerCause_awake (cause : Bool) : s.answerCause cause = if cause then s.enterSafe else s := by
  have begun : s.mdc.mode ≠ .init := by rcases awake with e | e <;> simp [e]
  unfold State.answerCause State.safeCause
  rw [if_neg begun]

theorem answerCause_sparesNode (cause : Bool) : s.sparesNode (s.answerCause cause) := by
  rw [answerCause_awake awake]
  split
  · exact enterSafe_sparesNode (not_config_of_awake awake)
  · exact .refl s

theorem answerCause_mode (cause : Bool) :
    (s.answerCause cause).mdc.mode = s.mdc.mode ∨ (s.answerCause cause).mdc.mode = .safe := by
  rw [answerCause_awake awake]
  split
  · exact .inr (enterSafe_mode s)
  · exact .inl rfl

theorem storeReport_awake (r : Report) :
    (s.storeReport r).mdc.mode = .run ∨ (s.storeReport r).mdc.mode = .safe := by simpa using awake

theorem reportBasic_mode (r : Report) :
    (s.reportBasic r).mdc.mode = s.mdc.mode ∨ (s.reportBasic r).mdc.mode = .safe := by
  have answered := answerCause_mode (storeReport_awake awake r) (s.secondSevere r)
  rwa [State.storeReport_mdc] at answered

theorem reportBasic_withholds (r : Report) : s.withholds (s.reportBasic r) :=
  (storeReport_withholds s r).trans (answerCause_sparesNode (storeReport_awake awake r) _).towithholds

end

/-! ## The severe record of the restart limit (R190, R200, R201) -/

/-- The NODE bank holds a severe record of this class that has displaced another, and fault-response-active is set. -/
structure State.displaced (cls : FaultClass) (t : State) : Prop where
  node : (t.frb.banks.get .node).map (fun r => (r.severity, r.cls, r.overflow)) = some (.severe, cls, true)
  response : t.frb.responseActive = true

theorem State.sparesNode.displaced {s t : State} {cls : FaultClass} (h : s.sparesNode t) (k : s.displaced cls) :
    t.displaced cls := ⟨by rw [h.node, k.node], h.response k.response⟩

/-- A severe record takes the place of one of lower severity (R200). -/
theorem overwrite_displaces {held new : FaultRecord} (mild : held.severity ≠ .severe) (severe : new.severity = .severe) :
    overwrite (some held) new = { new with overflow := true } := by
  simp [overwrite, mild, severe]

section
variable {s : State} {r : Report} {held : FaultRecord} (bank : r.bank = .node) (severe : r.severity = .severe)
  (holds : s.frb.banks.get .node = some held) (mild : held.severity ≠ .severe)
include bank severe holds mild

theorem storeReport_displaces : (s.storeReport r).displaced r.cls where
  node := by
    rw [storeReport_get, bank, if_pos rfl, holds, overwrite_displaces mild severe]
    simp [State.complete, severe]
  response := by simp [State.storeReport_frb, severe]

theorem reportBasic_displaces (awake : s.mdc.mode = .run ∨ s.mdc.mode = .safe) :
    (s.reportBasic r).displaced r.cls :=
  (answerCause_sparesNode (storeReport_awake awake r) _).displaced (storeReport_displaces bank severe holds mild)

/-- Whichever of a severe report and the entry to SAFE it goes with comes first, both have come about (R201). -/
theorem reportAndSafe_displaces (run : s.mdc.mode = .run) : s.withholds (s.reportAndSafe r)
    ∧ (s.reportAndSafe r).mdc.mode = .safe ∧ (s.reportAndSafe r).displaced r.cls := by
  have awake : s.mdc.mode = .run ∨ s.mdc.mode = .safe := .inl run
  unfold State.reportAndSafe
  split
  · have still : (s.reportBasic r).mdc.mode ≠ .config := by
      rcases reportBasic_mode awake r with e | e <;> simp [e, run]
    have entered := enterSafe_sparesNode still
    exact ⟨(reportBasic_withholds awake r).trans entered.towithholds, enterSafe_mode _,
      entered.displaced (reportBasic_displaces bank severe holds mild awake)⟩
  · have entered := enterSafe_sparesNode (not_config_of_awake awake)
    have safe := enterSafe_mode s
    refine ⟨entered.towithholds.trans (reportBasic_withholds (.inr safe) r), ?_,
      reportBasic_displaces bank severe (entered.node.trans holds) mild (.inr safe)⟩
    rcases reportBasic_mode (.inr safe) r with e | e
    · exact e.trans safe
    · exact e

end

/-! ## The mismatch (R95) -/

/-- The state in which a mismatch hands the MDC its restart cause: the lanes MISMATCHED, the report made. -/
def State.mismatched (s : State) : State :=
  ({ s.setLaneFault none with hal := { s.hal with lanes := .mismatched } } : State).storeReport laneReport

theorem halRecompute_mismatched {s : State} {f : LaneFault} (run : s.mdc.mode = .run) (agreed : s.hal.lanes = .agreed)
    (lane : s.free.laneFault = some f) (first : f.after = 0) (other : f.result ≠ s.laneResult) :
    s.halRecompute = s.mismatched.countedCause := by
  unfold State.halRecompute
  rw [if_pos ⟨run, agreed⟩, lane]
  dsimp only
  rw [if_pos first, if_neg other]
  rfl

theorem mismatched_withholds (s : State) : s.withholds s.mismatched := by
  have stored := storeReport_withholds { s.setLaneFault none with hal := { s.hal with lanes := .mismatched } } laneReport
  exact ⟨stored.result, stored.last, stored.counter⟩

theorem mismatched_mdc (s : State) : s.mismatched.mdc = s.mdc := State.storeReport_mdc _ _

theorem mismatched_pad (s : State) : s.mismatched.pad = s.pad := State.storeReport_pad _ _

theorem mismatched_response (s : State) : s.mismatched.frb.responseActive = s.frb.responseActive := by
  simp [State.mismatched, storeReport_mild (r := laneReport) (by decide)]

theorem mismatched_node {s : State} (empty : s.frb.banks.node = none) :
    s.mismatched.frb.banks.get .node = some (s.complete laneReport) := by
  have vacant : s.frb.banks.get .node = none := empty
  refine (storeReport_get _ _ _).trans ?_
  show some (overwrite (s.frb.banks.get .node) _) = _
  rw [vacant]
  rfl

/-! ## The answer to a counted restart cause (R190, R191) -/

theorem countedCause_below {s : State} (run : s.mdc.mode = .run)
    (below : s.mdc.restartCounter < s.mdc.settings.restartLimit) : s.countedCause = s.countUp.restartNow := by
  simp [State.countedCause, run, below, endWindow_closed]

theorem countedCause_at_limit {s : State} (run : s.mdc.mode = .run)
    (limit : s.mdc.settings.restartLimit ≤ s.mdc.restartCounter) :
    s.countedCause = s.reportAndSafe restartLimitReport := by
  simp [State.countedCause, run, Nat.not_lt.2 limit]

/-- With the spring chamber sensor in range no assertion times out at once (R153). -/
theorem restartNow_quiet {s : State} (sensor : s.pad.sensor ≠ .outOfRange) :
    s.restartNow = (s.startRestart s.resumeRecord s.pad.asserted).judgeLine := by
  have quiet : (s.startRestart s.resumeRecord s.pad.asserted).lineTimesOut = false := by
    have still : (s.startRestart s.resumeRecord s.pad.asserted).pad.sensor = s.pad.sensor := rfl
    simp [State.lineTimesOut, Pad.timesOut, still, sensor]
  simp [State.restartNow, State.lineAtEntry, quiet]

/-- Settles O21: the mismatch leaves the result and the delivery withheld and its record in the NODE bank; below the limit
RESTART is entered from there, and at the limit the severe report displaces the record on the way to SAFE. -/
theorem laneMismatchRestarts : Obligations.LaneMismatchRestarts := by
  refine ⟨fun s f run agreed lane first other empty sensor below => ?_,
    fun s f run agreed lane first other empty limit => ?_⟩ <;>
  rw [halRecompute_mismatched run agreed lane first other] <;>
  obtain ⟨result, last, counter⟩ := mismatched_withholds s
  · rw [← mismatched_pad] at sensor
    rw [← mismatched_mdc] at run below
    rw [countedCause_below run below, restartNow_quiet (s := s.mismatched.countUp) sensor]
    exact ⟨rfl, congrArg (· + 1) counter, result, last, mismatched_node empty, mismatched_response s⟩
  · have node := mismatched_node empty
    have degraded : (s.complete laneReport).severity ≠ .severe := Severity.noConfusion
    rw [← mismatched_mdc] at run limit
    rw [countedCause_at_limit run limit]
    obtain ⟨kept, safe, displaced⟩ :=
      reportAndSafe_displaces (r := restartLimitReport) rfl rfl node degraded run
    exact ⟨safe, kept.counter.trans counter, kept.result.trans result, kept.last.trans last, displaced.response,
      displaced.node⟩

end Sys2Proof.Machine

/-! PROOF. Release and handover records through every step (R99, R108, R112, R115, R122, R193): each elementary move keeps them
in their phases but the entry into RELEASING, which must find no handover record. -/

namespace Sys2Proof.Machine

/-! ## Stray handover records -/

/-- A handover record stands in HOLDING or RELEASING, where none belongs. An entry into RELEASING would keep it. -/
def State.stray (s : State) : Prop :=
  s.hpc.handover.isSome = true ∧ (s.hpc.phase = .holding ∨ s.hpc.phase = .releasing)

/-- No handover record goes astray between the states. -/
def State.noStray (s t : State) : Prop := t.stray → s.stray

section
variable {s t u : State}

theorem State.noStray.refl (s : State) : s.noStray s := id

theorem State.noStray.trans (h : s.noStray t) (k : t.noStray u) : s.noStray u := h ∘ k

theorem State.noStray.of_same (phase : t.hpc.phase = s.hpc.phase)
    (handover : t.hpc.handover.isSome = s.hpc.handover.isSome) : s.noStray t := by
  unfold State.noStray State.stray
  rw [phase, handover]
  exact id

/-- A change of other blocks, and what comes after it. -/
theorem State.noStray.after (h : t.hpc = s.hpc) (k : t.noStray u) : s.noStray u :=
  (State.noStray.of_same (by rw [h]) (by rw [h])).trans k

theorem State.noStray.of_hpc (h : t.hpc = s.hpc) : s.noStray t := .after h (.refl t)

theorem State.noStray.of_none (h : t.hpc.handover = none) : s.noStray t := fun astray => by
  simp [State.stray, h] at astray

theorem State.noStray.of_phase (holding : t.hpc.phase ≠ .holding) (releasing : t.hpc.phase ≠ .releasing) :
    s.noStray t := fun astray => (astray.2.elim holding releasing).elim

theorem State.sustains.noStray (h : s.sustains t) : s.noStray t := .of_same h.phase (by rw [h.handover])

/-- What a condition chooses between. -/
theorem noStray_if {p : Prop} [Decidable p] (h : s.noStray t) (k : s.noStray u) : s.noStray (if p then t else u) := by
  split
  · exact h
  · exact k

end

/-! ## Modes -/

theorem placed_noStray (s : State) : s.noStray s.placeDeclaration := .of_hpc (State.placeDeclaration_hpc s)

theorem lineAtEntry_noStray (s : State) : s.noStray s.lineAtEntry := by
  unfold State.lineAtEntry
  split <;> exact .of_hpc (by simp)

theorem safeFrames_noStray (s : State) (left : Mode) : s.noStray (s.safeFrames left) := by
  unfold State.safeFrames
  dsimp only
  split <;> exact .of_hpc (by simp)

theorem enterSafe_noStray (s : State) : s.noStray s.enterSafe := by
  have started : s.noStray (s.endWindow.startSafe s.holdAtSafe s.mdc.mode) :=
    .of_same (by simp [State.safeMode]) (by simp [State.safeMode])
  exact noStray_if (.refl s) ((started.trans (lineAtEntry_noStray _)).trans (safeFrames_noStray _ _))

theorem answerCause_noStray (s : State) (cause : Bool) : s.noStray (s.answerCause cause) :=
  noStray_if (noStray_if (.of_hpc rfl) (enterSafe_noStray s)) (.refl s)

theorem reportBasic_noStray (s : State) (r : Report) : s.noStray (s.reportBasic r) :=
  (storeReport_sustains s r).noStray.trans (answerCause_noStray _ _)

theorem reportAndSafe_noStray (s : State) (r : Report) : s.noStray (s.reportAndSafe r) :=
  noStray_if ((reportBasic_noStray s r).trans (enterSafe_noStray _))
    ((enterSafe_noStray s).trans (reportBasic_noStray _ r))

theorem restartNow_noStray (s : State) : s.noStray s.restartNow := by
  have begun : s.noStray (s.startRestart s.resumeRecord s.pad.asserted).lineAtEntry :=
    .trans (.of_same rfl rfl) (lineAtEntry_noStray _)
  exact noStray_if (begun.trans (enterSafe_noStray _)) begun

theorem enterRestart_noStray (s : State) : s.noStray s.enterRestart :=
  .after (State.endWindow_hpc s) (restartNow_noStray _)

theorem countedCause_noStray (s : State) : s.noStray s.countedCause :=
  noStray_if (.refl s) (noStray_if
    (noStray_if (.of_hpc rfl) (.after (State.endWindow_hpc s) (restartNow_noStray s.endWindow.countUp)))
    (reportAndSafe_noStray s _))

/-! ## Deliveries, reports and levels -/

theorem laneMismatch_noStray (s : State) : s.noStray s.laneMismatch :=
  .after (t := { s with hal := { s.hal with lanes := .mismatched } }) rfl
    ((reportBasic_noStray _ _).trans (countedCause_noStray _))

theorem halRecompute_noStray (s : State) : s.noStray s.halRecompute := by
  unfold State.halRecompute
  refine noStray_if ?_ (.refl s)
  split
  · exact (deliver_delivers s _).noStray
  · have delivered (f : Option LaneFault) : s.noStray ((s.setLaneFault f).deliver s.laneResult) :=
      .after rfl (deliver_delivers (s.setLaneFault f) _).noStray
    exact noStray_if (noStray_if (delivered _) (.after rfl (laneMismatch_noStray (s.setLaneFault none)))) (delivered _)

theorem report_noStray (s : State) (r : Report) : s.noStray (s.report r) :=
  ((storeReport_sustains s r).noStray.trans (noStray_if (.refl _) (halRecompute_noStray _))).trans
    (answerCause_noStray _ _)

theorem reportAll_noStray (l : List Report) (s : State) : s.noStray (s.reportAll l) := by
  induction l generalizing s with
  | nil => exact .refl s
  | cons r l ih => exact (report_noStray s r).trans (ih _)

theorem gradeRecompute_noStray (s : State) : s.noStray s.gradeRecompute := by
  have formed (g : Glu) : s.noStray (s.withGlu g) := .of_hpc rfl
  exact noStray_if (noStray_if (formed _) ((formed _).trans (halRecompute_noStray _))) (.refl s)

theorem massRecompute_noStray (s : State) : s.noStray s.massRecompute := by
  have formed (g : Glu) : s.noStray (s.withGlu g) := .of_hpc rfl
  exact noStray_if (noStray_if (formed _) ((formed _).trans (halRecompute_noStray _))) (.refl s)

theorem setLevels_noStray (s : State) (own node : Nat) : s.noStray (s.setLevels own node) :=
  noStray_if (.of_hpc rfl) (.after (t := { s with csu := { s.csu with ownLevel := own, nodeLevel := node } }) rfl
    ((halRecompute_noStray _).trans (placed_noStray _)))

theorem raiseOwn_noStray (s : State) (n : Nat) : s.noStray (s.raiseOwn n) :=
  noStray_if (.refl s) (setLevels_noStray s _ _)

/-! ## Entries of the phases -/

theorem enterHolding_noStray (s u : State) (b : Nat) (anew : Bool) : s.noStray (u.enterHolding b anew) :=
  .of_none (by rw [State.enterHolding, State.placeDeclaration_hpc]; rfl)

theorem enterSecured_noStray (s u : State) : s.noStray u.enterSecured :=
  .of_none (by rw [State.enterSecured, State.placeDeclaration_hpc]; rfl)

theorem handoverFails_noStray (s : State) : s.noStray s.handoverFails := by
  unfold State.handoverFails
  split
  · exact noStray_if (enterHolding_noStray _ _ _ _) (.refl s)
  · exact .refl s

theorem confirmTimedOut_noStray (s : State) : s.noStray s.confirmTimedOut :=
  (report_noStray s _).trans (handoverFails_noStray _)

theorem line_noStray (s : State) : s.noStray s.line :=
  noStray_if (.after rfl (confirmTimedOut_noStray s.judgeLine)) (.of_hpc rfl)

theorem enterSecuring_noStray (s u : State) : s.noStray u.enterSecuring := by
  have declared : s.noStray u.startSecuring.judgeLine.placeDeclaration :=
    .of_phase (by simp [State.startSecuring, State.handRequest]) (by simp [State.startSecuring, State.handRequest])
  exact noStray_if (declared.trans (confirmTimedOut_noStray _)) declared

theorem retainService_noStray (s : State) (p : Nat) : s.noStray (s.retainService p) :=
  noStray_if (noStray_if (enterSecured_noStray s _) (.of_same rfl rfl)) (.refl s)

theorem springInsufficient_noStray (s : State) : s.noStray s.springInsufficient :=
  .trans (.trans ((handTarget_delivers s _ _).noStray.trans (raiseOwn_noStray _ 1)) (report_noStray _ _))
    (retainService_noStray _ _)

theorem abortRelease_noStray (s : State) : s.noStray s.abortRelease := by
  unfold State.abortRelease
  split
  · exact enterHolding_noStray _ _ _ _
  · exact .refl s

theorem abortHandover_noStray (s : State) : s.noStray s.abortHandover := by
  unfold State.abortHandover
  split
  · exact enterHolding_noStray _ _ _ _
  · exact .refl s

theorem enterReleased_noStray (s u : State) : s.noStray u.enterReleased :=
  .trans (.trans (.of_none rfl) (halRecompute_noStray u.releasedStart)) (placed_noStray _)

/-- HOLDING is the phase from which RELEASING is entered: a record astray there after it stood there before. -/
theorem enterReleasing_noStray {s : State} (h : s.hpc.phase = .holding) : s.noStray s.enterReleasing := by
  have begun : s.noStray s.startReleasing := fun astray => ⟨astray.1, .inl h⟩
  exact (begun.trans (line_noStray _)).trans (placed_noStray _)

/-! ## Creep -/

theorem trigger_noStray (s : State) : s.noStray s.trigger := noStray_if (.refl s) (enterSecuring_noStray s s)

theorem secureRelease_noStray (s : State) : s.noStray s.secureRelease := by
  unfold State.secureRelease
  split <;> exact enterSecuring_noStray _ _

theorem hpcNotice_noStray (s : State) : s.noStray s.hpcNotice := by
  unfold State.hpcNotice
  refine noStray_if ?_ (.refl s)
  split
  · exact noStray_if ((abortRelease_noStray s).trans (raiseOwn_noStray _ 1)) (.refl s)
  · exact noStray_if (springInsufficient_noStray s) (.refl s)
  · exact noStray_if (springInsufficient_noStray s) (.refl s)
  all_goals exact .refl s

theorem hpcBreach_noStray (s : State) : s.noStray s.hpcBreach := by
  unfold State.hpcBreach
  refine noStray_if ?_ (.refl s)
  split
  · exact trigger_noStray s
  · exact trigger_noStray s
  · exact secureRelease_noStray s
  · exact noStray_if (springInsufficient_noStray s) (.refl s)
  · exact noStray_if (springInsufficient_noStray s) (.refl s)
  · exact .refl s

theorem hpcBlind_noStray (s : State) : s.noStray s.hpcBlind := by
  unfold State.hpcBlind
  refine noStray_if ?_ (.refl s)
  split
  · exact trigger_noStray s
  · exact trigger_noStray s
  · exact secureRelease_noStray s
  all_goals exact .refl s

theorem breach_noStray (s : State) : s.noStray s.breach :=
  .after (t := { s with csu := { s.csu with breach := true } }) rfl (.trans
    ((setLevels_noStray _ 4 4).trans (hpcBreach_noStray _)) (placeAlert_delivers _ _ _ _).noStray)

theorem crossingTests_noStray (s : State) : s.noStray s.crossingTests := by
  have notice (s : State) : s.noStray s.noticeTest := noStray_if (.after rfl (hpcNotice_noStray _)) (.refl s)
  have escalation (s : State) : s.noStray s.escalationTest :=
    noStray_if (.after (t := s.movePoint _) rfl (raiseOwn_noStray _ _)) (.refl s)
  have breach (s : State) : s.noStray s.breachTest := noStray_if (breach_noStray s) (.refl s)
  exact ((notice s).trans (escalation _)).trans (breach _)

theorem blindOnset_noStray (s : State) : s.noStray s.blindOnset := by
  have raised : s.noStray s.blindLevels :=
    .after (t := { s with csu := { s.csu with blind := true } }) rfl (setLevels_noStray _ 4 4)
  rw [blindOnset_eq]
  exact noStray_if ((raised.trans (report_noStray _ _)).trans (hpcBlind_noStray _))
    ((raised.trans (hpcBlind_noStray _)).trans (report_noStray _ _))

theorem creepRecompute_noStray (s : State) (entry : Bool) : s.noStray (s.creepRecompute entry) :=
  noStray_if (noStray_if (.after rfl (crossingTests_noStray _)) (.of_hpc rfl))
    (noStray_if (.after rfl (blindOnset_noStray _)) (.of_hpc rfl))

theorem enterCapturing_noStray (s : State) : s.noStray s.enterCapturing := by
  have begun : s.noStray (s.captureStart.handTarget s.captureStart.hpc.pHold false) := .of_none rfl
  exact ((begun.trans (halRecompute_noStray _)).trans (placed_noStray _)).trans (creepRecompute_noStray _ true)

theorem settled_noStray (s : State) : s.noStray s.settled :=
  noStray_if (enterHolding_noStray _ _ _ _) (noStray_if (.trans (.of_same rfl rfl) (line_noStray _)) (.refl s))

theorem confirmed_noStray (s : State) : s.noStray s.confirmed := by
  unfold State.confirmed
  split
  · rename_i h held
    exact noStray_if (.of_same rfl (by simp [held])) (.refl s)
  · exact .refl s

theorem hpcAlert_noStray (s : State) : s.noStray s.hpcAlert :=
  noStray_if (abortRelease_noStray s) (noStray_if (enterCapturing_noStray s) (.refl s))

/-! ## Samples -/

theorem velocityTest_noStray (s : State) : s.noStray s.velocityTest :=
  noStray_if (noStray_if (noStray_if (.after rfl (breach_noStray (s.setBreachTime _))) (.of_hpc rfl)) (.of_hpc rfl))
    (.refl s)

theorem csuSample_noStray (s : State) (gap : Bool) : s.noStray (s.csuSample gap) := by
  have told : s.noStray (({ s with csu := s.csu.sampleCreep s.wmt s.glu s.mdc.settings gap } : State).gapReport
      s.csu.creepGap) := noStray_if (.after rfl (report_noStray _ _)) (.of_hpc rfl)
  exact .trans (noStray_if (told.trans (creepRecompute_noStray _ false)) told) (velocityTest_noStray _)

theorem hpcSample_noStray (s : State) : s.noStray s.hpcSample := by
  unfold State.hpcSample
  split
  · exact noStray_if (noStray_if (enterReleased_noStray s _) (.of_same rfl rfl)) (.refl s)
  · exact .refl s

theorem gluMoved_noStray (s : State) : s.noStray s.gluMoved :=
  noStray_if (noStray_if (.after rfl (gradeRecompute_noStray _)) (.of_hpc rfl)) (.refl s)

/-- Handings in whatever order (log entry 10). -/
theorem handAll_noStray {l : List (State → State)} (hl : ∀ f ∈ l, ∀ s : State, s.noStray (f s)) (s : State) :
    s.noStray (handAll l s) := by
  have inOrder_noStray : ∀ (m : List (State → State)), (∀ f ∈ m, ∀ s : State, s.noStray (f s)) →
      ∀ s : State, s.noStray (inOrder m s) := by
    intro m
    induction m with
    | nil => exact fun _ => State.noStray.refl
    | cons f m ih => exact fun hm s => (hm f (by simp) s).trans (ih (fun g hg => hm g (by simp [hg])) _)
  exact .after rfl (inOrder_noStray _ (fun f hf => hl f (mem_permute hf)) _)

/-! ## CONFIG, RUN and WATCH -/

theorem runRequests_noStray (s : State) (b : Bool) : s.noStray (s.runRequests b) :=
  .trans (.of_same rfl rfl) (line_noStray (s.setRequests b))

theorem runEntered_noStray (s : State) : s.noStray s.runEntered := by
  refine handAll_noStray (fun f hf s => ?_) s
  simp only [List.mem_cons, List.not_mem_nil, or_false] at hf
  rcases hf with rfl | rfl
  · exact halRecompute_noStray s
  · exact placed_noStray s

/-- RUN begins in RELEASED (R188). -/
theorem enterRun_noStray (s : State) : s.noStray s.enterRun := by
  have begun : s.noStray s.endWindow.startFirstRun := .of_phase Phase.noConfusion Phase.noConfusion
  exact (begun.trans (runRequests_noStray _ false)).trans (runEntered_noStray _)

/-- A resume starts without records (R126). -/
theorem resumeRun_noStray (s : State) : s.noStray s.resumeRun := by
  have begun (r : Resume) : s.noStray (s.restarted.startResumed r) := by
    refine .of_none ?_
    show (s.restarted.hpc.resumeHold r).handover = none
    unfold Hpc.resumeHold
    split <;> rfl
  have gap (t : State) (b : Bool) : t.noStray (t.gapReport b) := noStray_if (report_noStray t _) (.refl t)
  refine .trans (.trans ?_ (.of_hpc (State.placeOwedReply_hpc _))) (runEntered_noStray _)
  split
  · exact ((begun _).trans (gap _ _)).trans (runRequests_noStray _ true)
  · exact .trans (.of_none rfl) (runRequests_noStray s.restarted.startAfresh false)

theorem wake_noStray (s : State) (parked : Bool) : s.noStray (s.wake parked) := by
  have begun : s.noStray (s.wakeTarget parked) := .of_same rfl rfl
  have blocks : s.noStray ((s.wakeBlocks parked).placeRouse.runEntered) :=
    ((begun.trans (line_noStray _)).trans (.of_hpc (State.placeRouse_hpc (s.wakeTarget parked).line.formMargin))).trans
      (runEntered_noStray _)
  have alert (t : State) : t.noStray t.parkedAlert := noStray_if (placeAlert_delivers t _ _ _).noStray (.refl t)
  have blind (t : State) : t.noStray t.blindAtReturn := noStray_if (blindOnset_noStray t) (.refl t)
  exact .trans (noStray_if (blocks.trans (alert _)) blocks) (blind _)

theorem answerWatch_noStray (s : State) : s.noStray s.answerWatch := by
  unfold State.answerWatch
  refine noStray_if ?_ (.of_same rfl rfl)
  split
  · exact .refl s
  · exact .after (t := { s with mdc := { s.mdc with watchRequest := some true } }) rfl (report_noStray _ _)

/-! ## Standing conditions -/

theorem judgeWait_noStray {s : State} {h : HandoverRecord} (held : s.hpc.handover = some h) :
    s.noStray (s.judgeWait h) := by
  have kept (g : HandoverRecord) : s.noStray { s with hpc := { s.hpc with handover := some g } } :=
    .of_same rfl (by simp [held])
  exact noStray_if (noStray_if (.refl s) ((kept _).trans (report_noStray _ _)))
    (noStray_if (noStray_if (enterSecured_noStray s _) (.of_same rfl (by simp [held]))) (.refl s))

theorem reactHolding_noStray {s : State} (h : s.hpc.phase = .holding) : s.noStray s.reactHolding := by
  have armed : s.noStray s.rearmRelease := noStray_if (.of_same rfl rfl) (.refl s)
  have still : s.rearmRelease.hpc.phase = .holding := by
    unfold State.rearmRelease
    split <;> exact h
  exact noStray_if (enterSecuring_noStray s _) (noStray_if (armed.trans (enterReleasing_noStray still)) armed)

theorem reactRun_noStray (before s : State) : s.noStray (State.reactRun before s) := by
  unfold State.reactRun
  split
  case h_1 => exact noStray_if (enterCapturing_noStray s) (.refl s)
  case h_2 => exact noStray_if (enterSecuring_noStray s s) (.refl s)
  case h_3 holding => exact reactHolding_noStray holding
  case h_4 => exact noStray_if (enterReleased_noStray s s) (noStray_if (abortRelease_noStray s) (.refl s))
  case h_5 =>
    refine noStray_if (abortHandover_noStray s) ?_
    split
    · rename_i h held
      exact noStray_if (judgeWait_noStray held) (.refl s)
    · exact .refl s
  case h_6 =>
    exact noStray_if (enterHolding_noStray s _ _ true) (noStray_if (answerWatch_noStray s) (.refl s))

theorem react_noStray (before s : State) : s.noStray (State.react before s) := by
  unfold State.react
  split
  · exact reactRun_noStray before s
  · exact noStray_if (.trans (.of_hpc rfl) (line_noStray s.seenStationary)) (.refl s)
  · exact noStray_if (.after rfl (wake_noStray _ true)) (.refl s)
  all_goals exact .refl s

theorem conclude_noStray {before s t : State} (h : s.noStray t) : s.noStray (conclude before t) := by
  have rounds_noStray (n : Nat) (u : State) : u.noStray (reactFor before n u) := by
    induction n generalizing u with
    | zero => exact .refl u
    | succ n ih => exact (react_noStray before u).trans (ih _)
  have ended (u : State) : u.noStray u.lapse.drawn := by
    have phase : u.lapsedTimes.phase = u.hpc.phase := by unfold State.lapsedTimes; split <;> rfl
    have handover : u.lapsedTimes.handover = u.hpc.handover := by unfold State.lapsedTimes; split <;> rfl
    exact .of_same phase (congrArg Option.isSome handover)
  exact (h.trans (rounds_noStray _ _)).trans (ended _)

/-! ## Commands -/

theorem sampleIf_noStray (s : State) (o : State → SampleEvents → Bool) (a b : Code) : s.noStray (s.sampleIf o a b) := by
  have taken (w : Wmt) (e : SampleEvents) : s.noStray (s.takeSample w e) := by
    refine .after (t := { s with wmt := w }) rfl ((reportAll_noStray _ _).trans (handAll_noStray (fun f hf s => ?_) _))
    simp only [sampleHandings, List.mem_append, List.mem_cons, List.not_mem_nil, or_false] at hf
    rcases hf with (rfl | rfl) | moved
    · exact csuSample_noStray s _
    · exact hpcSample_noStray s
    · split at moved
      · rw [List.mem_singleton.1 moved]
        exact gluMoved_noStray s
      · simp at moved
  exact noStray_if (taken _ _) (.refl s)

theorem accelRead_noStray (s : State) (r : Option Accel) : s.noStray (s.accelRead r) := by
  have formed (t : State) (g : Glu) : t.noStray (t.withGlu g) := .of_hpc rfl
  have graded : s.noStray (s.accelGrade r) :=
    noStray_if ((formed s _).trans (gradeRecompute_noStray _)) (formed s _)
  have tested (t : State) : t.noStray t.disagreementTest :=
    noStray_if (noStray_if ((formed t _).trans (report_noStray _ _)) (formed t _)) (.refl t)
  exact .trans (noStray_if (graded.trans (report_noStray _ _)) graded) (tested _)

theorem loadRead_noStray (s : State) (n : Nat) : s.noStray (s.loadRead n) := by
  have formed (g : Glu) : s.noStray (s.withGlu g) := .of_hpc rfl
  refine noStray_if ((formed _).trans (handAll_noStray (fun f hf s => ?_) _))
    (noStray_if ((formed _).trans (report_noStray _ _)) (formed _))
  simp only [loadHandings, List.mem_append] at hf
  rcases hf with hf | hf <;> split at hf <;> simp at hf <;> subst hf
  · exact halRecompute_noStray s
  · exact massRecompute_noStray s

theorem pressureIf_noStray (s : State) (o : PressureEvents → Bool) (p : Int) : s.noStray (s.pressureIf o p) := by
  have read : s.noStray { s with cpr := (s.cpr.read p).1 } := .of_hpc rfl
  have ended (t : State) : t.noStray t.applyTimedOut := .of_same rfl rfl
  have told : s.noStray (State.reportAll (if (s.cpr.read p).2.applyTimeout then
      State.applyTimedOut { s with cpr := (s.cpr.read p).1 } else { s with cpr := (s.cpr.read p).1 })
      (s.cpr.read p).2.reports) := .trans (noStray_if (read.trans (ended _)) read) (reportAll_noStray _ _)
  exact noStray_if (noStray_if (told.trans (settled_noStray _)) told) (.refl s)

theorem readbackTaken_noStray (s : State) (h a v : Bool) : s.noStray (s.readbackTaken h a v) :=
  noStray_if (.refl s) (.after (t := { s with cpr := (s.cpr.readback h a v).1 }) rfl (reportAll_noStray _ _))

theorem springIf_noStray (s : State) (o : SpringEvents → Bool) (p : Int) : s.noStray (s.springIf o p) := by
  have reported (b : Bool) (r : Report) (t : State) : t.noStray (if b then t.report r else t) :=
    noStray_if (report_noStray t r) (.refl t)
  have confirmed (b : Bool) (t : State) : t.noStray (if b then t.confirmed else t) :=
    noStray_if (confirmed_noStray t) (.refl t)
  have timedOut (b : Bool) (t : State) : t.noStray (if b then t.confirmTimedOut else t) :=
    noStray_if (confirmTimedOut_noStray t) (.refl t)
  exact noStray_if (.after (t := { s with pad := (s.pad.read p).1 }) rfl
    ((((confirmed _ _).trans (reported _ _ _)).trans (timedOut _ _)).trans (reported _ _ _))) (.refl s)

theorem declarationArrives_noStray (s : State) (n : Nat) (l : List Byte) : s.noStray (s.declarationArrives n l) := by
  have table (t : State) (p : Pvt) : t.noStray (t.withPvt p) := .of_hpc rfl
  have created (t : State) (m : Nat) : t.noStray (t.creationReport m) :=
    noStray_if ((table t _).trans (report_noStray _ _)) (.refl t)
  have tabled (d : Declared) : s.noStray (s.tabled n d) := noStray_if ((table s _).trans (created _ n)) (table s _)
  have clash : s.noStray s.clash := noStray_if ((table s _).trans (report_noStray _ _)) (table s _)
  unfold State.declarationArrives
  refine noStray_if ?_ (.refl s)
  split
  · refine noStray_if clash ((tabled _).trans (handAll_noStray (fun f hf t => ?_) _))
    simp only [declarationHandings, List.mem_cons, List.not_mem_nil, or_false] at hf
    rcases hf with rfl | rfl | rfl | rfl | rfl | rfl
    · exact creepRecompute_noStray t false
    · exact noStray_if (setLevels_noStray t _ _) (.refl t)
    · exact gradeRecompute_noStray t
    · exact massRecompute_noStray t
    · exact (table t _).trans (halRecompute_noStray _)
    · exact react_noStray s t
  · exact report_noStray s _

theorem alertArrives_noStray (s : State) (n : Nat) (l : List Byte) : s.noStray (s.alertArrives n l) := by
  have table (p : Pvt) : s.noStray (s.withPvt p) := .of_hpc rfl
  have clash : s.noStray s.clash := noStray_if ((table _).trans (report_noStray _ _)) (table _)
  unfold State.alertArrives
  refine noStray_if ?_ (.refl s)
  split
  · refine noStray_if clash ((table _).trans (handAll_noStray (fun f hf t => ?_) _))
    simp only [List.mem_append, List.mem_singleton] at hf
    rcases hf with hf | rfl
    · split at hf
      · rw [List.mem_singleton.1 hf]
        exact noStray_if (setLevels_noStray t _ _) (.refl t)
      · simp at hf
    · exact hpcAlert_noStray t
  · exact report_noStray s _

theorem peerStale_noStray (before s : State) : s.noStray (handAll (staleHandings before) s) := by
  refine handAll_noStray (fun f hf t => ?_) s
  simp only [staleHandings, List.mem_cons, List.not_mem_nil, or_false] at hf
  rcases hf with rfl | rfl | rfl
  · exact creepRecompute_noStray t false
  · exact gradeRecompute_noStray t
  · exact react_noStray before t

theorem peerExpired_noStray (n : Nat) (hold : Bool) (s : State) : s.noStray (handAll (expiryHandings n hold) s) := by
  refine handAll_noStray (fun f hf t => ?_) s
  simp only [expiryHandings, List.mem_append, List.mem_singleton] at hf
  rcases hf with rfl | hf
  · exact halRecompute_noStray t
  · split at hf
    · rw [List.mem_singleton.1 hf]
      exact report_noStray t _
    · simp at hf

theorem driveHanded_noStray (before s : State) : s.noStray (handAll [State.halRecompute, State.react before] s) := by
  refine handAll_noStray (fun f hf t => ?_) s
  simp only [List.mem_cons, List.not_mem_nil, or_false] at hf
  rcases hf with rfl | rfl
  · exact halRecompute_noStray t
  · exact react_noStray before t

theorem drumHanded_noStray (s : State) : s.noStray s.drumHanded :=
  noStray_if (.refl s) (noStray_if (.refl s) (.after (t := s.formMargin) rfl (halRecompute_noStray _)))

theorem stationFrame_noStray {α : Type} (s : State) (e : Element) (d : Option α) (take : α → State)
    (h : ∀ x, s.noStray (take x)) : s.noStray (s.stationFrame e d take) := by
  unfold State.stationFrame
  refine noStray_if ?_ (.refl s)
  split
  · exact h _
  · exact report_noStray s _

theorem staleRecord_noStray (s : State) (x : Station) : s.noStray (s.staleRecord x) := by
  have aged : s.noStray (s.withVir (s.vir.setStale x)) := .of_hpc rfl
  cases x
  · exact aged
  · exact aged.trans (driveHanded_noStray s _)
  · exact aged.trans (drumHanded_noStray _)

theorem count_noStray (s : State) (g : Sgi) : s.noStray (s.count g) :=
  noStray_if (.after (t := { s with sgi := { g with bus := g.byCounts } }) rfl (report_noStray _ _)) (.of_hpc rfl)

theorem recessive_noStray (s : State) : s.noStray s.recessive := by
  unfold State.recessive
  split
  · exact noStray_if (.of_hpc rfl) (.refl s)
  · exact noStray_if (.of_hpc (State.placeDeclaration_hpc { s with sgi := s.sgi.join })) (.of_hpc rfl)
  all_goals exact .refl s

theorem dominant_noStray (s : State) : s.noStray s.dominant :=
  noStray_if (noStray_if (.after (t := { s with sgi := { s.sgi with rouseCount := 0, rouseWindow := 0 } }) rfl
    (wake_noStray _ false)) (.of_hpc rfl)) (.refl s)

theorem keyRises_noStray (s : State) : s.noStray s.keyRises := by
  have keyed : s.noStray (s.setKey true) := .of_hpc rfl
  unfold State.keyRises
  split
  · exact keyed.trans (wake_noStray _ false)
  · exact noStray_if (keyed.trans (enterRestart_noStray _)) keyed
  all_goals exact keyed

theorem service_noStray (s : State) (n : Nat) (l : List Byte) (row : Byte → Bool) (answer : Byte → Byte → State)
    (h : ∀ k a, s.noStray (answer k a)) : s.noStray (s.service n l row answer) := by
  unfold State.service
  refine noStray_if ?_ (.refl s)
  split
  · exact noStray_if (noStray_if (report_noStray s _) (h _ _)) (.refl s)
  · exact report_noStray s _

theorem reply_noStray (s : State) (r : ReplyCode) (k a : Byte) (p : List Byte) : s.noStray (s.placeReply r k a p) :=
  .of_hpc (State.placeReply_hpc ..)

theorem clearTo_noStray (s : State) (b : Banks) : s.noStray (s.clearTo b) := by
  refine .after (t := { s with frb := { s.frb with banks := b } }) rfl (handAll_noStray (fun f hf t => ?_) _)
  simp only [clearHandings, List.mem_append] at hf
  rcases hf with hf | hf <;> split at hf <;> simp at hf <;> subst hf
  · exact placed_noStray t
  · exact halRecompute_noStray t

theorem configured_noStray (s : State) (l : List Byte) (row : Byte → Bool) (late : State) (inConfig : List Byte → State)
    (hl : s.noStray late) (h : ∀ x, s.noStray (inConfig x)) : s.noStray (s.configured l row late inConfig) := by
  unfold State.configured
  refine noStray_if ?_ (.refl s)
  split
  · exact report_noStray s _
  · refine noStray_if ?_ (.refl s)
    split
    · exact noStray_if (noStray_if (h _) hl) (.refl s)
    · exact report_noStray s _

theorem takeGroupFrame_noStray (s : State) (l : List Byte) : s.noStray (s.takeGroupFrame l) := by
  unfold State.takeGroupFrame
  split
  · rename_i g b2 b3 b4 b5 b6 b7
    have taken : s.noStray (s.takeSettings g.toNat b2 b3 b4 b5 b6 b7) := .of_hpc rfl
    exact noStray_if (report_noStray s _) (noStray_if (taken.trans (massRecompute_noStray _)) taken)
  · exact .refl s

/-- No command leaves a handover record astray. -/
theorem exec_noStray {c : Instr} {s t : State} (h : exec c s = .next t) : s.noStray t := by
  suffices body : ∃ u, exec c s = .next (conclude s u) ∧ s.noStray u by
    obtain ⟨u, e, clean⟩ := body
    obtain rfl : t = conclude s u := by simpa [e] using h.symm
    exact conclude_noStray clean
  clear h
  cases c <;> refine ⟨_, rfl, ?_⟩
  case powerOn => exact .of_none rfl
  case initEnd =>
    refine noStray_if (noStray_if ?_ ?_) (.refl s)
    · exact .after (t := s.stable) rfl (enterSafe_noStray _)
    · exact .after (t := s.stable.startConfig) rfl (runRequests_noStray _ false)
  case clockFailure | restartTimeout => exact noStray_if (reportAndSafe_noStray s _) (.refl s)
  case wheelSample | noiseOverrun | amplitudeLoss | cleanWindowRecovery | locked | lockNotAchieved
      | stationaryAsserted | breachVelocityTimeExpiry => exact sampleIf_noStray s _ _ _
  case accelerometerReading | accelerometerWindowFault | gradeDisagreement =>
    exact noStray_if (accelRead_noStray s _) (.refl s)
  case loadReading | loadInputFault => exact noStray_if (loadRead_noStray s _) (.refl s)
  case declaration => exact declarationArrives_noStray s _ _
  case peerStale n =>
    exact noStray_if (.after (t := s.withPvt (s.pvt.setFreshness n .stale)) rfl (peerStale_noStray s _)) (.refl s)
  case peerExpired n =>
    exact noStray_if (.after (t := s.withPvt (s.pvt.setFreshness n .expired)) rfl (peerExpired_noStray n _ _)) (.refl s)
  case alert => exact alertArrives_noStray s _ _
  case cabStatus => exact stationFrame_noStray s _ _ _ fun _ => .of_hpc rfl
  case driveDemand => exact stationFrame_noStray s _ _ _ fun _ => .after rfl (driveHanded_noStray s (s.withVir _))
  case drumStatus => exact stationFrame_noStray s _ _ _ fun _ => .after rfl (drumHanded_noStray (s.withVir _))
  case recordStale => exact noStray_if (staleRecord_noStray s _) (.refl s)
  case captureQualifyingExpiry => exact noStray_if (enterCapturing_noStray s) (.refl s)
  case captureSettleExpiry => exact noStray_if (enterHolding_noStray s _ _ _) (.refl s)
  case releaseRampStep =>
    split
    · rename_i r held
      have taken (q : ReleaseRecord) : s.noStray { s with hpc := { s.hpc with release := some q } } := .of_same rfl rfl
      exact noStray_if (noStray_if ((taken _).trans (handTarget_delivers _ _ _).noStray) (taken _)) (.refl s)
    · exact .refl s
  case releaseTimeExpiry =>
    split
    · exact noStray_if (abortRelease_noStray s) (.refl s)
    · exact .refl s
  case insufficiencyTimeExpiry =>
    exact noStray_if ((trigger_noStray s).trans (placeAlert_delivers _ _ _ _).noStray) (.refl s)
  case driverAbsentTimeExpiry | secureTimeExpiry => exact noStray_if (trigger_noStray s) (.refl s)
  case handoverSettleExpiry =>
    split
    · rename_i h held
      exact noStray_if (noStray_if (enterSecured_noStray s s) (.of_same rfl (by simp [held]))) (.refl s)
    · exact .refl s
  case handoverRampStep =>
    split
    · rename_i h held
      exact noStray_if (noStray_if (enterSecured_noStray s _) (.of_same rfl (by simp [State.handTarget, held])))
        (.refl s)
    · exact .refl s
  case wakeHoldExpiry => exact noStray_if (answerWatch_noStray s) (.refl s)
  case pressureReading | chamberSensorOutOfRange | settledReport | applyTimeout | ventTimeout =>
    exact pressureIf_noStray s _ _
  case readbackSample => exact readbackTaken_noStray s _ _ _
  case readbackMismatch => exact noStray_if (.refl s) (readbackTaken_noStray s _ _ _)
  case springReading | springSensorOutOfRange | confirmLost => exact springIf_noStray s _ _
  case confirmTimeout =>
    exact noStray_if (.after (t := { s with pad := { s.pad with watch := .timedOut } }) rfl (confirmTimedOut_noStray _))
      (.refl s)
  case declarationTimerExpiry =>
    exact noStray_if (.after (t := { s with sgi := { s.sgi with declarationTimer := 0 } }) rfl (placed_noStray _)) (.refl s)
  case transmitError => exact noStray_if (noStray_if (.after rfl (report_noStray _ _)) (count_noStray s _)) (.refl s)
  case transmitSuccess =>
    split
    · exact noStray_if (count_noStray s _) (.refl s)
    · exact .refl s
  case receiveError | successfulReception => exact noStray_if (count_noStray s _) (.refl s)
  case recessiveRun => exact recessive_noStray s
  case qualifyingDominantPhase => exact dominant_noStray s
  case keyLineEdge => exact keyRises_noStray s
  case readStatus | undefinedServiceCommand => exact service_noStray s _ _ _ _ fun _ _ => reply_noStray s _ _ _ _
  case readBank =>
    refine service_noStray s _ _ _ _ fun _ _ => ?_
    unfold State.bankReply
    split <;> exact reply_noStray s _ _ _ _
  case clearBank =>
    refine service_noStray s _ _ _ _ fun _ _ => ?_
    unfold State.clearBankReply
    split
    · exact (reply_noStray s _ _ _ _).trans (clearTo_noStray _ _)
    · exact reply_noStray s _ _ _ _
  case clearAll =>
    exact service_noStray s _ _ _ _ fun k a => (reply_noStray s .ok k a zeroPayload).trans
      (.after (t := { s.placeReply .ok k a zeroPayload with
        frb := { (s.placeReply .ok k a zeroPayload).frb with responseActive := false } }) rfl (clearTo_noStray _ _))
  case readPeer =>
    refine service_noStray s _ _ _ _ fun _ _ => noStray_if (reply_noStray s _ _ _ _) ?_
    split <;> exact reply_noStray s _ _ _ _
  case restart =>
    exact service_noStray s _ _ _ _ fun _ a => noStray_if
      (.after (t := { s with sgi := { s.sgi with restartOwed := some a } }) rfl (enterRestart_noStray _))
      (reply_noStray s _ _ _ _)
  case configureGroup =>
    exact configured_noStray s _ _ _ _ (report_noStray s _) fun l => takeGroupFrame_noStray s l
  case configureClose =>
    exact configured_noStray s _ _ _ _ (noStray_if (.of_hpc rfl) (report_noStray s _)) fun _ => enterRun_noStray s
  case undefinedConfigureGroup => exact configured_noStray s _ _ _ _ (report_noStray s _) fun _ => report_noStray s _
  case windowExpiry => exact noStray_if (.after (t := s.markExpired true) rfl (enterRun_noStray _)) (.refl s)
  case brownOut =>
    exact .after (t := { s with mdc := { s.mdc with brownOut := true } }) rfl
      ((report_noStray _ _).trans (countedCause_noStray _))
  case reinitialisationComplete =>
    exact noStray_if (.after (t := { s with mdc := { s.mdc with refStable := true, brownOut := false } }) rfl
      (resumeRun_noStray _)) (.refl s)
  case lastAlertRemoval | driveTimeExpiry | rouseWindowExpiry | reliefTimeExpiry | safeDwellExpiry =>
    exact noStray_if (.of_hpc rfl) (.refl s)
  case frameOffer | arbitrationLost | keyLineFallingEdge => exact .of_hpc rfl

/-! ## Moves -/

/-- The records in their phases, but that a handover record may have gone astray into RELEASING. -/
structure State.recordsOk (s : State) : Prop where
  release : s.hpc.release.isSome = true ↔ s.hpc.phase = .releasing
  securing : s.hpc.phase = .securing → s.hpc.handover.isSome = true
  handover : s.hpc.handover.isSome = true → s.hpc.phase = .securing ∨ s.hpc.phase = .releasing
  watch : s.mdc.mode = .watch → s.hpc.phase = .secured
  started : s.mdc.mode = .init ∨ s.mdc.mode = .config → s.hpc.phase = .released

theorem State.phaseOk_iff (s : State) : s.phaseOk ↔ s.recordsOk ∧ ¬ s.stray := by
  constructor
  · rintro ⟨release, handover, watch, started⟩
    refine ⟨⟨release, handover.2, fun h => .inl (handover.1 h), watch, started⟩, fun ⟨held, phase⟩ => ?_⟩
    rcases phase with e | e <;> simp [handover.1 held] at e
  · rintro ⟨⟨release, securing, handover, watch, started⟩, clean⟩
    refine ⟨release, ⟨fun h => (handover h).resolve_right fun e => clean ⟨h, .inr e⟩, securing⟩, watch, started⟩

section
variable {s t : State}

theorem State.recordsOk.of_same (h : s.recordsOk) (phase : t.hpc.phase = s.hpc.phase)
    (release : t.hpc.release.isSome = s.hpc.release.isSome) (handover : t.hpc.handover.isSome = s.hpc.handover.isSome)
    (mode : t.mdc.mode = s.mdc.mode ∨ t.mdc.mode = .run ∨ t.mdc.mode = .safe ∨ t.mdc.mode = .restart) :
    t.recordsOk where
  release := by rw [phase, release, h.release]
  securing e := by rw [handover, h.securing (phase ▸ e)]
  handover e := by rw [phase]; exact h.handover (handover ▸ e)
  watch e := by
    rw [phase]
    rcases mode with m | m | m | m
    · exact h.watch (m ▸ e)
    all_goals simp [m] at e
  started e := by
    rw [phase]
    rcases mode with m | m | m | m
    · exact h.started (m ▸ e)
    all_goals simp [m] at e

/-- A phase of RUN entered without a handover record and with none but its own release record. -/
theorem State.recordsOk.of_run (run : t.mdc.mode = .run) (release : t.hpc.release.isSome = true ↔ t.hpc.phase = .releasing)
    (securing : t.hpc.phase ≠ .securing) (handover : t.hpc.handover = none) : t.recordsOk where
  release := release
  securing e := absurd e securing
  handover e := by simp [handover] at e
  watch e := by simp [run] at e
  started e := by simp [run] at e

end

/-- A resume is into HOLDING or SECURED (R126). -/
theorem resumeHold_phase (h : Hpc) (r : Resume) : ((h.resumeHold r).phase = .secured ∨ (h.resumeHold r).phase = .holding)
    ∧ (h.resumeHold r).release = none ∧ (h.resumeHold r).handover = none := by
  unfold Hpc.resumeHold
  split
  · exact ⟨.inl rfl, rfl, rfl⟩
  · exact ⟨.inr rfl, rfl, rfl⟩

/-- Every elementary move keeps the records in their phases. -/
theorem Move.keeps_recordsOk {c : Instr} (s t : State) (m : Move c s t) (h : s.recordsOk) : t.recordsOk := by
  have run (hold : s.inHold = true) : s.mdc.mode = .run := inHold_mode hold
  cases m with
  | hpc p hp hr hh => exact h.of_same (s := s) hp hr hh (.inl rfl)
  | mdc m hm => exact h.of_same (s := s) rfl rfl rfl (.inl hm)
  | capture released =>
    exact .of_run ((inPhase_iff s _).1 released).1 (by simp [State.captureStart]) Phase.noConfusion rfl
  | holding b anew hold =>
    exact .of_run (run hold) (by simp [State.startHolding, State.handTarget]) Phase.noConfusion rfl
  | securing hold =>
    exact ⟨by simp [State.startSecuring, State.handRequest], fun _ => rfl, fun _ => .inl rfl,
      fun e => by simp [run hold] at e, fun e => by simp [run hold] at e⟩
  | secured hold =>
    exact .of_run (run hold) (by simp [State.startSecured, State.handTarget]) Phase.noConfusion rfl
  | releasing hold =>
    exact ⟨by simp [State.startReleasing, State.handRequest], Phase.noConfusion, fun _ => .inr rfl,
      fun e => by simp [run hold] at e, fun e => by simp [run hold] at e⟩
  | released hold => exact .of_run (run hold) (by simp [State.releasedStart]) Phase.noConfusion rfl
  | power => exact (State.phaseOk_iff State.reset).1 (by decide) |>.1.of_same rfl rfl rfl (.inl rfl)
  | config started =>
    have phase := h.started (.inl started)
    exact ⟨h.release, h.securing, h.handover, fun e => by simp [State.startConfig] at e, fun _ => phase⟩
  | run config =>
    have phase := h.started (.inr config)
    exact h.of_same phase.symm rfl rfl (.inr (.inl rfl))
  | resumed r =>
    have hpc : (s.restarted.startResumed r).hpc = s.restarted.hpc.resumeHold r := rfl
    obtain ⟨phase, release, handover⟩ := resumeHold_phase s.restarted.hpc r
    rw [← hpc] at phase release handover
    have entered : (s.restarted.startResumed r).hpc.phase ≠ .releasing
        ∧ (s.restarted.startResumed r).hpc.phase ≠ .securing := by rcases phase with p | p <;> simp [p]
    exact .of_run rfl (iff_of_false (by simp [release]) entered.1) entered.2 handover
  | afresh => exact .of_run rfl (by simp [State.startAfresh, Hpc.afresh]) Phase.noConfusion rfl
  | watch secured =>
    have phase := ((inPhase_iff s _).1 secured).2
    exact ⟨h.release, h.securing, h.handover, fun _ => phase, fun e => by simp [State.enterWatch] at e⟩
  | wake => exact h.of_same (s := s) rfl rfl rfl (.inr (.inl rfl))
  | restart => exact h.of_same (s := s) rfl rfl rfl (.inr (.inr (.inr rfl)))
  | safe =>
    refine h.of_same (s := s) ?_ ?_ ?_ (.inr (.inr (.inl ?_))) <;> simp [State.safeMode]
  | declaration | alert | rouse | owedReply | reply | record =>
    exact h.of_same (by simp) (by simp) (by simp) (.inl (by simp))
  | _ => exact h.of_same (s := s) rfl rfl rfl (.inl rfl)

/-- At a tick the records' times go on (R108, R116). -/
theorem tick_phaseOk {s : State} (h : s.phaseOk) : s.tick.phaseOk := by
  unfold State.tick
  split
  · have same : s.advanced.hpc.phase = s.hpc.phase ∧ s.advanced.hpc.release.isSome = s.hpc.release.isSome
        ∧ s.advanced.hpc.handover.isSome = s.hpc.handover.isSome := by
      unfold State.advanced
      dsimp only
      split
      · simp [State.hpcTimes]
      · exact ⟨rfl, rfl, rfl⟩
    obtain ⟨phase, release, handover⟩ := same
    show (s.advanced.hpc.release.isSome = true ↔ s.advanced.hpc.phase = .releasing)
      ∧ (s.advanced.hpc.handover.isSome = true ↔ s.advanced.hpc.phase = .securing)
      ∧ (s.mdc.mode = .watch → s.advanced.hpc.phase = .secured)
      ∧ (s.mdc.mode = .init ∨ s.mdc.mode = .config → s.advanced.hpc.phase = .released)
    rw [phase, release, handover]
    exact h
  · exact h

/-- Settles O6: the moves of a command keep the records in their phases, and no handover record goes astray on the way. -/
theorem stepKeepsPhaseRecords : Obligations.StepKeepsPhaseRecords := by
  intro s t h hstep
  rcases step_cases s with ⟨c, l, u, front, hu, moves⟩ | ⟨-, htick⟩
  · obtain rfl : t = u := by simpa [hu] using hstep.symm
    obtain ⟨records, clean⟩ := (s.withPending l).phaseOk_iff.1 h
    have taken : exec c (s.withPending l) = .next t := by simpa [step, front] using hu
    exact t.phaseOk_iff.2 ⟨moves.keeps Move.keeps_recordsOk records, fun astray => clean (exec_noStray taken astray)⟩
  · obtain rfl : t = s.tick := by simpa [htick] using hstep.symm
    exact tick_phaseOk h

end Sys2Proof.Machine

/-! PROOF. The end of a command in a hold phase (R90, R104, R107, R113, R120): the fields it leaves, the parts kept, and
the phases in which nothing more is acted on. -/

namespace Sys2Proof.Machine

/-! ## Fields of the HPC at the end of a command -/

/-- But for its three lapsing times the HPC stands at the end of a command (R101, R102, R114). -/
theorem lapse_lasting (s : State) : s.lapse.hpc.lasting = s.hpc.lasting := ended_same s .hpc

@[simp] theorem lapse_phase (s : State) : s.lapse.hpc.phase = s.hpc.phase := by
  simpa only [Hpc.lasting] using congrArg Hpc.phase (lapse_lasting s)
@[simp] theorem lapse_pCap (s : State) : s.lapse.hpc.pCap = s.hpc.pCap := by
  simpa only [Hpc.lasting] using congrArg Hpc.pCap (lapse_lasting s)
@[simp] theorem lapse_pHold (s : State) : s.lapse.hpc.pHold = s.hpc.pHold := by
  simpa only [Hpc.lasting] using congrArg Hpc.pHold (lapse_lasting s)
@[simp] theorem lapse_last (s : State) : s.lapse.hpc.last = s.hpc.last := by
  simpa only [Hpc.lasting] using congrArg Hpc.last (lapse_lasting s)
@[simp] theorem lapse_settleTime (s : State) : s.lapse.hpc.settleTime = s.hpc.settleTime := by
  simpa only [Hpc.lasting] using congrArg Hpc.settleTime (lapse_lasting s)
@[simp] theorem lapse_holdTime (s : State) : s.lapse.hpc.holdTime = s.hpc.holdTime := by
  simpa only [Hpc.lasting] using congrArg Hpc.holdTime (lapse_lasting s)
@[simp] theorem lapse_release (s : State) : s.lapse.hpc.release = s.hpc.release := by
  simpa only [Hpc.lasting] using congrArg Hpc.release (lapse_lasting s)
@[simp] theorem lapse_releaseArmed (s : State) : s.lapse.hpc.releaseArmed = s.hpc.releaseArmed := by
  simpa only [Hpc.lasting] using congrArg Hpc.releaseArmed (lapse_lasting s)
@[simp] theorem lapse_handover (s : State) : s.lapse.hpc.handover = s.hpc.handover := by
  simpa only [Hpc.lasting] using congrArg Hpc.handover (lapse_lasting s)
@[simp] theorem lapse_handoverFailed (s : State) : s.lapse.hpc.handoverFailed = s.hpc.handoverFailed := by
  simpa only [Hpc.lasting] using congrArg Hpc.handoverFailed (lapse_lasting s)
@[simp] theorem lapse_retained (s : State) : s.lapse.hpc.retained = s.hpc.retained := by
  simpa only [Hpc.lasting] using congrArg Hpc.retained (lapse_lasting s)
@[simp] theorem lapse_request (s : State) : s.lapse.hpc.request = s.hpc.request := by
  simpa only [Hpc.lasting] using congrArg Hpc.request (lapse_lasting s)
@[simp] theorem lapse_withdrawalPending (s : State) : s.lapse.hpc.withdrawalPending = s.hpc.withdrawalPending := by
  simpa only [Hpc.lasting] using congrArg Hpc.withdrawalPending (lapse_lasting s)

/-- An insufficiency time of 0 lapses to 0. -/
theorem lapse_insufficiencyTime {s : State} (h : s.hpc.insufficiencyTime = 0) : s.lapse.hpc.insufficiencyTime = 0 := by
  show s.lapsedTimes.insufficiencyTime = 0
  unfold State.lapsedTimes
  split <;> simp [h]

/-! ## Parts kept -/

section
variable {s t u : State} {l m : List Block}

theorem State.keeps.trans (h : s.keeps t l) (k : t.keeps u m) : s.keeps u (l ++ m) := fun b other =>
  Block.same_trans (h b fun inside => other (List.mem_append_left m inside))
    (k b fun inside => other (List.mem_append_right l inside))

theorem State.keeps.mono (h : s.keeps t l) (more : l ⊆ m) : s.keeps t m := fun b other => h b fun inside => other (more inside)

theorem State.keeps.ended (h : s.keeps t l) : s.keeps t.lapse.drawn l := fun b other =>
  Block.same_trans (h b other) (ended_same t b)

/-- A part that stands as it was need not be listed. -/
theorem State.keeps.without (h : s.keeps t l) (b : Block) (same : b.same s t) : s.keeps t (l.erase b) := by
  intro x other
  by_cases e : x = b
  · exact e ▸ same
  · exact h x fun inside => other ((List.mem_erase_of_ne e).2 inside)

theorem State.framed.keeps (h : s.framed t) : s.keeps t [.csu, .hal, .hpc, .cpr, .pad, .sgi, .frb] := by
  intro b other
  cases b
  case wmt => exact h.wmt
  case glu => exact h.glu
  case pvt => exact h.pvt
  case vir => exact h.vir
  case mdc => exact congrArg Mdc.lasting h.mdc
  case queue => exact h.pending
  all_goals simp at other

theorem State.delivers.keeps (h : s.delivers t) : s.keeps t [.hal, .hpc, .cpr, .sgi] :=
  ((h.tosustains.touches.keeps.without .csu h.csu).without .frb h.frb)

end

/-- The CPR replaced. -/
def State.withCpr (s : State) (k : Cpr) : State := { s with cpr := k }

theorem withCpr_keeps (s : State) (k : Cpr) : s.keeps (s.withCpr k) [.cpr] := by
  intro b other
  cases b
  case cpr => simp at other
  all_goals rfl

/-- The HPC replaced. -/
def State.withHpc (s : State) (h : Hpc) : State := { s with hpc := h }

theorem withHpc_keeps (s : State) (h : Hpc) : s.keeps (s.withHpc h) [.hpc] := by
  intro b other
  cases b
  case hpc => simp at other
  all_goals rfl

theorem setArmed_keeps (s : State) (b : Bool) : s.keeps (s.setArmed b) [.hpc] := withHpc_keeps s _

/-! ## The driver and the triggers -/

/-- With the driver at the wheel and the ignition on no trigger of R113 stands. -/
theorem standingTrigger_attended {s : State} (h : s.attended) : s.standingTrigger = false := by
  obtain ⟨ignition, present⟩ := h
  simp [State.standingTrigger, ignition, present]

/-- Who drives is read from cab record and key line alone (R73). -/
theorem attended_of_same {s t : State} (cab : t.vir.cab = s.vir.cab) (key : t.mdc.key = s.mdc.key) (h : s.attended) :
    t.attended := by
  unfold State.attended State.ignition State.driverAbsent
  rw [cab, key]
  exact h

/-! ## The release conditions (R107) -/

theorem releaseConditions_iff (s : State) : s.releaseConditions = true ↔ (∃ g f, s.demand = some (g, f)
      ∧ (s.glu.uphill g = false ∨ s.hpc.last.fGrav ≤ 10 * f)) ∧ s.hpc.last.release.isSome = true ∧ s.csu.notice = false
    ∧ s.csu.nodeLevel ≤ 2 ∧ s.rearControl = false ∧ s.frb.banks.releasePermitted = true
    ∧ (∀ p ∈ s.pvt.entries, p.freshness = .fresh → p.decl.releasePermitted = true)
    ∧ (∀ p ∈ s.pvt.entries, p.lastAlert = none) ∧ s.hpc.releaseArmed = true ∧ s.hpc.withdrawalPending = false := by
  have consent : s.pvt.entries.all (fun e => !e.isFresh || e.decl.releasePermitted) = true
      ↔ ∀ p ∈ s.pvt.entries, p.freshness = .fresh → p.decl.releasePermitted = true := by
    simp [PeerEntry.isFresh, imp_iff_not_or]
  have quiet : (!s.anyLastAlert) = true ↔ ∀ p ∈ s.pvt.entries, p.lastAlert = none := by
    simp [State.anyLastAlert]
  rw [State.releaseConditions]
  cases demand : s.demand with
  | none => simp
  | some d =>
    obtain ⟨g, f⟩ := d
    simp only [Bool.and_eq_true, consent, quiet, Bool.not_eq_true', Bool.or_eq_true, decide_eq_true_eq, and_assoc,
      Option.some.injEq, Prod.mk.injEq, exists_and_left, exists_eq_left']

/-- Nothing opens a release: no drive demand, release armed clear, or a withdrawal pending (R107). -/
theorem releaseConditions_shut {s : State}
    (h : s.demand = none ∨ s.hpc.releaseArmed = false ∨ s.hpc.withdrawalPending = true) :
    s.releaseConditions = false := by
  refine Bool.eq_false_iff.2 fun opened => ?_
  obtain ⟨⟨g, f, demand, -⟩, -, -, -, -, -, -, -, armed, pending⟩ := (releaseConditions_iff s).1 opened
  rcases h with e | e | e
  · simp [demand] at e
  · simp [armed] at e
  · simp [pending] at e

/-! ## Nothing more acted on, phase by phase -/

section
variable {s : State} (before : State)

theorem react_capturing_idle (phase : s.inPhase .capturing = true) (trigger : s.standingTrigger = false) :
    State.react before s = s := by
  obtain ⟨run, capturing⟩ := (inPhase_iff s _).1 phase
  simp [State.react, run, State.reactRun, capturing, trigger]

theorem rearmRelease_eq (s : State) : s.rearmRelease = s.setArmed (s.hpc.releaseArmed || s.demand.isNone) := by
  unfold State.rearmRelease State.setArmed
  split <;> simp [*]

/-- Without a trigger and with the release shut HOLDING stands, but for release armed (R107, R113). -/
theorem conclude_holding (phase : s.inPhase .holding = true) (trigger : s.standingTrigger = false)
    (shut : s.demand = none ∨ s.hpc.releaseArmed = false ∨ s.hpc.withdrawalPending = true) :
    conclude before s = (s.setArmed (s.hpc.releaseArmed || s.demand.isNone)).lapse.drawn := by
  have idle {t : State} (phase : t.inPhase .holding = true) (trigger : t.standingTrigger = false)
      (shut : t.rearmRelease.releaseConditions = false) : State.react before t = t.rearmRelease := by
    obtain ⟨run, holding⟩ := (inPhase_iff t _).1 phase
    have quiet : t.rearmRelease.standingTrigger = false := by rw [rearmRelease_eq]; exact trigger
    simp [State.react, run, State.reactRun, holding, State.reactHolding, quiet, shut]
  have shut' : (s.setArmed (s.hpc.releaseArmed || s.demand.isNone)).releaseConditions = false := by
    refine releaseConditions_shut ?_
    rcases shut with e | e | e
    · exact .inl e
    · cases demand : s.demand with
      | none => exact .inl demand
      | some => exact .inr (.inl (by simp [State.setArmed, e]))
    · exact .inr (.inr e)
  have again : (s.setArmed (s.hpc.releaseArmed || s.demand.isNone)).rearmRelease
      = s.setArmed (s.hpc.releaseArmed || s.demand.isNone) := by
    have demand : (s.setArmed (s.hpc.releaseArmed || s.demand.isNone)).demand = s.demand := rfl
    rw [rearmRelease_eq, demand]
    simp [State.setArmed]
  refine conclude_settled ((idle phase trigger ?_).trans (rearmRelease_eq s)) ((idle ?_ ?_ ?_).trans again)
  · rwa [rearmRelease_eq]
  · exact phase
  · exact trigger
  · rwa [again]

/-- A handover with nothing to wait for and no drive-away that has come about (R119, R120). -/
theorem react_securing_idle {h : HandoverRecord} (phase : s.inPhase .securing = true) (held : s.hpc.handover = some h)
    (away : s.driveAway = before.driveAway) (wait : h.stage = .wait → s.judgeWait h = s) : State.react before s = s := by
  obtain ⟨run, securing⟩ := (inPhase_iff s _).1 phase
  have still : (s.driveAway && !before.driveAway) = false := by rw [away]; simp
  simp only [State.react, run, State.reactRun, securing, State.reactSecuring, still, held]
  simpa using wait

/-- SECURED with the ignition on and no drive-away (R123, R193). -/
theorem react_secured_idle (phase : s.inPhase .secured = true) (ignition : s.ignition = true)
    (away : s.driveAway = false) : State.react before s = s := by
  obtain ⟨run, secured⟩ := (inPhase_iff s _).1 phase
  simp [State.react, run, State.reactRun, secured, away, State.requestsWatch, ignition]

end

/-! ## Entry into HOLDING (R90) -/

section
variable (s : State) (base : Nat) (anew : Bool)

theorem enterHolding_hpc : (s.enterHolding base anew).hpc = { s.hpc with
    phase := .holding, pHold := max base s.hpc.last.pCalc, release := none, handover := none } := by
  rw [State.enterHolding, State.placeDeclaration_hpc]
  rfl

theorem enterHolding_cpr : (s.enterHolding base anew).cpr
    = s.cpr.take s.mdc.settings.pMax (max base s.hpc.last.pCalc) anew := by
  rw [State.enterHolding, State.placeDeclaration_cpr]
  rfl

theorem enterHolding_target :
    (s.enterHolding base anew).cpr.target = min s.mdc.settings.pMax (max base s.hpc.last.pCalc) := by
  rw [enterHolding_cpr, Cpr.take_target]

theorem enterHolding_framed : s.framed (s.enterHolding base anew) :=
  .trans (t := s.startHolding base anew) ⟨rfl, rfl, rfl, rfl, rfl, rfl, rfl, rfl⟩ (placeDeclaration_delivers _).toframed

theorem enterHolding_keeps : s.keeps (s.enterHolding base anew) [.hpc, .cpr, .sgi] := by
  intro b other
  cases b
  case hpc | cpr | sgi => simp at other
  all_goals simp [Block.same, State.enterHolding]

theorem enterHolding_inPhase (run : s.mdc.mode = .run) : (s.enterHolding base anew).inPhase .holding = true :=
  (inPhase_iff _ _).2 ⟨by rw [(enterHolding_framed s base anew).mdc, run], by rw [enterHolding_hpc]⟩

end

theorem State.framed.attended {s t : State} (h : s.framed t) (k : s.attended) : t.attended :=
  attended_of_same (by rw [h.vir]) (by rw [h.mdc]) k

end Sys2Proof.Machine

/-! PROOF. O43 refuted: its entry into RELEASING has no premise that the Park-Apply line is at its requests (R149). -/

namespace Sys2Proof.Machine

/-- A holding node whose line is off although the MDC requests it, against R149, with its spring sensor out of range. -/
def lineLeftOff : State :=
  let s := Tests.node .run .holding
  { s with
    hpc := { s.hpc with pHold := 300 }
    cpr := { s.cpr with target := 300 }
    pad := { s.pad with mdcRequest := true, asserted := false, sensor := .outOfRange } }

/-- The state after a command that goes through, and the one before it otherwise. -/
def State.after (s : State) (c : Instr) : State :=
  match exec c s with
  | .next t => t
  | _ => s

theorem after_of_next {s t : State} {c : Instr} (h : exec c s = .next t) : s.after c = t := by
  unfold State.after
  rw [h]

/-- At its release the line is asserted anew, and the apply drive gives a severe record at once (R155, R158, R201). -/
theorem lineLeftOff_responds : (lineLeftOff.after (.driveDemand [1, 0, 100, 0])).frb.responseActive = true := by decide

/-- Refutes O43: in its fourth part the fault record bank need not be kept. The drive demand moves `lineLeftOff` into
RELEASING, where the line, off until then, goes on for the MDC; the spring sensor is out of range, so the confirm timeout
is reported severe and the response flag goes on. -/
theorem not_releaseRampsDownOrAborts : ¬ Obligations.ReleaseRampsDownOrAborts := by
  rintro ⟨-, -, -, entry⟩
  obtain ⟨t, next, -, -, -, -, -, keeps⟩ := entry lineLeftOff [1, 0, 100, 0] ((decodeDrive [1, 0, 100, 0]).getD default)
    (by decide) (by decide) (by decide) (by decide) (by decide) (by decide) (by decide) (by decide) (by decide) (by decide)
    (by decide) (by decide) (by decide) (by decide) (by decide) (by decide) (by decide) (by decide)
  have kept : t.frb = lineLeftOff.frb := keeps .frb (by decide)
  have raised := lineLeftOff_responds
  rw [after_of_next next, kept] at raised
  exact absurd raised (by decide)

end Sys2Proof.Machine

/-! PROOF. O42: the settled report and the settle time (R105, R121, R139). -/

namespace Sys2Proof.Machine

/-! ## A reading that gives a settled report (R139) -/

theorem ownSide_not_inside {d : Direction} {target p : Nat} (own : d.ownSide target p = true) :
    insideBand target p = false := by
  cases d <;> simp_all [Direction.ownSide, insideBand]

theorem settleStep_inside {k : Cpr} (settled : k.settleStep.2 = true) : insideBand k.target k.measured = true := by
  by_contra outside
  simp [Cpr.settleStep, outside] at settled

/-- A reading on the operation's own side of the band ends no settle time: none of its timeouts comes with a settled
report (R136, R139). -/
theorem operationStep_settled {k : Cpr} (settled : k.operationStep.1.settleStep.2 = true) :
    k.operationStep.2 = .goesOn := by
  have inside := settleStep_inside settled
  unfold Cpr.operationStep at inside ⊢
  cases operation : k.operation with
  | none => rfl
  | some o =>
    simp only [operation] at inside ⊢
    split at inside <;> rename_i own
    · split at inside
      · simp [Cpr.timedOut, ownSide_not_inside own] at inside
      · simp [*]
    · simp only [own, Bool.false_eq_true, if_false]
      split <;> rfl

theorem read_settled {k : Cpr} {p : Int} (settled : (k.read p).2.settled = true) :
    (k.read p).2.reports = [] ∧ (k.read p).2.applyTimeout = false := by
  unfold Cpr.read at settled ⊢
  split at settled <;> rename_i range
  · simp only [range, if_true] at settled ⊢
    split at settled <;> rename_i regulating
    · have goesOn := operationStep_settled settled
      simp [regulating, Cpr.regulate, goesOn, Cpr.reportTimeout]
    · simp [PressureEvents.none] at settled
  · split at settled
    · split at settled <;> simp [PressureEvents.none] at settled
    · simp [PressureEvents.none] at settled

/-- SETTLED_REPORT at a reading that gives one hands the HPC that report alone (R105, R121, R132). -/
theorem exec_settledReport {s : State} {p : Int} (reading : s.cpr.reading = true)
    (settled : (s.cpr.read p).2.settled = true) :
    exec (.settledReport p) s = .next (conclude s (s.withCpr (s.cpr.read p).1).settled) := by
  obtain ⟨quiet, timeout⟩ := read_settled settled
  show Host.Outcome.next (conclude s (s.pressureIf (fun e => e.settled) p)) = _
  apply next_conclude
  simp [State.pressureIf, reading, settled, State.pressureRead, quiet, timeout, State.reportAll, State.withCpr]

/-! ## CAPTURING ends in HOLDING (R90, R105) -/

/-- The entry into HOLDING ends the command when nothing triggers and no drive is demanded. -/
theorem conclude_enterHolding {u : State} (before : State) {base : Nat} {anew : Bool} (run : u.mdc.mode = .run)
    (trigger : (u.enterHolding base anew).standingTrigger = false)
    (shut : u.demand = none ∨ u.hpc.releaseArmed = false ∨ u.hpc.withdrawalPending = true) :
    conclude before (u.enterHolding base anew)
      = ((u.enterHolding base anew).setArmed (u.hpc.releaseArmed || u.demand.isNone)).lapse.drawn := by
  have demand : (u.enterHolding base anew).demand = u.demand := demand_of_drive (by rw [(enterHolding_framed u base anew).vir])
  have armed : (u.enterHolding base anew).hpc.releaseArmed = u.hpc.releaseArmed := by rw [enterHolding_hpc]
  have pending : (u.enterHolding base anew).hpc.withdrawalPending = u.hpc.withdrawalPending := by rw [enterHolding_hpc]
  rw [← demand, ← armed]
  exact conclude_holding before (enterHolding_inPhase u base anew run) trigger (by rwa [demand, armed, pending])

theorem capturing_ends_holding {s : State} (k : Cpr) (capturing : s.inPhase .capturing = true) (demand : s.demand = none)
    (attended : s.attended) :
    ∃ t, conclude s ((s.withCpr k).enterHolding s.hpc.pHold false) = t
      ∧ (t.inPhase .holding = true ∧ t.hpc.pHold = max s.hpc.pHold s.hpc.last.pCalc
        ∧ t.cpr.target = min s.mdc.settings.pMax t.hpc.pHold)
      ∧ (t.hpc.pCap = s.hpc.pCap ∧ t.hpc.holdTime = s.hpc.holdTime)
      ∧ s.keeps t [.hpc, .cpr, .sgi] := by
  have run : (s.withCpr k).mdc.mode = .run := ((inPhase_iff s _).1 capturing).1
  have still : ((s.withCpr k).enterHolding s.hpc.pHold false).attended := (enterHolding_framed _ _ _).attended attended
  refine ⟨_, conclude_enterHolding s run (standingTrigger_attended still) (.inl demand), ⟨?_, ?_, ?_⟩, ⟨?_, ?_⟩, ?_⟩
  · rw [ended_inPhase]
    exact enterHolding_inPhase _ _ _ run
  · simp [State.setArmed, enterHolding_hpc, State.withCpr]
  · simp [State.setArmed, enterHolding_target, enterHolding_hpc, State.withCpr]
  · simp [State.setArmed, enterHolding_hpc, State.withCpr]
  · simp [State.setArmed, enterHolding_hpc, State.withCpr]
  · exact ((((withCpr_keeps s k).trans (enterHolding_keeps _ _ _)).trans (setArmed_keeps _ _)).ended).mono (by simp)

/-! ## The pending withdrawal (R121) -/

/-- The request withdrawn, with the line judged (R121, R149). -/
def State.withdrawing (s : State) : State :=
  ({ s with hpc := { s.hpc with withdrawalPending := false } } : State).handRequest false

theorem settled_withdraws {s : State} (holding : s.inPhase .holding = true) (pending : s.hpc.withdrawalPending = true) :
    s.settled = s.withdrawing.line := by
  obtain ⟨run, phase⟩ := (inPhase_iff s _).1 holding
  simp [State.settled, State.inPhase, run, phase, pending, State.withdrawing]

/-- Without an MDC request the line goes off, and nothing times out at that (R149, R156). -/
theorem withdrawing_line {s : State} (quiet : s.pad.mdcRequest = false) : s.withdrawing.line = s.withdrawing.judgeLine := by
  have idle : s.withdrawing.lineTimesOut = false := by
    simp [State.lineTimesOut, Pad.timesOut, Pad.asked, State.withdrawing, State.handRequest, quiet]
  rw [State.line, idle]
  rfl

theorem withdrawing_pad {s : State} (quiet : s.pad.mdcRequest = false) :
    s.withdrawing.judgeLine.pad.hpcRequest = .withdraw ∧ s.withdrawing.judgeLine.pad.asserted = false
      ∧ (s.pad.asserted = true → s.spring = true → s.withdrawing.judgeLine.pad.drive = .withdraw
        ∧ s.withdrawing.judgeLine.pad.driveTime = 0 ∧ s.withdrawing.judgeLine.pad.watch = .idle) := by
  have asked : s.withdrawing.pad.asked = false := by simp [Pad.asked, State.withdrawing, State.handRequest, quiet]
  refine ⟨Pad.judge_hpcRequest _ _, (Pad.judge_asserted _ _).trans asked, fun asserted spring => ?_⟩
  have judged : s.withdrawing.judgeLine.pad = s.withdrawing.pad.withdrawLine := by
    have on : s.withdrawing.pad.asserted = true := asserted
    have fitted : s.withdrawing.spring = true := spring
    show s.withdrawing.pad.judge s.withdrawing.spring = _
    simp [Pad.judge, asked, on, fitted]
  rw [judged]
  exact ⟨rfl, rfl, rfl⟩

theorem withdrawing_keeps (s : State) : s.keeps s.withdrawing.judgeLine [.hpc, .pad] := by
  intro b other
  cases b
  case hpc | pad => simp at other
  all_goals rfl

theorem holding_withdraws {s : State} (k : Cpr) (holding : s.inPhase .holding = true) (demand : s.demand = none)
    (attended : s.attended) :
    ∃ t, conclude s (s.withCpr k).withdrawing.judgeLine = t
      ∧ (t.inPhase .holding = true ∧ t.hpc.withdrawalPending = false)
      ∧ t.pad = (s.withCpr k).withdrawing.judgeLine.pad ∧ t.cpr = k
      ∧ s.keeps t [.hpc, .cpr, .pad] := by
  have ends := conclude_holding (s := (s.withCpr k).withdrawing.judgeLine) s holding (standingTrigger_attended attended)
    (.inl demand)
  refine ⟨_, ends, ⟨?_, ?_⟩, rfl, rfl, ?_⟩
  · rw [ended_inPhase]
    exact holding
  · simp [State.setArmed, State.withdrawing, State.handRequest]
  · exact ((((withCpr_keeps s k).trans (withdrawing_keeps _)).trans (setArmed_keeps _ _)).ended).mono (by simp)

/-- Settles O42, through `capturing_ends_holding` and `withdrawing_pad`. -/
theorem captureEndsInHolding : Obligations.CaptureEndsInHolding := by
  refine ⟨fun s c p capturing demand attended _ command => ?_,
    fun s p holding demand attended _ pending quiet reading settled => ?_⟩
  · rcases command with ⟨rfl, due⟩ | ⟨rfl, reading, settled⟩
    · obtain ⟨t, ends, spec⟩ := capturing_ends_holding s.cpr capturing demand attended
      refine ⟨t, ?_, spec⟩
      rw [← ends]
      show execCaptureSettleExpiry s = _
      simp [execCaptureSettleExpiry, capturing, due, State.withCpr]
    · obtain ⟨t, ends, spec⟩ := capturing_ends_holding (s.cpr.read p).1 capturing demand attended
      refine ⟨t, ?_, spec⟩
      have phase : (s.withCpr (s.cpr.read p).1).inPhase .capturing = true := capturing
      rw [exec_settledReport reading settled, State.settled, if_pos phase, ← ends]
      rfl
  · have phase : (s.withCpr (s.cpr.read p).1).inPhase .holding = true := holding
    obtain ⟨request, line, drive⟩ := withdrawing_pad (s := s.withCpr (s.cpr.read p).1) quiet
    obtain ⟨t, ends, spec, pad, cpr, keeps⟩ := holding_withdraws (s.cpr.read p).1 holding demand attended
    refine ⟨t, ?_, ⟨spec.1, spec.2, pad ▸ request, pad ▸ line⟩, pad ▸ drive, cpr, keeps⟩
    rw [exec_settledReport reading settled, settled_withdraws phase pending,
      withdrawing_line (s := s.withCpr (s.cpr.read p).1) quiet, ends]

end Sys2Proof.Machine

/-! PROOF. O44: the triggers of a handover (R113 to R115, R172). -/

namespace Sys2Proof.Machine

/-! ## Entry into SECURING (R115) -/

theorem enterSecuring_eq {s : State} (drives : s.drivesLine) :
    s.enterSecuring = s.startSecuring.judgeLine.placeDeclaration := by
  simp [State.enterSecuring, lineTimesOut_eq_false (startSecuring_drivesLine drives)]

theorem enterSecuring_hpc {s : State} (drives : s.drivesLine) : s.enterSecuring.hpc = { s.hpc with
    phase := .securing, handover := some s.newHandover, release := none, withdrawalPending := false
    holdTime := 0, insufficiencyTime := 0, releaseArmed := true, request := true } := by
  rw [enterSecuring_eq drives, State.placeDeclaration_hpc]
  rfl

theorem enterSecuring_cpr {s : State} (drives : s.drivesLine) : s.enterSecuring.cpr = s.cpr := by
  rw [enterSecuring_eq drives, State.placeDeclaration_cpr]
  rfl

theorem enterSecuring_hal {s : State} (drives : s.drivesLine) : s.enterSecuring.hal = s.hal := by
  rw [enterSecuring_eq drives, State.placeDeclaration_hal]
  rfl

theorem enterSecuring_keeps {s : State} (drives : s.drivesLine) : s.keeps s.enterSecuring [.csu, .hpc, .pad, .sgi] := by
  have secures := enterSecuring_secures drives
  refine (((secures.toframed.keeps.without .cpr (enterSecuring_cpr drives)).without .hal
    (enterSecuring_hal drives)).without .frb secures.frb).mono (by decide)

/-- A line that was off goes on: the coil is driven, and the confirm watch begins, on a spring-fitted node alone (R150,
R155). -/
theorem judge_asserts {p : Pad} (off : p.asserted = false) (sensor : p.sensor ≠ .outOfRange) :
    ({ p with hpcRequest := .assert }.judge true).drive = .apply ∧ ({ p with hpcRequest := .assert }.judge true).driveTime = 0
      ∧ ({ p with hpcRequest := .assert }.judge true).watch = .waiting
      ∧ ({ p with hpcRequest := .assert }.judge true).confirmTime = 0 := by
  simp [Pad.judge, Pad.asked, off, Pad.assertLine, sensor]

theorem judge_unfitted (p : Pad) : (p.judge false).drive = p.drive ∧ (p.judge false).watch = p.watch := by
  unfold Pad.judge
  split <;> simp

/-! ## The Alert of cause insufficient (R114, R172) -/

theorem placeAlert_keeps (s : State) (a : AlertCause) (l : Nat) (x : Int) : s.keeps (s.placeAlert a l x) [.sgi] := by
  intro b other
  cases b
  case sgi => simp at other
  all_goals simp [Block.same]

theorem insufficientAlert_mem {s : State} (run : s.mdc.mode = .run) (bus : s.sgi.bus ≠ .off) :
    ∃ f ∈ s.insufficientAlert.sgi.list, f.kind = .alert
      ∧ f.data = encodeAlert .insufficient s.csu.nodeLevel s.csu.alertCreep := by
  have may : s.mayPlace .alert = true := by simp [State.mayPlace, bus, run]
  have placed : s.insufficientAlert.sgi = s.sgi.place
      { kind := .alert, id := frameId s.number .alert
        data := encodeAlert .insufficient s.csu.nodeLevel s.csu.alertCreep } := by
    simp [State.insufficientAlert, State.placeAlert, AlertCause.givesWay, State.place, may]
  rw [placed]
  exact ⟨_, Sgi.mem_place _ _, rfl, rfl⟩

/-! ## The three expiries (R113, R114) -/

/-- One of the three expiries of R113 comes at its limit. -/
abbrev State.triggeredBy (s : State) (c : Instr) : Prop :=
  (c = .secureTimeExpiry ∧ sec s.mdc.settings.tSec ≤ s.hpc.holdTime)
  ∨ (c = .driverAbsentTimeExpiry ∧ s.driverAbsent = true ∧ sec 10 ≤ s.hpc.driverAbsentTime)
  ∨ (c = .insufficiencyTimeExpiry ∧ s.hpc.last.insufficient = true ∧ ms 500 ≤ s.hpc.insufficiencyTime)

/-- A state with its Alert of cause insufficient, which the insufficiency time brings, and no other expiry (R114). -/
structure State.alertsFor (s : State) (c : Instr) (u : State) : Prop where
  cases : u = s ∨ u = s.insufficientAlert
  insufficient : c = .insufficiencyTimeExpiry → u = s.insufficientAlert

theorem State.alertsFor.delivers {s u : State} {c : Instr} (h : s.alertsFor c u) : s.delivers u := by
  rcases h.cases with rfl | rfl
  · exact .refl _
  · exact placeAlert_delivers _ _ _ _

theorem State.alertsFor.hpc {s u : State} {c : Instr} (h : s.alertsFor c u) : u.hpc = s.hpc := by
  rcases h.cases with rfl | rfl <;> simp [State.insufficientAlert]

theorem State.alertsFor.cpr {s u : State} {c : Instr} (h : s.alertsFor c u) : u.cpr = s.cpr := by
  rcases h.cases with rfl | rfl <;> simp [State.insufficientAlert]

theorem State.alertsFor.keeps {s u : State} {c : Instr} (h : s.alertsFor c u) : s.keeps u [.sgi] := by
  rcases h.cases with rfl | rfl
  · exact (withCpr_keeps u u.cpr).without .cpr rfl |>.mono (by decide)
  · exact placeAlert_keeps _ _ _ _

theorem State.alertsFor.mem {s u : State} {c : Instr} (h : s.alertsFor c u) (run : s.mdc.mode = .run)
    (bus : s.sgi.bus ≠ .off) (insufficient : c = .insufficiencyTimeExpiry) : ∃ f ∈ u.sgi.list, f.kind = .alert
      ∧ f.data = encodeAlert .insufficient s.csu.nodeLevel s.csu.alertCreep := by
  rw [h.insufficient insufficient]
  exact insufficientAlert_mem run bus

theorem exec_trigger {s : State} {c : Instr} (hold : s.inPhase .capturing = true ∨ s.inPhase .holding = true)
    (due : s.triggeredBy c) : ∃ u, exec c s = .next (conclude s u) ∧ s.trigger.alertsFor c u := by
  have either : (s.inPhase .capturing || s.inPhase .holding) = true := by simpa using hold
  rcases due with ⟨rfl, time⟩ | ⟨rfl, absent, time⟩ | ⟨rfl, insufficient, time⟩
  · refine ⟨s.trigger, ?_, .inl rfl, by simp⟩
    show execSecureTimeExpiry s = _
    simp [execSecureTimeExpiry, either, time]
  · refine ⟨s.trigger, ?_, .inl rfl, by simp⟩
    show execDriverAbsentTimeExpiry s = _
    simp [execDriverAbsentTimeExpiry, either, absent, time]
  · refine ⟨s.trigger.insufficientAlert, ?_, .inr rfl, fun _ => rfl⟩
    show execInsufficiencyTimeExpiry s = _
    simp [execInsufficiencyTimeExpiry, State.timesInsufficiency, either, insufficient, time, State.insufficientFor500]

/-! ## The trigger in a hold (R113, R115, R119) -/

theorem driveAway_of_same {s t : State} (vir : t.vir = s.vir) (mdc : t.mdc = s.mdc) : t.driveAway = s.driveAway := by
  have demand : t.demand = s.demand := demand_of_drive (by rw [vir])
  unfold State.driveAway State.driverAbsent State.ignition
  rw [demand, vir, mdc]

/-- WAIT goes on while a fresh spring-fitted peer does not yet show SECURED (R119). -/
theorem judgeWait_waits {s : State} {h : HandoverRecord}
    (waits : s.springPeers.any (fun e => e.decl.phase != .phase .secured) = true) : s.judgeWait h = s := by
  obtain ⟨e, peer, phase⟩ := List.any_eq_true.1 waits
  have some : s.springPeers.isEmpty = false := by
    cases peers : s.springPeers with
    | nil => simp [peers] at peer
    | cons => rfl
  have notAll : s.springPeers.all (fun e => e.decl.phase == .phase .secured) = false :=
    List.all_eq_false.2 ⟨e, peer, by simpa using phase⟩
  simp [State.judgeWait, some, notAll]

section
variable {s u : State} {c : Instr}

/-- A handover that has just begun stands at the end of the command (R115, R119). -/
theorem conclude_secured_now (hold : s.inPhase .capturing = true ∨ s.inPhase .holding = true) (drives : s.drivesLine)
    (goes : s.spring = true ∨ s.springPeers.any (fun e => e.decl.phase != .phase .secured) = true)
    (alerts : s.enterSecuring.alertsFor c u) : conclude s u = u.lapse.drawn := by
  have secures := enterSecuring_secures drives
  have framed := secures.toframed.trans alerts.delivers.toframed
  have run : s.mdc.mode = .run := by rcases hold with h | h <;> exact ((inPhase_iff s _).1 h).1
  have phase : u.inPhase .securing = true :=
    (alerts.delivers.inPhase _).trans (secures.inPhase run)
  have held : u.hpc.handover = some s.newHandover := by rw [alerts.hpc, secures.handover]
  refine conclude_fixed (react_securing_idle s phase held (driveAway_of_same framed.vir framed.mdc) fun wait => ?_)
  refine judgeWait_waits ?_
  have unfitted : s.spring ≠ true := fun spring => by simp [State.newHandover, spring] at wait
  unfold State.springPeers
  rw [framed.pvt]
  exact goes.resolve_left unfitted

theorem triggered_state (hold : s.inPhase .capturing = true ∨ s.inPhase .holding = true)
    (sound : s.hpc.handoverFailed = false) (drives : s.drivesLine)
    (goes : s.spring = true ∨ s.springPeers.any (fun e => e.decl.phase != .phase .secured) = true)
    (due : s.triggeredBy c) :
    ∃ t, exec c s = .next t
      ∧ (t.inPhase .securing = true ∧ t.hpc.handover = some s.newHandover)
      ∧ (t.hpc.holdTime = 0 ∧ t.hpc.insufficiencyTime = 0 ∧ t.hpc.releaseArmed = true
        ∧ t.hpc.withdrawalPending = false)
      ∧ (t.pad.hpcRequest = .assert ∧ t.pad.asserted = true ∧ t.hpc.pHold = s.hpc.pHold ∧ t.cpr = s.cpr)
      ∧ t.csu = { s.csu with notice := false, noticeBase := max 0 s.csu.alertCreep }
      ∧ (c = .insufficiencyTimeExpiry → s.sgi.bus ≠ .off → ∃ f ∈ t.sgi.list, f.kind = .alert
        ∧ f.data = encodeAlert .insufficient s.csu.nodeLevel s.csu.alertCreep)
      ∧ t.pad = { s.pad with hpcRequest := .assert }.judge s.spring
      ∧ s.keeps t [.csu, .hpc, .pad, .sgi] := by
  obtain ⟨u, next, alerts⟩ := exec_trigger hold due
  rw [State.trigger, sound, if_neg (by decide)] at alerts
  have secures := enterSecuring_secures drives
  have hpc := alerts.hpc.trans (enterSecuring_hpc drives)
  have run : s.mdc.mode = .run := by rcases hold with h | h <;> exact ((inPhase_iff s _).1 h).1
  have pad : u.pad = s.enterSecuring.pad := alerts.delivers.pad
  rw [conclude_secured_now hold drives goes alerts] at next
  refine ⟨_, next, ⟨?_, ?_⟩, ⟨?_, ?_, ?_, ?_⟩, ⟨?_, ?_, ?_, ?_⟩, ?_, fun insufficient bus => ?_, ?_, ?_⟩
  · rw [ended_inPhase, alerts.delivers.inPhase, secures.inPhase run]
  · simp [hpc]
  · simp [hpc]
  · exact lapse_insufficiencyTime (by rw [hpc])
  · simp [hpc]
  · simp [hpc]
  · exact (congrArg Pad.hpcRequest pad).trans secures.hpcRequest
  · exact (congrArg Pad.asserted pad).trans secures.asserted
  · simp [hpc]
  · exact alerts.cpr.trans (enterSecuring_cpr drives)
  · exact alerts.delivers.csu.trans secures.csu
  · have placed := alerts.mem (by rw [secures.mdc, run]) (by rwa [secures.bus]) insufficient
    rwa [secures.csu] at placed
  · exact pad.trans secures.pad
  · exact (((enterSecuring_keeps drives).trans alerts.keeps).ended).mono (by simp)

end

/-- Settles O44: `triggered_state` with handover failed clear, `conclude_failed` with it set. -/
theorem secureTriggersHandOver : Obligations.SecureTriggersHandOver := by
  refine ⟨fun s c hold sound _ spring sensor due => ?_, fun s c hold sound _ unfitted peers due => ?_,
    fun s c hold failed demand due => ?_⟩
  · obtain ⟨t, next, ⟨phase, handover⟩, times, kept, csu, alert, pad, keeps⟩ :=
      triggered_state hold sound (.inr sensor) (.inl spring) due
    refine ⟨t, next, ⟨phase, ?_⟩, times, kept, csu, alert, fun off => ?_, keeps⟩
    · rw [handover, State.newHandover, spring, if_pos rfl]
    · rw [pad, spring]
      exact judge_asserts off sensor
  · obtain ⟨t, next, ⟨phase, handover⟩, times, kept, csu, alert, pad, keeps⟩ :=
      triggered_state hold sound (.inl unfitted) (.inr peers) due
    refine ⟨t, next, ⟨phase, ?_⟩, times, kept, csu, alert, ?_, keeps⟩
    · rw [handover, State.newHandover, unfitted, if_neg (by decide)]
    · rw [pad, unfitted]
      exact judge_unfitted _
  · obtain ⟨u, next, alerts⟩ := exec_trigger hold due
    rw [State.trigger, failed, if_pos rfl] at alerts
    have delivers := alerts.delivers
    have run : s.mdc.mode = .run := by rcases hold with h | h <;> exact ((inPhase_iff s _).1 h).1
    obtain ⟨armed, ends⟩ := conclude_failed (s := u) s (by rwa [delivers.inPhase, delivers.inPhase])
      (delivers.failed.trans failed) ((demand_of_drive (by rw [delivers.vir])).trans demand)
    rw [ends] at next
    refine ⟨_, next, ⟨?_, ?_, ?_, ?_⟩, fun insufficient bus => alerts.mem run bus insufficient, ?_⟩
    · simp [State.setArmed, alerts.hpc]
    · simp [State.setArmed, alerts.hpc, failed]
    · simp [State.setArmed, alerts.hpc]
    · simp [State.setArmed, alerts.hpc]
    · exact ((alerts.keeps.trans (setArmed_keeps u armed)).ended).mono (by simp)

end Sys2Proof.Machine

/-! PROOF. The stages of a handover (R116, R117, R119, R122, R157, R158). -/

namespace Sys2Proof.Machine

/-! ## Entry into SECURED (R122) -/

section
variable (s : State)

theorem enterSecured_hpc : s.enterSecured.hpc = { s.hpc with phase := .secured, handover := none, release := none } := by
  rw [State.enterSecured, State.placeDeclaration_hpc]
  rfl

theorem enterSecured_keeps : s.keeps s.enterSecured [.csu, .hpc, .cpr, .sgi] := by
  intro b other
  cases b
  case csu | hpc | cpr | sgi => simp at other
  all_goals simp [Block.same, State.enterSecured, State.startSecured, State.handTarget]

/-- With the ignition on and no drive-away SECURED ends the command (R123, R193). -/
theorem conclude_enterSecured (before : State) (run : s.mdc.mode = .run) (ignition : s.ignition = true)
    (away : s.driveAway = false) : conclude before s.enterSecured = s.enterSecured.lapse.drawn := by
  obtain ⟨framed, phase, -⟩ := enterSecured_spec s
  have key : s.enterSecured.ignition = true := by
    unfold State.ignition
    rw [framed.vir, framed.mdc]
    exact ignition
  exact conclude_fixed (react_secured_idle before ((inPhase_iff _ _).2 ⟨framed.mode.trans run, phase⟩) key
    ((driveAway_of_same framed.vir framed.mdc).trans away))

end

/-! ## The end of SETTLE and the ramp (R116) -/

section
variable {s : State} {h : HandoverRecord}

/-- The handover record replaced. -/
def State.withHandover (s : State) (h : Option HandoverRecord) : State := s.withHpc { s.hpc with handover := h }

theorem withHandover_keeps (s : State) (h : Option HandoverRecord) : s.keeps (s.withHandover h) [.hpc] := withHpc_keeps s _

/-- A handover that has come to its end is SECURED at the end of the command (R116, R122). -/
theorem handover_ends_secured (held : Option HandoverRecord) (run : s.mdc.mode = .run) (ignition : s.ignition = true)
    (away : s.driveAway = false) :
    ∃ t, conclude s (s.withHandover held).enterSecured = t
      ∧ (t.inPhase .secured = true ∧ t.hpc.handover = none
        ∧ t.cpr.target = min s.mdc.settings.pMax (s.hpc.retained.getD s.mdc.settings.pPush) ∧ t.csu.notice = false)
      ∧ (t.hpc.pHold = s.hpc.pHold ∧ t.hpc.request = s.hpc.request)
      ∧ s.keeps t [.csu, .hpc, .cpr, .sgi] := by
  obtain ⟨framed, phase, none, -, target, csu, -⟩ := enterSecured_spec (s.withHandover held)
  refine ⟨_, conclude_enterSecured (s.withHandover held) s run ignition away, ⟨?_, ?_, target, ?_⟩, ⟨?_, ?_⟩, ?_⟩
  · rw [ended_inPhase]
    exact (inPhase_iff _ _).2 ⟨framed.mode.trans run, phase⟩
  · simp [none]
  · exact congrArg Csu.notice csu
  · simp [enterSecured_hpc, State.withHandover, State.withHpc]
  · simp [enterSecured_hpc, State.withHandover, State.withHpc]
  · exact (((withHandover_keeps s held).trans (enterSecured_keeps _)).ended).mono (by simp)

/-- A stage other than WAIT goes on to the end of the command (R116, R120). -/
theorem handover_goes_on {u : State} (held : u.hpc.handover = some h) (phase : u.inPhase .securing = true)
    (stage : h.stage ≠ .wait) (vir : u.vir = s.vir) (mdc : u.mdc = s.mdc) : conclude s u = u.lapse.drawn :=
  conclude_fixed (react_securing_idle s phase held (driveAway_of_same vir mdc) fun wait => absurd wait stage)

theorem exec_handoverSettleExpiry (securing : s.inPhase .securing = true) (held : s.hpc.handover = some h)
    (settle : h.stage = .settle) (time : ms 1000 ≤ h.stageTime) :
    exec .handoverSettleExpiry s = .next (conclude s (s.endSettle h)) := by
  show execHandoverSettleExpiry s = _
  simp [execHandoverSettleExpiry, held, securing, settle, time]

theorem exec_handoverRampStep (securing : s.inPhase .securing = true) (held : s.hpc.handover = some h)
    (ramp : h.stage = .ramp) (time : ms 5 ≤ h.stageTime) :
    exec .handoverRampStep s = .next (conclude s (s.rampHandover h)) := by
  show execHandoverRampStep s = _
  simp [execHandoverRampStep, held, securing, ramp, time]

theorem settle_ends (securing : s.inPhase .securing = true) (held : s.hpc.handover = some h)
    (settle : h.stage = .settle) (time : ms 1000 ≤ h.stageTime) (ignition : s.ignition = true)
    (away : s.driveAway = false) :
    ∃ t, exec .handoverSettleExpiry s = .next t
      ∧ (s.mdc.settings.pPush < h.preHold → t.inPhase .securing = true
        ∧ t.hpc.handover = some { h with stage := .ramp, stageTime := 0 } ∧ t.cpr = s.cpr ∧ t.csu = s.csu)
      ∧ (h.preHold ≤ s.mdc.settings.pPush → t.inPhase .secured = true ∧ t.hpc.handover = none
        ∧ t.cpr.target = min s.mdc.settings.pMax (s.hpc.retained.getD s.mdc.settings.pPush) ∧ t.csu.notice = false)
      ∧ (t.hpc.pHold = s.hpc.pHold ∧ t.hpc.request = s.hpc.request)
      ∧ s.keeps t [.csu, .hpc, .cpr, .sgi] := by
  have run : s.mdc.mode = .run := ((inPhase_iff s _).1 securing).1
  rw [exec_handoverSettleExpiry securing held settle time, State.endSettle]
  split
  · rename_i low
    obtain ⟨t, ends, secured, kept, keeps⟩ := handover_ends_secured s.hpc.handover run ignition away
    exact ⟨t, congrArg _ ends, fun high => absurd low (Nat.not_le.2 high), fun _ => secured, kept, keeps⟩
  · rename_i high
    have goes := handover_goes_on (s := s) (u := s.withHandover (some { h with stage := .ramp, stageTime := 0 })) rfl
      securing (by simp) rfl rfl
    refine ⟨_, congrArg _ goes, fun _ => ⟨?_, ?_, rfl, rfl⟩, fun low => absurd low high, ⟨?_, ?_⟩, ?_⟩
    · rw [ended_inPhase]
      exact securing
    · simp [State.withHandover, State.withHpc]
    · simp [State.withHandover, State.withHpc]
    · simp [State.withHandover, State.withHpc]
    · exact ((withHandover_keeps s _).ended).mono (by simp)

theorem handTarget_keeps (s : State) (v : Nat) (anew : Bool) : s.keeps (s.handTarget v anew) [.cpr] := withCpr_keeps s _

theorem ramp_steps (securing : s.inPhase .securing = true) (held : s.hpc.handover = some h) (ramp : h.stage = .ramp)
    (time : ms 5 ≤ h.stageTime) (ignition : s.ignition = true) (away : s.driveAway = false)
    (within : s.cpr.target ≤ s.mdc.settings.pMax) :
    ∃ t, exec .handoverRampStep s = .next t
      ∧ (s.mdc.settings.pPush < s.cpr.target - 1 → t.inPhase .securing = true
        ∧ t.hpc.handover = some { h with stageTime := h.stageTime - ms 5 } ∧ t.cpr.target = s.cpr.target - 1
          ∧ t.csu = s.csu)
      ∧ (s.cpr.target - 1 ≤ s.mdc.settings.pPush → t.inPhase .secured = true ∧ t.hpc.handover = none
        ∧ t.cpr.target = min s.mdc.settings.pMax (s.hpc.retained.getD s.mdc.settings.pPush) ∧ t.csu.notice = false)
      ∧ (t.hpc.pHold = s.hpc.pHold ∧ t.hpc.request = s.hpc.request)
      ∧ s.keeps t [.csu, .hpc, .cpr, .sgi] := by
  have run : s.mdc.mode = .run := ((inPhase_iff s _).1 securing).1
  rw [exec_handoverRampStep securing held ramp time, State.rampHandover]
  dsimp only
  split
  · rename_i low
    obtain ⟨t, ends, secured, kept, keeps⟩ :=
      handover_ends_secured (some { h with stageTime := h.stageTime - ms 5 }) run ignition away
    exact ⟨t, congrArg _ ends, fun high => absurd low (Nat.not_le.2 high), fun _ => secured, kept, keeps⟩
  · rename_i high
    have goes := handover_goes_on (s := s)
      (u := (s.withHandover (some { h with stageTime := h.stageTime - ms 5 })).handTarget (s.cpr.target - 1) false) rfl
      securing (by rw [ramp]; decide) rfl rfl
    refine ⟨_, congrArg _ goes, fun _ => ⟨?_, ?_, ?_, rfl⟩, fun low => absurd low high, ⟨?_, ?_⟩, ?_⟩
    · rw [ended_inPhase]
      exact securing
    · simp [State.withHandover, State.withHpc, State.handTarget]
    · exact (Cpr.take_target _ _ _ _).trans (min_eq_right (by show s.cpr.target - 1 ≤ s.mdc.settings.pMax; omega))
    · simp [State.withHandover, State.withHpc, State.handTarget]
    · simp [State.withHandover, State.withHpc, State.handTarget]
    · exact (((withHandover_keeps s _).trans (handTarget_keeps _ _ _)).ended).mono (by simp)

/-! ## CONFIRM (R117, R157, R158) -/

/-- An in-range reading below 50 kPa confirms a waiting watch, and no more (R157). -/
theorem read_confirms {k : Pad} {p : Int} (waiting : k.watch = .waiting) (range : -20 ≤ p ∧ p < 50) :
    (k.read p).1.watch = .confirmed ∧ (k.read p).1.asserted = k.asserted
      ∧ (k.read p).2 = { SpringEvents.none with confirmed := true } := by
  have inside : pressureInRange p = true := by simp [pressureInRange]; omega
  have low : pressureClamped p < 50 := by simp only [pressureClamped, clamp]; omega
  have below : ¬ 100 ≤ pressureClamped p := by omega
  cases line : k.asserted <;>
    simp [Pad.read, inside, Pad.confirmTest, waiting, low, Pad.lostTest, line, below, SpringEvents.none]

end

/-- The PAD replaced. -/
def State.withPad (s : State) (p : Pad) : State := { s with pad := p }

theorem withPad_keeps (s : State) (p : Pad) : s.keeps (s.withPad p) [.pad] := by
  intro b other
  cases b
  case pad => simp at other
  all_goals rfl

section
variable {s : State} {h : HandoverRecord}

/-- SETTLE begun, with Notice re-armed (R116). -/
theorem confirmed_eq (securing : s.inPhase .securing = true) (held : s.hpc.handover = some h)
    (confirm : h.stage = .confirm) : s.confirmed
      = { s with hpc := { s.hpc with handover := some { h with stage := .settle, stageTime := 0 } }
                 csu := s.csu.rearm } := by
  simp [State.confirmed, held, securing, confirm]

theorem confirmed_keeps (s : State) : s.keeps s.confirmed [.csu, .hpc] := by
  intro b other
  unfold State.confirmed
  cases b
  case csu | hpc => simp at other
  all_goals
    split
    · split <;> rfl
    · rfl

theorem exec_springReading {p : Int} (spring : s.spring = true) (reading : s.pad.reading = true)
    (events : (s.pad.read p).2 = { SpringEvents.none with confirmed := true }) :
    exec (.springReading p) s = .next (conclude s (s.withPad (s.pad.read p).1).confirmed) := by
  show execSpringReading p s = _
  simp [execSpringReading, State.springIf, spring, reading, State.springRead, events, SpringEvents.none, State.withPad]

theorem reading_confirms {p : Int} (securing : s.inPhase .securing = true) (held : s.hpc.handover = some h)
    (confirm : h.stage = .confirm) (spring : s.spring = true) (reading : s.pad.reading = true)
    (waiting : s.pad.watch = .waiting) (range : -20 ≤ p ∧ p < 50) :
    ∃ t, exec (.springReading p) s = .next t
      ∧ (t.inPhase .securing = true ∧ t.hpc.handover = some { h with stage := .settle, stageTime := 0 }
        ∧ t.pad.watch = .confirmed ∧ t.csu.notice = false ∧ t.pad.asserted = s.pad.asserted)
      ∧ t.frb = s.frb
      ∧ s.keeps t [.csu, .hpc, .pad] := by
  obtain ⟨watch, line, events⟩ := read_confirms waiting range
  have begun := confirmed_eq (s := s.withPad (s.pad.read p).1) securing held confirm
  have keeps := (withPad_keeps s (s.pad.read p).1).trans (confirmed_keeps _)
  have handover : (s.withPad (s.pad.read p).1).confirmed.hpc.handover = some { h with stage := .settle, stageTime := 0 } := by
    rw [begun]
  have phase : (s.withPad (s.pad.read p).1).confirmed.inPhase .securing = true := by
    rw [begun]
    exact securing
  have pad : (s.withPad (s.pad.read p).1).confirmed.pad = (s.pad.read p).1 := confirmed_keeps _ .pad (by decide)
  have goes := handover_goes_on (s := s) handover phase (by simp) (by rw [begun]; rfl) (by rw [begun]; rfl)
  refine ⟨_, (exec_springReading spring reading events).trans (congrArg _ goes), ⟨?_, ?_, ?_, ?_, ?_⟩, ?_,
    keeps.ended.mono (by simp)⟩
  · rwa [ended_inPhase]
  · simp [handover]
  · exact (congrArg Pad.watch pad).trans watch
  · simp [begun, Csu.rearm]
  · exact (congrArg Pad.asserted pad).trans line
  · exact keeps.ended .frb (by decide)

/-- A report without hold-compromised into an empty bank leaves hold-compromised as it was (R202). -/
theorem holdCompromised_store {b : Banks} {k : Bank} {r : FaultRecord} (empty : b.get k = none)
    (plain : r.holdCompromised = false) : (b.store k r).holdCompromised = b.holdCompromised := by
  have stored : (overwrite (b.get k) r).holdCompromised = false := by rw [empty]; exact plain
  cases k <;> simp_all [Banks.store, Banks.put, Banks.get, Banks.holdCompromised, Banks.records]

/-- The confirm timeout's report is stored, and no more, while the SPRING bank is empty and no severe one stands (R158,
R201, R202). -/
theorem report_confirmTimeout (clear : s.frb.responseActive = false) (empty : s.frb.banks.spring = none) :
    s.report confirmTimeoutReport = s.storeReport confirmTimeoutReport := by
  have same : (s.storeReport confirmTimeoutReport).frb.banks.holdCompromised = s.frb.banks.holdCompromised := by
    rw [State.storeReport_frb]
    exact holdCompromised_store (k := .spring) empty rfl
  rw [State.report, secondSevere_first clear, State.handCompromise, if_pos same]
  rfl

theorem handoverFails_eq (securing : s.inPhase .securing = true) (held : s.hpc.handover = some h)
    (confirm : h.stage = .confirm) : s.handoverFails
      = (s.withHpc { s.hpc with handoverFailed := true, holdTime := 0 }).enterHolding h.preHold false := by
  simp [State.handoverFails, held, securing, confirm, State.withHpc]

/-- The watch timed out, with its report stored (R158). -/
def State.timeoutStored (s : State) : State :=
  (s.withPad { s.pad with watch := .timedOut }).storeReport confirmTimeoutReport

theorem timeoutStored_hpc (s : State) : s.timeoutStored.hpc = s.hpc := by simp [State.timeoutStored, State.withPad]
theorem timeoutStored_mdc (s : State) : s.timeoutStored.mdc = s.mdc := by simp [State.timeoutStored, State.withPad]
theorem timeoutStored_pad (s : State) : s.timeoutStored.pad = { s.pad with watch := .timedOut } := by
  simp [State.timeoutStored, State.withPad]

theorem timeoutStored_frb (s : State) : s.timeoutStored.frb
    = { banks := s.frb.banks.store .spring (s.complete confirmTimeoutReport), responseActive := true } := by
  rw [State.timeoutStored, State.storeReport_frb]
  exact congrArg (Frb.mk _) (Bool.or_true _)

theorem timeoutStored_keeps (s : State) : s.keeps s.timeoutStored [.pad, .sgi, .frb] :=
  (withPad_keeps s _).trans (storeReport_touches _ _).keeps

/-- The handover given up (R117). -/
def State.givenUp (s : State) (base : Nat) : State :=
  (s.timeoutStored.withHpc { s.hpc with handoverFailed := true, holdTime := 0 }).enterHolding base false

theorem exec_confirmTimeout (securing : s.inPhase .securing = true) (held : s.hpc.handover = some h)
    (confirm : h.stage = .confirm) (spring : s.spring = true) (waiting : s.pad.watch = .waiting)
    (time : ms 1500 ≤ s.pad.confirmTime) (clear : s.frb.responseActive = false) (empty : s.frb.banks.spring = none) :
    exec .confirmTimeout s = .next (conclude s (s.givenUp h.preHold)) := by
  obtain ⟨run, phase⟩ := (inPhase_iff s _).1 securing
  have inSecuring : s.timeoutStored.inPhase .securing = true :=
    (inPhase_iff _ _).2 ⟨by rw [timeoutStored_mdc, run], by rw [timeoutStored_hpc, phase]⟩
  have fails := handoverFails_eq inSecuring (by rw [timeoutStored_hpc, held]) confirm
  have body : (s.withPad { s.pad with watch := .timedOut }).confirmTimedOut = s.givenUp h.preHold := by
    rw [State.confirmTimedOut, report_confirmTimeout (s := s.withPad { s.pad with watch := .timedOut }) clear empty]
    rwa [timeoutStored_hpc] at fails
  show execConfirmTimeout s = _
  rw [← body]
  simp [execConfirmTimeout, spring, waiting, time, State.withPad]

theorem givenUp_hpc (s : State) (base : Nat) : (s.givenUp base).hpc = { s.hpc with
    handoverFailed := true, holdTime := 0, phase := .holding, pHold := max base s.hpc.last.pCalc
    release := none, handover := none } := enterHolding_hpc _ _ _

theorem givenUp_inPhase (run : s.mdc.mode = .run) (base : Nat) : (s.givenUp base).inPhase .holding = true :=
  enterHolding_inPhase _ _ _ (by rw [← run, ← timeoutStored_mdc s]; rfl)

theorem givenUp_target (s : State) (base : Nat) :
    (s.givenUp base).cpr.target = min s.mdc.settings.pMax (max base s.hpc.last.pCalc) := by
  rw [State.givenUp, enterHolding_target, ← timeoutStored_mdc s]
  rfl

theorem givenUp_keeps (s : State) (base : Nat) : s.keeps (s.givenUp base) [.hpc, .cpr, .pad, .sgi, .frb] :=
  (((timeoutStored_keeps s).trans (withHpc_keeps _ _)).trans (enterHolding_keeps _ base false)).mono (by simp)

theorem givenUp_pad (s : State) (base : Nat) : (s.givenUp base).pad = { s.pad with watch := .timedOut } :=
  (enterHolding_keeps _ base false .pad (by decide)).trans (timeoutStored_pad s)

theorem givenUp_frb (s : State) (base : Nat) : (s.givenUp base).frb
    = { banks := s.frb.banks.store .spring (s.complete confirmTimeoutReport), responseActive := true } :=
  (enterHolding_keeps _ base false .frb (by decide)).trans (timeoutStored_frb s)

/-- A confirm timeout ends the handover in HOLDING with handover failed, and the line kept (R117, R158). -/
theorem timeout_ends (securing : s.inPhase .securing = true) (held : s.hpc.handover = some h)
    (confirm : h.stage = .confirm) (spring : s.spring = true) (waiting : s.pad.watch = .waiting)
    (time : ms 1500 ≤ s.pad.confirmTime) (demand : s.demand = none) (clear : s.frb.responseActive = false)
    (empty : s.frb.banks.spring = none) :
    ∃ t, exec .confirmTimeout s = .next t
      ∧ (t.inPhase .holding = true ∧ t.hpc.handoverFailed = true ∧ t.hpc.handover = none ∧ t.hpc.holdTime = 0
        ∧ t.hpc.request = s.hpc.request)
      ∧ (t.hpc.pHold = max h.preHold s.hpc.last.pCalc ∧ t.cpr.target = min s.mdc.settings.pMax t.hpc.pHold)
      ∧ t.pad = { s.pad with watch := .timedOut }
      ∧ t.frb = { banks := s.frb.banks.store .spring (s.complete confirmTimeoutReport), responseActive := true }
      ∧ s.keeps t [.hpc, .cpr, .pad, .sgi, .frb] := by
  have hpc := givenUp_hpc s h.preHold
  have phase : (s.givenUp h.preHold).inPhase .holding = true := givenUp_inPhase ((inPhase_iff s _).1 securing).1 _
  have keeps := givenUp_keeps s h.preHold
  obtain ⟨armed, ends⟩ := conclude_failed (s := s.givenUp h.preHold) s (.inr phase) (by rw [hpc])
    ((demand_of_drive (congrArg Vir.drive (keeps .vir (by decide)))).trans demand)
  refine ⟨_, (exec_confirmTimeout securing held confirm spring waiting time clear empty).trans (congrArg _ ends),
    ⟨?_, ?_, ?_, ?_, ?_⟩, ⟨?_, ?_⟩, ?_, ?_, ((keeps.trans (setArmed_keeps _ armed)).ended).mono (by simp)⟩
  · rwa [ended_inPhase]
  · simp [State.setArmed, hpc]
  · simp [State.setArmed, hpc]
  · simp [State.setArmed, hpc]
  · simp [State.setArmed, hpc]
  · simp [State.setArmed, hpc]
  · simp [State.setArmed, hpc, givenUp_target]
  · simp [State.setArmed, givenUp_pad]
  · simp [State.setArmed, givenUp_frb]

/-! ## WAIT (R119) -/

/-- Without a fresh spring-fitted peer WAIT goes on, and says so once (R119). -/
theorem judgeWait_alone (alone : s.springPeers = []) : s.judgeWait h = if h.noSpringReported then s
    else (s.withHandover (some { h with noSpringReported := true })).report noSpringReport := by
  simp [State.judgeWait, alone, State.withHandover, State.withHpc]

theorem judgeWait_ready (there : s.springPeers ≠ []) (ready : ∀ p ∈ s.springPeers, p.decl.phase = .phase .secured) :
    s.judgeWait h = s.endWait h := by
  have all : s.springPeers.all (fun e => e.decl.phase == .phase .secured) = true := by simpa using ready
  simp [State.judgeWait, there, all]

end

/-- WAIT judged in its four cases: alone, waiting for a peer, and ready with and without a ramp. -/
theorem wait_is_judged (s : State) (h : HandoverRecord) (securing : s.inPhase .securing = true) :
    (s.springPeers = [] → h.noSpringReported = true → s.judgeWait h = s)
    ∧ (s.springPeers = [] → h.noSpringReported = false → s.free.laneFault = none
      → (s.judgeWait h).hpc.handover = some { h with noSpringReported := true }
        ∧ (s.judgeWait h).frb = { s.frb with banks := s.frb.banks.store .spring (s.complete noSpringReport) }
          ∧ (s.judgeWait h).hpc.phase = .securing)
    ∧ (s.springPeers ≠ [] → ¬ (∀ p ∈ s.springPeers, p.decl.phase = .phase .secured) → s.judgeWait h = s)
    ∧ (s.springPeers ≠ [] → (∀ p ∈ s.springPeers, p.decl.phase = .phase .secured) → s.mdc.settings.pPush < h.preHold
      → s.judgeWait h =
        { s with hpc := { s.hpc with handover := some { h with stage := .ramp, stageTime := 0 } }
                 csu := { s.csu with notice := false
                                     noticeBase := max 0 (s.csu.effective.getD s.csu.lastEffective) } })
    ∧ (s.springPeers ≠ [] → (∀ p ∈ s.springPeers, p.decl.phase = .phase .secured) → h.preHold ≤ s.mdc.settings.pPush
      → (s.judgeWait h).inPhase .secured = true ∧ (s.judgeWait h).hpc.handover = none
        ∧ (s.judgeWait h).cpr.target = min s.mdc.settings.pMax (s.hpc.retained.getD s.mdc.settings.pPush)) := by
  obtain ⟨run, phase⟩ := (inPhase_iff s _).1 securing
  refine ⟨fun alone told => ?_, fun alone untold lane => ?_, fun _ waits => ?_, fun there ready ramps => ?_,
    fun there ready low => ?_⟩
  · rw [judgeWait_alone alone, if_pos told]
  · obtain ⟨sustains, -, stored⟩ := report_sustains (s := s.withHandover (some { h with noSpringReported := true }))
      (r := noSpringReport) lane (secondSevere_mild (by decide))
    rw [judgeWait_alone alone, untold, if_neg (by decide)]
    refine ⟨sustains.handover, stored.trans ?_, sustains.phase.trans phase⟩
    rw [storeReport_mild (by decide)]
    rfl
  · refine judgeWait_waits (List.any_eq_true.2 ?_)
    simpa using waits
  · rw [judgeWait_ready there ready, State.endWait]
    exact if_neg (Nat.not_le.2 ramps)
  · obtain ⟨framed, secured, none, -, target, -⟩ := enterSecured_spec
      ({ s with hpc := { s.hpc with handover := some { h with stage := .ramp, stageTime := 0 } }, csu := s.csu.rearm } : State)
    rw [judgeWait_ready there ready, State.endWait, if_pos low]
    exact ⟨(inPhase_iff _ _).2 ⟨framed.mode.trans run, secured⟩, none, target⟩

end Sys2Proof.Machine

/-! PROOF. A drive demand that ends a handover or SECURED in HOLDING (R120, R121, R123). -/

namespace Sys2Proof.Machine

/-! ## Targets taken anew (R121, R137) -/

theorem bandTest_settleOwed {k : Cpr} (owed : k.settleOwed = true) : k.bandTest.settleOwed = true := by
  unfold Cpr.bandTest
  split
  · split
    · rfl
    · split
      · rfl
      · exact owed
  · exact owed

theorem placeTarget_settleOwed {k : Cpr} (o : Operation) (owed : k.settleOwed = true) :
    (k.placeTarget o).settleOwed = true := by
  unfold Cpr.placeTarget
  split
  · exact owed
  · split
    · exact owed
    · rfl

/-- A target that differs or is handed anew leaves a settled report owed (R121, R137). -/
theorem take_settleOwed {k : Cpr} {pMax v : Nat} {anew : Bool}
    (owed : k.settleOwed = true ∨ k.regulating = true ∧ anew = true) : (k.take pMax v anew).settleOwed = true := by
  unfold Cpr.take
  dsimp only
  split
  · simp_all
  · split
    · simp_all
    · split
      · exact placeTarget_settleOwed _ rfl
      · exact bandTest_settleOwed rfl

theorem take_regulating (k : Cpr) (pMax v : Nat) (anew : Bool) : (k.take pMax v anew).regulating = k.regulating := by
  unfold Cpr.take
  dsimp only
  split
  · rfl
  · split
    · rfl
    · split
      · exact (placeTarget_mode _ _).1
      · exact (bandTest_mode _).1

/-! ## A delivery and the rest of the HPC -/

/-- The HPC but for what a delivery may change in some phase (R89, R90, R94, R109, R114, R122). -/
def Hpc.apart (h : Hpc) : Hpc :=
  { h with last := { pCalc := 0, insufficient := false, fGrav := 0, release := none }, pHold := 0, insufficiencyTime := 0
           release := none, retained := none }

section
variable {s : State} {r : HalResult}

theorem apart_pCap {g h : Hpc} (e : g.apart = h.apart) : g.pCap = h.pCap := by
  simpa only [Hpc.apart] using congrArg Hpc.pCap e

theorem apart_request {g h : Hpc} (e : g.apart = h.apart) : g.request = h.request := by
  simpa only [Hpc.apart] using congrArg Hpc.request e

theorem ratchet_hpc (s : State) (p : Nat) : (s.ratchet p).hpc = { s.hpc with pHold := max s.hpc.pHold p } := by
  rcases Nat.lt_or_ge s.hpc.pHold p with less | least
  · rw [ratchet_rises less, max_eq_right less.le]
    rfl
  · rw [ratchet_holds least, max_eq_left least]

theorem ratchet_cpr (s : State) (p : Nat) :
    (s.ratchet p).cpr = s.cpr ∨ (s.ratchet p).cpr = s.cpr.take s.mdc.settings.pMax p false := by
  unfold State.ratchet
  split
  · exact .inr rfl
  · exact .inl rfl

theorem raiseRetained_cpr (s : State) (p : Nat) :
    (s.raiseRetained p).cpr = s.cpr ∨ (s.raiseRetained p).cpr = s.cpr.take s.mdc.settings.pMax p false := by
  unfold State.raiseRetained
  split
  · split
    · exact .inr rfl
    · exact .inl rfl
  · exact .inl rfl

theorem raiseRetained_apart (s : State) (p : Nat) : (s.raiseRetained p).hpc.apart = s.hpc.apart := by
  unfold State.raiseRetained
  split
  · split <;> rfl
  · rfl

theorem newGoal_apart (s : State) (p : Option Nat) : (s.newGoal p).hpc.apart = s.hpc.apart := by
  unfold State.newGoal
  split <;> rfl

/-- In CAPTURING and HOLDING a delivery is kept, and P_hold raised to its P_calc (R89, R90). -/
theorem deliver_held_hpc (h : s.hpc.phase = .capturing ∨ s.hpc.phase = .holding) : (s.deliver r).hpc
    = { s.hpc with last := deliveryOf r
                   insufficiencyTime := if r.insufficient then s.hpc.insufficiencyTime else 0
                   pHold := max s.hpc.pHold r.pCalc } := by
  rw [deliver_held h, ratchet_hpc]
  rfl

theorem deliver_apart (s : State) (r : HalResult) : (s.deliver r).hpc.apart = s.hpc.apart := by
  cases phase : s.hpc.phase
  case capturing => rw [deliver_held_hpc (.inl phase)]; rfl
  case holding => rw [deliver_held_hpc (.inr phase)]; rfl
  case releasing => rw [deliver_releasing phase]; exact newGoal_apart _ _
  case secured => rw [deliver_secured phase]; exact raiseRetained_apart _ _
  case released => rw [deliver_kept (.inl phase)]; rfl
  case securing => rw [deliver_kept (.inr phase)]; rfl

/-- A delivery leaves the CPR as it stands, or hands it a target (R89, R122). -/
theorem deliver_cpr (s : State) (r : HalResult) :
    (s.deliver r).cpr = s.cpr ∨ ∃ v, (s.deliver r).cpr = s.cpr.take s.mdc.settings.pMax v false := by
  cases phase : s.hpc.phase
  case capturing =>
    rw [deliver_held (.inl phase)]
    exact (ratchet_cpr (s.keepDelivery r) _).imp id fun e => ⟨_, e⟩
  case holding =>
    rw [deliver_held (.inr phase)]
    exact (ratchet_cpr (s.keepDelivery r) _).imp id fun e => ⟨_, e⟩
  case releasing => exact .inl (deliver_releasing_cpr phase)
  case secured =>
    rw [deliver_secured phase]
    exact (raiseRetained_cpr (s.keepDelivery r) _).imp id fun e => ⟨_, e⟩
  case released => exact .inl (deliver_kept_cpr (.inl phase))
  case securing => exact .inl (deliver_kept_cpr (.inr phase))

theorem deliver_regulating (s : State) (r : HalResult) : (s.deliver r).cpr.regulating = s.cpr.regulating := by
  rcases deliver_cpr s r with e | ⟨v, e⟩ <;> rw [e]
  exact take_regulating _ _ _ _

/-- With no lane going wrong a recomputation in RUN delivers the lane's result, or is not made (R78, R97). -/
theorem halRecompute_cases (run : s.mdc.mode = .run) (lane : s.free.laneFault = none) :
    s.hal.lanes = .agreed ∧ s.halRecompute = s.deliver s.laneResult ∨ s.hal.lanes = .mismatched ∧ s.halRecompute = s := by
  cases lanes : s.hal.lanes with
  | agreed => exact .inl ⟨rfl, halRecompute_sound run lanes lane⟩
  | mismatched => exact .inr ⟨rfl, halRecompute_idle (.inr lanes)⟩

theorem halRecompute_apart (lane : s.free.laneFault = none) : s.halRecompute.hpc.apart = s.hpc.apart := by
  by_cases run : s.mdc.mode = .run
  · rcases halRecompute_cases run lane with ⟨-, e⟩ | ⟨-, e⟩ <;> rw [e]
    exact deliver_apart _ _
  · rw [halRecompute_idle (.inl run)]

end

/-! ## What a lane's result is made of (R94) -/

/-- A lane reads nothing that a delivery or an entry into HOLDING changes (R79 to R92). -/
theorem laneResult_of_same {s t : State} (framed : s.framed t) (frb : t.frb = s.frb) (margin : t.hal.margin = s.hal.margin)
    (pCap : t.hpc.pCap = s.hpc.pCap) (level : t.csu.nodeLevel = s.csu.nodeLevel) : t.laneResult = s.laneResult := by
  have demand : t.demand = s.demand := demand_of_drive (by rw [framed.vir])
  unfold State.laneResult State.capacityForced
  rw [framed.glu, framed.pvt, framed.mdc, frb, margin, pCap, level, demand]

theorem laneResult_deliver (s : State) (r : HalResult) : (s.deliver r).laneResult = s.laneResult :=
  laneResult_of_same (deliver_delivers s r).toframed (deliver_delivers s r).frb deliver_margin
    (apart_pCap (deliver_apart s r)) (by rw [(deliver_delivers s r).csu])

/-! ## The return to HOLDING by a drive demand (R120, R123) -/

/-- HOLDING entered by a drive demand: the target handed anew, and the line's withdrawal pending (R120, R121, R123). -/
def State.driveReturn (s : State) (retained : Option Nat) (base : Nat) : State :=
  (s.withHpc { s.hpc with retained := retained, holdTime := 0, withdrawalPending := true }).enterHolding base true

section
variable (s : State) (retained : Option Nat) (base : Nat)

theorem driveReturn_hpc : (s.driveReturn retained base).hpc = { s.hpc with
    retained := retained, holdTime := 0, withdrawalPending := true, phase := .holding
    pHold := max base s.hpc.last.pCalc, release := none, handover := none } := enterHolding_hpc _ _ _

theorem driveReturn_cpr : (s.driveReturn retained base).cpr
    = s.cpr.take s.mdc.settings.pMax (max base s.hpc.last.pCalc) true := enterHolding_cpr _ _ _

theorem driveReturn_framed : s.framed (s.driveReturn retained base) :=
  (framed_hpc s _).trans (enterHolding_framed _ _ _)

theorem driveReturn_keeps : s.keeps (s.driveReturn retained base) [.hpc, .cpr, .sgi] :=
  ((withHpc_keeps s _).trans (enterHolding_keeps _ base true)).mono (by simp)

theorem driveReturn_laneResult : (s.driveReturn retained base).laneResult = s.laneResult := by
  have keeps := driveReturn_keeps s retained base
  have hal : (s.driveReturn retained base).hal = s.hal := keeps .hal (by decide)
  have csu : (s.driveReturn retained base).csu = s.csu := keeps .csu (by decide)
  exact laneResult_of_same (driveReturn_framed s retained base) (keeps .frb (by decide)) (by rw [hal])
    (by rw [driveReturn_hpc]) (by rw [csu])

theorem driveReturn_settleOwed (regulating : s.cpr.regulating = true) :
    (s.driveReturn retained base).cpr.settleOwed = true := by
  rw [driveReturn_cpr]
  exact take_settleOwed (.inr ⟨regulating, rfl⟩)

end

/-- A return to HOLDING with a recomputation before or after it, over its start. -/
structure State.returns (s : State) (retained : Option Nat) (base : Nat) (u : State) : Prop extends s.framed u where
  phase : u.hpc.phase = .holding
  handover : u.hpc.handover = none
  holdTime : u.hpc.holdTime = 0
  withdrawal : u.hpc.withdrawalPending = true
  request : u.hpc.request = s.hpc.request
  retained : u.hpc.retained = retained
  pHold : u.hpc.pHold = max base u.hpc.last.pCalc ∨ u.hpc.pHold = max (max base s.hpc.last.pCalc) u.hpc.last.pCalc
  target : u.cpr.target = min s.mdc.settings.pMax u.hpc.pHold
  owed : u.cpr.settleOwed = true
  result : s.hal.lanes = .agreed → u.hpc.last = deliveryOf u.laneResult
  keeps : s.keeps u [.hal, .hpc, .cpr, .sgi]

section
variable {s : State} (retained : Option Nat) (base : Nat) (run : s.mdc.mode = .run) (lane : s.free.laneFault = none)
  (regulating : s.cpr.regulating = true)
include run lane regulating

/-- The HAL acts before the HPC. -/
theorem returns_after_delivery : s.returns retained base (s.halRecompute.driveReturn retained base) := by
  have delivers := halRecompute_delivers lane
  have apart := halRecompute_apart lane
  have regulates : s.halRecompute.cpr.regulating = true := by
    rcases halRecompute_cases run lane with ⟨-, e⟩ | ⟨-, e⟩ <;> rw [e]
    · rwa [deliver_regulating]
    · exact regulating
  constructor
  case toframed => exact delivers.toframed.trans (driveReturn_framed _ _ _)
  case phase | handover | holdTime | withdrawal | retained => rw [driveReturn_hpc]
  case request =>
    rw [driveReturn_hpc]
    exact (apart_request apart :)
  case pHold => rw [driveReturn_hpc]; exact .inl rfl
  case target => rw [driveReturn_cpr, Cpr.take_target, driveReturn_hpc, delivers.mdc]
  case owed => exact driveReturn_settleOwed _ _ _ regulates
  case result =>
    intro agreed
    have computed : s.halRecompute = s.deliver s.laneResult := halRecompute_sound run agreed lane
    rw [driveReturn_laneResult, driveReturn_hpc, computed, laneResult_deliver]
    exact deliver_last
  case keeps => exact (delivers.keeps.trans (driveReturn_keeps _ _ _)).mono (by simp)

/-- The HPC acts before the HAL, whose delivery then raises P_hold in HOLDING (R89). -/
theorem returns_before_delivery : s.returns retained base (s.driveReturn retained base).halRecompute := by
  have framed := driveReturn_framed s retained base
  have holding : (s.driveReturn retained base).hpc.phase = .holding := by rw [driveReturn_hpc]
  have owed := driveReturn_settleOwed s retained base regulating
  have target : (s.driveReturn retained base).cpr.target
      = min s.mdc.settings.pMax (s.driveReturn retained base).hpc.pHold := by
    rw [driveReturn_cpr, Cpr.take_target, driveReturn_hpc]
  have lanes : (s.driveReturn retained base).hal.lanes = s.hal.lanes :=
    congrArg Hal.lanes (driveReturn_keeps s retained base .hal (by decide))
  rcases halRecompute_cases (framed.mode.trans run) (framed.lane lane) with ⟨agreed, e⟩ | ⟨apart, e⟩ <;> rw [e]
  · generalize made : (s.driveReturn retained base).laneResult = r
    have delivers := deliver_delivers (s.driveReturn retained base) r
    have hpc := deliver_held_hpc (r := r) (.inr holding)
    constructor
    case toframed => exact framed.trans delivers.toframed
    case phase | handover | holdTime | withdrawal | request | retained => rw [hpc, driveReturn_hpc]
    case pHold => rw [hpc, driveReturn_hpc]; exact .inr rfl
    case target =>
      rw [deliver_held_pHold (.inr holding)]
      rcases Nat.lt_or_ge (s.driveReturn retained base).hpc.pHold r.pCalc with less | least
      · rw [deliver_held_target (.inr holding) less, framed.mdc, max_eq_right less.le]
      · rw [deliver_held_cpr (.inr holding) least, target, max_eq_left least]
    case owed =>
      rcases deliver_cpr (s.driveReturn retained base) r with e | ⟨v, e⟩ <;> rw [e]
      · exact owed
      · exact take_settleOwed (.inl owed)
    case result =>
      intro _
      rw [deliver_last, laneResult_deliver, made]
    case keeps => exact ((driveReturn_keeps s retained base).trans delivers.keeps).mono (by simp)
  · constructor
    case toframed => exact framed
    case phase | handover | holdTime | withdrawal | request | retained => rw [driveReturn_hpc]
    case pHold => rw [driveReturn_hpc]; exact .inl rfl
    case target => exact target
    case owed => exact owed
    case result => intro agreed; rw [lanes, agreed] at apart; cases apart
    case keeps => exact (driveReturn_keeps s retained base).mono (by simp)

end

/-- At the end of the command the node stands in HOLDING, its withdrawal pending (R120, R123). -/
theorem State.returns.concluded {s u : State} {retained : Option Nat} {base : Nat} (h : s.returns retained base u)
    (before : State) (run : s.mdc.mode = .run) (attended : s.attended) :
    conclude before u = (u.setArmed (u.hpc.releaseArmed || u.demand.isNone)).lapse.drawn :=
  conclude_holding before ((inPhase_iff _ _).2 ⟨h.mode.trans run, h.phase⟩)
    (standingTrigger_attended (h.toframed.attended attended)) (.inr (.inr h.withdrawal))

/-! ## The drive demand as a command -/

/-- The state in which the drive record's handings begin (R78). -/
def State.driven (s : State) (x : DriveFields) : State :=
  (s.withVir { s.vir with drive := some (x, { age := 0, fresh := true }) }).ordered 2

theorem driven_keeps (s : State) (x : DriveFields) : s.keeps (s.driven x) [.vir] :=
  ((withVir_touches s _).trans (ordered_touches _ 2)).keeps

theorem driven_driveAway {s : State} {x : DriveFields} (attended : s.attended) (gear : x.gear ≠ .neutral)
    (force : 0 < x.force) : (s.driven x).driveAway = true := by
  have demand : (s.driven x).demand = some (x.gear, 10 * x.force) := by
    refine (demand_of_frame s x).trans (if_neg ?_)
    rintro (neutral | still)
    · exact gear neutral
    · omega
  have driver : (s.driven x).driverAbsent = false ∧ (s.driven x).ignition = true := ⟨attended.2, attended.1⟩
  rw [State.driveAway, demand, driver.1, driver.2]
  rfl

theorem exec_driveDemand {s : State} {data : List Byte} {x : DriveFields} (receives : s.receives = true)
    (good : decodeDrive data = some x) :
    exec (.driveDemand data) s = .next (conclude s (State.react s (s.driven x).halRecompute))
    ∨ exec (.driveDemand data) s = .next (conclude s (State.react s (s.driven x)).halRecompute) := by
  have handed := handAll_two State.halRecompute (State.react s)
    (s.withVir { s.vir with drive := some (x, { age := 0, fresh := true }) })
  have taken : exec (.driveDemand data) s = .next (conclude s (handAll [State.halRecompute, State.react s]
      (s.withVir { s.vir with drive := some (x, { age := 0, fresh := true }) }))) :=
    next_conclude s (stationFrame_taken receives good _ _)
  rw [taken]
  exact handed.imp (next_conclude s) (next_conclude s)

/-- A drive-away that has come about aborts SECURING (R120). -/
theorem react_aborts {before u : State} {h : HandoverRecord} (securing : u.inPhase .securing = true)
    (held : u.hpc.handover = some h) (away : u.driveAway = true) (apart : before.driveAway = false) :
    State.react before u = u.driveReturn u.hpc.retained h.preHold := by
  obtain ⟨run, phase⟩ := (inPhase_iff u _).1 securing
  simp [State.react, run, State.reactRun, phase, State.reactSecuring, away, apart, State.abortHandover, held,
    State.driveReturn, State.withHpc]

/-- A drive-away ends SECURED (R123). -/
theorem react_returns {before u : State} (secured : u.inPhase .secured = true) (away : u.driveAway = true) :
    State.react before u = u.driveReturn none u.hpc.pHold := by
  obtain ⟨run, phase⟩ := (inPhase_iff u _).1 secured
  simp [State.react, run, State.reactRun, phase, away, State.returnFromSecured, State.driveReturn, State.withHpc]

theorem demand_driveAway {s : State} (demand : s.demand = none) : s.driveAway = false := by
  simp [State.driveAway, demand]

/-- A drive demand that the HPC answers with a return, before or after the HAL's delivery (R78, R120, R123). -/
theorem drive_returns {s : State} {data : List Byte} {x : DriveFields} {retained : Option Nat} {base : Nat}
    (run : s.mdc.mode = .run) (attended : s.attended) (lane : s.free.laneFault = none) (receives : s.receives = true)
    (good : decodeDrive data = some x) (regulating : s.cpr.regulating = true)
    (first : State.react s (s.driven x) = (s.driven x).driveReturn retained base)
    (second : State.react s (s.driven x).halRecompute = (s.driven x).halRecompute.driveReturn retained base) :
    ∃ t, exec (.driveDemand data) s = .next t
      ∧ (t.inPhase .holding = true ∧ t.hpc.handover = none ∧ t.hpc.holdTime = 0 ∧ t.hpc.withdrawalPending = true
        ∧ t.hpc.request = s.hpc.request)
      ∧ (t.hpc.pHold = max base t.hpc.last.pCalc ∨ t.hpc.pHold = max (max base s.hpc.last.pCalc) t.hpc.last.pCalc)
      ∧ (t.cpr.target = min s.mdc.settings.pMax t.hpc.pHold ∧ t.cpr.settleOwed = true)
      ∧ (s.hal.lanes = .agreed → t.hpc.last = deliveryOf t.laneResult)
      ∧ t.hpc.retained = retained
      ∧ s.keeps t [.vir, .hal, .hpc, .cpr, .sgi] := by
  have returned : ∃ u, exec (.driveDemand data) s = .next (conclude s u) ∧ (s.driven x).returns retained base u := by
    rcases exec_driveDemand receives good with e | e
    · exact ⟨_, e.trans (next_conclude s second), returns_after_delivery retained base run lane regulating⟩
    · rw [first] at e
      exact ⟨_, e, returns_before_delivery retained base run lane regulating⟩
  obtain ⟨u, next, returns⟩ := returned
  rw [returns.concluded s run attended] at next
  have same : ((u.setArmed (u.hpc.releaseArmed || u.demand.isNone)).lapse.drawn).laneResult = u.laneResult := by
    rw [laneResult_ended]
    rfl
  refine ⟨_, next, ⟨?_, ?_, ?_, ?_, ?_⟩, ?_, ⟨?_, returns.owed⟩, fun agreed => ?_, ?_, ?_⟩
  · rw [ended_inPhase]
    exact (inPhase_iff _ _).2 ⟨returns.mode.trans run, returns.phase⟩
  · simp [State.setArmed, returns.handover]
  · simp [State.setArmed, returns.holdTime]
  · simp [State.setArmed, returns.withdrawal]
  · simpa [State.setArmed, State.driven, State.withVir, State.ordered] using returns.request
  · simpa [State.setArmed, State.driven, State.withVir, State.ordered] using returns.pHold
  · simpa [State.setArmed, State.driven, State.withVir, State.ordered] using returns.target
  · rw [same]
    simpa [State.setArmed] using returns.result agreed
  · simp [State.setArmed, returns.retained]
  · exact ((((driven_keeps s x).trans returns.keeps).trans (setArmed_keeps u _)).ended).mono (by simp)

theorem deliver_kept_retained {s : State} (phase : s.hpc.phase = .securing) (r : HalResult) :
    (s.deliver r).hpc.retained = s.hpc.retained := by
  rw [deliver_kept (.inr phase)]
  rfl

/-- In SECURING a recomputation keeps the retained target (R94). -/
theorem halRecompute_retained {s : State} (securing : s.inPhase .securing = true) (lane : s.free.laneFault = none) :
    s.halRecompute.hpc.retained = s.hpc.retained := by
  obtain ⟨run, phase⟩ := (inPhase_iff s _).1 securing
  rcases halRecompute_cases run lane with ⟨-, e⟩ | ⟨-, e⟩ <;> rw [e]
  exact deliver_kept_retained phase _

/-- In SECURED a recomputation keeps P_hold (R90, R122). -/
theorem halRecompute_pHold {s : State} (secured : s.inPhase .secured = true) (lane : s.free.laneFault = none) :
    s.halRecompute.hpc.pHold = s.hpc.pHold := by
  obtain ⟨run, phase⟩ := (inPhase_iff s _).1 secured
  rcases halRecompute_cases run lane with ⟨-, e⟩ | ⟨-, e⟩ <;> rw [e]
  exact deliver_pHold (by simp [phase]) (by simp [phase])

section
variable {s : State} {x : DriveFields} (demand : s.demand = none) (attended : s.attended)
  (lane : s.free.laneFault = none) (gear : x.gear ≠ .neutral) (force : 0 < x.force)
include lane attended gear force

theorem driven_recomputed_away : (s.driven x).halRecompute.driveAway = true := by
  have delivers : (s.driven x).delivers (s.driven x).halRecompute := halRecompute_delivers lane
  rw [driveAway_of_same delivers.vir delivers.mdc]
  exact driven_driveAway attended gear force

include demand in
theorem handover_aborted {h : HandoverRecord} (securing : s.inPhase .securing = true) (held : s.hpc.handover = some h) :
    State.react s (s.driven x) = (s.driven x).driveReturn s.hpc.retained h.preHold
    ∧ State.react s (s.driven x).halRecompute = (s.driven x).halRecompute.driveReturn s.hpc.retained h.preHold := by
  have delivers : (s.driven x).delivers (s.driven x).halRecompute := halRecompute_delivers lane
  have retained : (s.driven x).halRecompute.hpc.retained = s.hpc.retained :=
    halRecompute_retained (s := s.driven x) securing lane
  refine ⟨react_aborts (u := s.driven x) securing held (driven_driveAway attended gear force) (demand_driveAway demand), ?_⟩
  rw [← retained]
  exact react_aborts ((delivers.inPhase _).trans securing) (delivers.handover.trans held)
    (driven_recomputed_away attended lane gear force) (demand_driveAway demand)

theorem secured_returned (secured : s.inPhase .secured = true) :
    State.react s (s.driven x) = (s.driven x).driveReturn none s.hpc.pHold
    ∧ State.react s (s.driven x).halRecompute = (s.driven x).halRecompute.driveReturn none s.hpc.pHold := by
  have delivers : (s.driven x).delivers (s.driven x).halRecompute := halRecompute_delivers lane
  have pHold : (s.driven x).halRecompute.hpc.pHold = s.hpc.pHold := halRecompute_pHold (s := s.driven x) secured lane
  refine ⟨react_returns (u := s.driven x) secured (driven_driveAway attended gear force), ?_⟩
  rw [← pHold]
  exact react_returns ((delivers.inPhase _).trans secured) (driven_recomputed_away attended lane gear force)

end

/-- Settles O45: the two ends of a stage by time, the two of CONFIRM, the two returns by a drive demand, and WAIT. -/
theorem handoverRunsThroughItsStages : Obligations.HandoverRunsThroughItsStages := by
  refine ⟨fun s h securing held settle time ignition away => settle_ends securing held settle time ignition away,
    fun s h securing held ramp time ignition away within => ramp_steps securing held ramp time ignition away within,
    fun s h p securing held confirm spring reading waiting range =>
      reading_confirms securing held confirm spring reading waiting range,
    fun s h securing held confirm spring waiting time demand _ clear empty =>
      timeout_ends securing held confirm spring waiting time demand clear empty,
    fun s data x h securing held attended demand lane receives good gear force regulating => ?_,
    fun s data x secured attended demand lane receives good gear force regulating => ?_,
    fun s h securing _ _ => wait_is_judged s h securing⟩
  · obtain ⟨first, second⟩ := handover_aborted demand attended lane gear force securing held
    obtain ⟨t, next, phase, pHold, target, result, -, keeps⟩ :=
      drive_returns ((inPhase_iff s _).1 securing).1 attended lane receives good regulating first second
    exact ⟨t, next, phase, pHold, target, result, keeps⟩
  · obtain ⟨first, second⟩ := secured_returned attended lane gear force secured
    exact drive_returns ((inPhase_iff s _).1 secured).1 attended lane receives good regulating first second

end Sys2Proof.Machine

/-! PROOF. O41: the entry into CAPTURING (R24, R29, R38, R89, R102 to R104, R113). -/

namespace Sys2Proof.Machine

theorem placeDeclaration_laneResult (s : State) : s.placeDeclaration.laneResult = s.laneResult := by
  have placed := placeDeclaration_delivers s
  exact laneResult_of_same placed.toframed placed.frb (by rw [State.placeDeclaration_hal])
    (by rw [State.placeDeclaration_hpc]) (by rw [placed.csu])

/-! ## The entry but for effective creep (R104) -/

/-- The trapped pressure (R104). -/
def State.trapped (s : State) : Nat := min s.mdc.settings.pMax s.cpr.measured

/-- CAPTURING entered, with its target handed (R104). -/
def State.capturing (s : State) : State := s.captureStart.handTarget s.trapped false

/-- CAPTURING entered, with the HAL's result and the Declaration, before effective creep (R104; log entry 35). -/
def State.captured (s : State) : State := s.capturing.halRecompute.placeDeclaration

theorem enterCapturing_eq (s : State) : s.enterCapturing = s.captured.creepRecompute true := rfl

theorem apart_fields {g h : Hpc} (e : g.apart = h.apart) : g.settleTime = h.settleTime ∧ g.holdTime = h.holdTime
    ∧ g.releaseArmed = h.releaseArmed ∧ g.handoverFailed = h.handoverFailed := by
  simp only [Hpc.apart, Hpc.mk.injEq] at e
  simp [e]

section
variable (s : State)

theorem capturing_framed : s.framed s.capturing := ⟨rfl, rfl, rfl, rfl, rfl, rfl, rfl, rfl⟩

theorem capturing_keeps : s.keeps s.capturing [.csu, .hpc, .cpr] := by
  intro b other
  cases b
  case csu | hpc | cpr => simp at other
  all_goals rfl

theorem capturing_target : s.capturing.cpr.target = s.trapped :=
  (Cpr.take_target _ _ _ _).trans (min_eq_right (min_le_left _ _))

theorem capturing_regulating : s.capturing.cpr.regulating = true := take_regulating _ _ _ _

end

section
variable {s : State} (lane : s.free.laneFault = none)
include lane

theorem captured_delivers : s.capturing.delivers s.captured :=
  (halRecompute_delivers (s := s.capturing) lane).trans (placeDeclaration_delivers _)

theorem captured_framed : s.framed s.captured := (capturing_framed s).trans (captured_delivers lane).toframed

theorem captured_keeps : s.keeps s.captured [.csu, .hal, .hpc, .cpr, .sgi] :=
  ((capturing_keeps s).trans (captured_delivers lane).keeps).mono (by decide)

theorem captured_csu : s.captured.csu
    = s.csu.beginEpisode s.mdc.settings s.wmt (captureLevel s.pvt.entries) := (captured_delivers lane).csu

theorem captured_apart : s.captured.hpc.apart = s.capturing.hpc.apart := by
  rw [State.captured, State.placeDeclaration_hpc]
  exact halRecompute_apart (s := s.capturing) lane

theorem captured_fields : s.captured.hpc.pCap = some s.trapped ∧ s.captured.hpc.settleTime = 0
    ∧ s.captured.hpc.holdTime = 0 ∧ s.captured.hpc.releaseArmed = true ∧ s.captured.hpc.handoverFailed = false := by
  obtain ⟨settleTime, holdTime, armed, failed⟩ := apart_fields (captured_apart lane)
  exact ⟨apart_pCap (captured_apart lane), settleTime, holdTime, armed, failed⟩

theorem captured_inPhase (run : s.mdc.mode = .run) : s.captured.inPhase .capturing = true :=
  ((captured_delivers lane).inPhase _).trans ((inPhase_iff _ _).2 ⟨run, rfl⟩)

/-- The HPC after the entry: the trapped pressure raised by the delivery, if there is one (R89, R104). -/
theorem captured_hpc (run : s.mdc.mode = .run) :
    s.captured.hpc.retained = none ∧ s.trapped ≤ s.captured.hpc.pHold
      ∧ (s.captured.cpr.regulating = true ∧ s.captured.cpr.target = s.captured.hpc.pHold)
      ∧ (s.hal.lanes = .agreed → s.captured.hal.result = s.captured.laneResult
        ∧ s.captured.hpc.pHold = max s.trapped s.captured.hal.result.pCalc) := by
  have result : s.captured.laneResult = s.capturing.halRecompute.laneResult := placeDeclaration_laneResult _
  rw [result, State.captured, State.placeDeclaration_hpc, State.placeDeclaration_cpr, State.placeDeclaration_hal]
  have phase : s.capturing.hpc.phase = .capturing := rfl
  have below : s.capturing.laneResult.pCalc ≤ s.capturing.mdc.settings.pMax := min_le_left _ _
  rcases halRecompute_cases (s := s.capturing) run lane with ⟨agreed, e⟩ | ⟨apart, e⟩ <;> rw [e]
  · generalize made : s.capturing.laneResult = r at below
    have hpc := deliver_held_hpc (r := r) (.inl phase)
    have pHold : (s.capturing.deliver r).hpc.pHold = max s.trapped r.pCalc := deliver_held_pHold (.inl phase)
    refine ⟨by rw [hpc]; rfl, by rw [pHold]; exact le_max_left _ _, ⟨?_, ?_⟩, fun _ => ⟨?_, ?_⟩⟩
    · rw [deliver_regulating]
      exact capturing_regulating s
    · rw [pHold]
      rcases Nat.lt_or_ge s.trapped r.pCalc with less | least
      · rw [deliver_held_target (.inl phase) less, min_eq_right below, max_eq_right less.le]
      · rw [deliver_held_cpr (.inl phase) least, capturing_target, max_eq_left least]
    · rw [deliver_result, laneResult_deliver, made]
    · rw [deliver_result, pHold]
  · refine ⟨rfl, le_refl _, ⟨capturing_regulating s, capturing_target s⟩, fun agreed => ?_⟩
    have lanes : s.capturing.hal.lanes = .agreed := agreed
    rw [lanes] at apart
    cases apart

end

/-! ## Effective creep of the new episode (R28, R104; log entry 35) -/

/-- Own creep 0 alone is effective creep 0. -/
theorem effectiveCreep_alone {u : Csu} {entries : List PeerEntry} (valid : u.ownValid = true) (own : u.own = 0)
    (alone : entries.any PeerEntry.freshHold = false) : u.effectiveCreep entries = some 0 := by
  have quiet : entries.filter (fun e => e.freshHold && e.decl.creepValid) = [] := by
    refine List.filter_eq_nil_iff.2 fun e he => ?_
    simp [List.any_eq_false.1 alone e he]
  simp [Csu.effectiveCreep, valid, own, peerCreeps, quiet, largest]

/-- Effective creep 0 at the start of an episode crosses nothing (R30, R32, R33). -/
theorem crossingTests_at_zero {s : State} (ok : s.mdc.settings.ok) (effective : s.csu.effective = some 0)
    (base : s.csu.noticeBase = 0) (point : s.csu.nextPoint = s.mdc.settings.firstPoint) : s.crossingTests = s := by
  obtain ⟨-, -, -, -, -, -, -, -, -, -, ⟨notice, -⟩, ⟨escalate, -⟩, ⟨breach, -⟩, -⟩ := ok
  have unnoticed : s.csu.noticeReached s.mdc.settings = false := by
    simp [Csu.noticeReached, effective, base]
    omega
  have first : (0 : Int) < s.csu.nextPoint := by
    rw [point]
    simp only [Settings.firstPoint]
    omega
  have points : s.csu.pointsReached s.mdc.settings = 0 := by
    simp [Csu.pointsReached, effective, first]
  have unbroken : s.csu.breachReached s.mdc.settings = false := by
    simp [Csu.breachReached, effective]
    omega
  have level : s.escalationTest = s := by simp [State.escalationTest, points]
  rw [State.crossingTests, noticeTest_unreached unnoticed, level, breachTest_unreached unbroken]

/-- The CSU replaced. -/
def State.withCsu (s : State) (u : Csu) : State := { s with csu := u }

theorem withCsu_keeps (s : State) (u : Csu) : s.keeps (s.withCsu u) [.csu] := by
  intro b other
  cases b
  case csu => simp at other
  all_goals rfl

/-- The CSU of an episode begun with the counter valid and no peer in a hold (R24, R28). -/
def Csu.settledIn (u : Csu) : Csu := { u with effective := some 0, lastEffective := 0, blind := false }

section
variable {s : State} (lane : s.free.laneFault = none) (valid : s.wmt.positionValid = true) (ok : s.mdc.settings.ok)
  (alone : s.anyFreshHold = false)
include lane valid ok alone

theorem enterCapturing_settled : s.enterCapturing = s.captured.withCsu s.captured.csu.settledIn := by
  have framed := captured_framed lane
  have csu := captured_csu lane
  have effective : s.captured.csu.effectiveCreep s.captured.pvt.entries = some 0 := by
    rw [framed.pvt, csu]
    exact effectiveCreep_alone valid rfl alone
  have recomputed := recompute_some effective
  have anchored : s.captured.csu.settledIn.anchored = true := by
    simp [Csu.settledIn, csu, Csu.beginEpisode, valid, Csu.anchored]
  have crossed : (s.captured.withCsu s.captured.csu.settledIn).crossingTests
      = s.captured.withCsu s.captured.csu.settledIn := by
    refine crossingTests_at_zero ?_ rfl ?_ ?_
    · rw [State.withCsu, framed.mdc]
      exact ok
    · simp [State.withCsu, Csu.settledIn, csu, Csu.beginEpisode]
    · simp [State.withCsu, Csu.settledIn, csu, Csu.beginEpisode, framed.mdc]
  rw [enterCapturing_eq, State.creepRecompute, recomputed]
  exact (if_pos anchored).trans crossed

end

/-! ## The capture with a valid position (R102, R103) -/

/-- A state in which the commands of R102 and R103 capture, with the episode's creep known at once (R24). -/
structure State.capturable (s : State) : Prop where
  released : s.inPhase .released = true
  attended : s.attended
  valid : s.wmt.positionValid = true
  ok : s.mdc.settings.ok
  alone : s.anyFreshHold = false
  lane : s.free.laneFault = none

/-- What the capture leaves at the end of the command (R24, R104). -/
theorem capture_spec {s : State} (before : State) (h : s.capturable) :
    ∃ t, conclude before s.enterCapturing = t
      ∧ (t.inPhase .capturing = true ∧ t.hpc.pCap = some s.trapped ∧ s.trapped ≤ t.hpc.pHold)
      ∧ (t.cpr.regulating = true ∧ t.cpr.target = t.hpc.pHold ∧ t.hpc.settleTime = 0 ∧ t.hpc.holdTime = 0)
      ∧ (t.hpc.releaseArmed = true ∧ t.hpc.handoverFailed = false ∧ t.hpc.retained = none)
      ∧ (t.csu.anchor = .held s.wmt.position ∧ t.csu.own = 0 ∧ t.csu.offset = 0 ∧ t.csu.ownValid = true
        ∧ t.csu.ownLevel = 0)
      ∧ (t.csu.notice = false ∧ t.csu.breach = false ∧ t.csu.creepGap = false ∧ t.csu.blind = false
        ∧ t.csu.nextPoint = s.mdc.settings.firstPoint)
      ∧ t.csu.nodeLevel = captureLevel t.pvt.entries
      ∧ (s.hal.lanes = .agreed → t.hal.result = t.laneResult ∧ t.hpc.pHold = max s.trapped t.hal.result.pCalc)
      ∧ s.keeps t [.csu, .hal, .hpc, .cpr, .sgi] := by
  obtain ⟨released, attended, valid, ok, alone, lane⟩ := h
  have run : s.mdc.mode = .run := ((inPhase_iff s _).1 released).1
  have csu := captured_csu lane
  have framed := captured_framed lane
  obtain ⟨pCap, settleTime, holdTime, armed, failed⟩ := captured_fields lane
  obtain ⟨retained, pHold, regulates, result⟩ := captured_hpc lane run
  have phase : (s.captured.withCsu s.captured.csu.settledIn).inPhase .capturing = true := captured_inPhase lane run
  have driver : (s.captured.withCsu s.captured.csu.settledIn).attended := framed.attended attended
  have same : (s.captured.withCsu s.captured.csu.settledIn).laneResult = s.captured.laneResult :=
    laneResult_of_same (sustains_csu _ _).toframed rfl rfl rfl rfl
  rw [enterCapturing_settled lane valid ok alone,
    conclude_fixed (react_capturing_idle before phase (standingTrigger_attended driver))]
  refine ⟨_, rfl, ⟨?_, ?_, ?_⟩, ⟨regulates.1, ?_, ?_, ?_⟩, ⟨?_, ?_, ?_⟩, ?_, ?_, ?_, fun agreed => ?_, ?_⟩
  · rwa [ended_inPhase]
  · simpa [State.withCsu] using pCap
  · simpa [State.withCsu] using pHold
  · simpa [State.withCsu] using regulates.2
  · simpa [State.withCsu] using settleTime
  · simpa [State.withCsu] using holdTime
  · simpa [State.withCsu] using armed
  · simpa [State.withCsu] using failed
  · simpa [State.withCsu] using retained
  · simp [State.withCsu, Csu.settledIn, csu, Csu.beginEpisode, valid]
  · simp [State.withCsu, Csu.settledIn, csu, Csu.beginEpisode]
  · simp [State.withCsu, Csu.settledIn, csu, Csu.beginEpisode, framed.pvt]
  · rw [laneResult_ended, same]
    simpa [State.withCsu] using result agreed
  · exact (((captured_keeps lane).trans (withCsu_keeps _ _)).ended).mono (by simp)

/-! ## The two commands (R38, R102, R103) -/

theorem exec_captureQualifyingExpiry {s : State} (captures : s.captureConditions = true)
    (time : ms 150 ≤ s.hpc.qualifyingTime) :
    exec .captureQualifyingExpiry s = .next (conclude s s.enterCapturing) := by
  show execCaptureQualifyingExpiry s = _
  simp [execCaptureQualifyingExpiry, captures, time]

/-- The state in which a peer's Alert is handed on in RELEASED (R69, R103). -/
def State.alertTaken (s : State) (n : Nat) (a : LastAlert) : State := (s.withPvt (s.pvt.takeAlert n a)).ordered 1

theorem alertTaken_keeps (s : State) (n : Nat) (a : LastAlert) : s.keeps (s.alertTaken n a) [.pvt] :=
  ((withPvt_touches s _).trans (ordered_touches _ 1)).keeps

/-- An Alert changes no entry's freshness and no declared phase (R69). -/
theorem alertTaken_anyFreshHold (s : State) (n : Nat) (a : LastAlert) :
    (s.alertTaken n a).anyFreshHold = s.anyFreshHold := by
  have same : (fun e : PeerEntry => (if e.node = n then { e with lastAlert := some a } else e).freshHold)
      = PeerEntry.freshHold := by
    funext e
    split <;> rfl
  show (changeEntry n (fun e => { e with lastAlert := some a }) s.pvt.entries).any PeerEntry.freshHold = _
  rw [changeEntry, List.any_map]
  exact congrArg _ same

theorem State.capturable.alertTaken {s : State} (h : s.capturable) (n : Nat) (a : LastAlert) : (s.alertTaken n a).capturable :=
  ⟨h.released, h.attended, h.valid, h.ok, (alertTaken_anyFreshHold s n a).trans h.alone, h.lane⟩

/-- A peer's Alert captures when the vehicle is stationary without drive demand (R103). -/
theorem exec_alert_captures {s : State} {n : Nat} {data : List Byte} {a : LastAlert} (h : s.capturable)
    (takes : s.takesFrom n = true) (peer : n ≠ s.number) (good : decodeAlert data = some a)
    (stationary : s.vehicleStationary = true) (demand : s.demand = none) :
    exec (.alert n data) s = .next (conclude s (s.alertTaken n a).enterCapturing) := by
  obtain ⟨run, released⟩ := (inPhase_iff s _).1 h.released
  have outside : s.inHold = false := by simp [State.inHold, run, released, Phase.isHold]
  have still : (s.alertTaken n a).vehicleStationary = true := by
    have valid : (s.alertTaken n a).wmt.positionValid = true := h.valid
    rw [State.vehicleStationary, if_pos h.valid] at stationary
    rw [State.vehicleStationary, if_pos valid]
    exact stationary
  have undemanded : (s.alertTaken n a).demand = none := demand
  have follows : (s.alertTaken n a).followsNow = true := by
    have phase : (s.alertTaken n a).inPhase .released = true := h.released
    simp [State.followsNow, phase, still, undemanded]
  have apart : (s.alertTaken n a).inPhase .releasing = false := by
    have phase : (s.alertTaken n a).hpc.phase = .released := released
    simp [State.inPhase, phase]
  have captures : (s.alertTaken n a).hpcAlert = (s.alertTaken n a).enterCapturing := by
    rw [State.hpcAlert, apart, follows]
    rfl
  rw [exec_alert takes peer good, outside, ← captures]
  exact next_conclude s (handAll_one _ _)

end Sys2Proof.Machine

/-! PROOF. O41: the capture that is blind at once (R29, R104, R113), and the obligation. -/

namespace Sys2Proof.Machine

/-! ## What levels and reports leave of the HPC -/

section
variable {s : State} (lane : s.free.laneFault = none)
include lane

theorem setLevels_apart (own node : Nat) : (s.setLevels own node).hpc.apart = s.hpc.apart := by
  unfold State.setLevels
  dsimp only
  split
  · rfl
  · rw [State.placeDeclaration_hpc]
    exact halRecompute_apart (s := { s with csu := { s.csu with ownLevel := own, nodeLevel := node } }) lane

theorem report_apart {r : Report} (first : s.secondSevere r = false) : (s.report r).hpc.apart = s.hpc.apart := by
  have stored : (s.storeReport r).hpc = s.hpc := State.storeReport_hpc s r
  unfold State.report State.answerCause State.handCompromise
  rw [first, if_neg (by decide)]
  split
  · rw [stored]
  · rw [halRecompute_apart ((storeReport_sustains s r).lane lane), stored]

theorem blindLevels_apart : s.blindLevels.hpc.apart = s.hpc.apart :=
  setLevels_apart (s := { s with csu := { s.csu with blind := true } }) lane 4 4

end

/-! ## A blind onset in CAPTURING (R29, R113) -/

/-- What the onset leaves but for levels, reports and deliveries. -/
structure State.heldApart (s t : State) : Prop extends s.sustains t where
  apart : t.hpc.apart = s.hpc.apart

theorem State.heldApart.refl (s : State) : s.heldApart s := ⟨.refl s, rfl⟩

theorem State.heldApart.trans {s t u : State} (h : s.heldApart t) (k : t.heldApart u) : s.heldApart u :=
  ⟨h.tosustains.trans k.tosustains, k.apart.trans h.apart⟩

theorem hpcBlind_captures {s : State} (capturing : s.inPhase .capturing = true) (sound : s.hpc.handoverFailed = false) :
    s.hpcBlind = s.enterSecuring := by
  obtain ⟨run, phase⟩ := (inPhase_iff s _).1 capturing
  simp [State.hpcBlind, run, phase, State.trigger, sound]

/-- SECURING is entered with the report of the onset before or after it (R29; log entry 23). -/
theorem blindOnset_enters {s : State} (lane : s.free.laneFault = none) (clear : s.frb.responseActive = false)
    (drives : s.drivesLine) (capturing : s.inPhase .capturing = true) (sound : s.hpc.handoverFailed = false) :
    ∃ t, s.heldApart t ∧ t.enterSecuring.heldApart s.blindOnset := by
  have raised : s.heldApart s.blindLevels := ⟨blindLevels_sustains lane, blindLevels_apart lane⟩
  have first : s.blindLevels.secondSevere blindReport = false :=
    secondSevere_first (by rw [blindLevels_frb lane, clear])
  rw [blindOnset_eq]
  split
  · have told : s.blindLevels.heldApart (s.blindLevels.report blindReport) :=
      ⟨(blindLevels_reports lane clear).1, report_apart (raised.lane lane) first⟩
    have whole := raised.trans told
    refine ⟨_, whole, ?_⟩
    rw [hpcBlind_captures ((whole.inPhase _).trans capturing) (whole.failed.trans sound)]
    exact .refl _
  · have secures := enterSecuring_secures (raised.drivesLine drives)
    have still : s.blindLevels.enterSecuring.secondSevere blindReport = false :=
      secondSevere_first (by rw [secures.frb, blindLevels_frb lane, clear])
    have lane' := secures.lane (raised.lane lane)
    refine ⟨_, raised, ?_⟩
    rw [hpcBlind_captures ((raised.inPhase _).trans capturing) (raised.failed.trans sound)]
    exact ⟨(report_sustains lane' still).1, report_apart lane' still⟩

/-- The line on, the request made, and the trapped pressure kept (R113, R115). -/
theorem blindOnset_hpc {s : State} (lane : s.free.laneFault = none) (clear : s.frb.responseActive = false)
    (drives : s.drivesLine) (capturing : s.inPhase .capturing = true) (sound : s.hpc.handoverFailed = false) :
    s.framed s.blindOnset ∧ s.blindOnset.hpc.request = true ∧ s.blindOnset.pad.asserted = true
      ∧ s.blindOnset.hpc.pCap = s.hpc.pCap
      ∧ ∃ h, s.blindOnset.hpc.handover = some h ∧ (s.spring = true → h.stage = .confirm) := by
  obtain ⟨t, before, after⟩ := blindOnset_enters lane clear drives capturing sound
  have drives' := before.drivesLine drives
  have secures := enterSecuring_secures drives'
  refine ⟨(before.toframed.trans secures.toframed).trans after.toframed, ?_, ?_, ?_,
    t.newHandover, after.handover.trans secures.handover, fun spring => ?_⟩
  · rw [apart_request after.apart, enterSecuring_hpc drives']
  · rw [after.pad, secures.asserted]
  · rw [apart_pCap after.apart, enterSecuring_hpc drives']
    exact (apart_pCap before.apart :)
  · have fitted : t.spring = true := by
      unfold State.spring
      rw [before.mdc]
      exact spring
    rw [State.newHandover, fitted, if_pos rfl]

/-! ## The capture without a valid position -/

section
variable {s : State} (run : s.mdc.mode = .run) (lane : s.free.laneFault = none) (lost : s.wmt.positionValid = false)
  (quiet : ∀ p ∈ s.pvt.entries, p.freshness = .fresh → p.decl.phase.isHold = true → p.decl.creepValid = false)
include run lane lost quiet

theorem enterCapturing_blind : s.enterCapturing = s.captured.creepLost.blindOnset := by
  have csu := captured_csu lane
  have hold : s.captured.inHold = true := inHold_of_inPhase (captured_inPhase lane run) rfl
  have none : s.captured.csu.effectiveCreep s.captured.pvt.entries = none := by
    rw [(captured_framed lane).pvt]
    exact effectiveCreep_eq_none (by rw [csu]; exact lost) quiet
  have pending : s.captured.csu.anchor = .pending := by simp [csu, Csu.beginEpisode, lost]
  rw [enterCapturing_eq]
  exact creepRecompute_blind hold (by simp [pending]) (.inr rfl) none

end

/-- A blind capture ends the command in SECURING (R29, R113). -/
theorem blind_capture_spec {s : State} (run : s.mdc.mode = .run) (lane : s.free.laneFault = none)
    (lost : s.wmt.positionValid = false)
    (quiet : ∀ p ∈ s.pvt.entries, p.freshness = .fresh → p.decl.phase.isHold = true → p.decl.creepValid = false)
    (spring : s.spring = true) (sensor : s.pad.sensor ≠ .outOfRange) (clear : s.frb.responseActive = false) :
    ∃ t, conclude s s.enterCapturing = t
      ∧ (t.inPhase .securing = true ∧ t.hpc.pCap = some s.trapped ∧ t.hpc.request = true ∧ t.pad.asserted = true)
      ∧ (t.csu.anchor = .pending ∧ t.csu.ownValid = false ∧ t.csu.effective = none ∧ t.csu.blind = true
        ∧ t.csu.ownLevel = 4 ∧ t.csu.nodeLevel = 4)
      ∧ t.frb.responseActive = true
      ∧ (s.frb.banks.sense = none → t.frb.banks.sense.map (fun r => (r.severity, r.cls, r.element)) = some (.severe,
        .signal, some .creep))
      ∧ s.keeps t [.csu, .hal, .hpc, .cpr, .pad, .sgi, .frb] := by
  have framed : s.framed s.captured.creepLost := (captured_framed lane).trans (sustains_csu _ _).toframed
  have keeps := captured_keeps lane
  have phase : s.captured.creepLost.inPhase .capturing = true := captured_inPhase lane run
  have frb : s.captured.creepLost.frb = s.frb := keeps .frb (by decide)
  have pad : s.captured.creepLost.pad = s.pad := keeps .pad (by decide)
  have pending : s.captured.csu.anchor = .pending := by rw [captured_csu lane]; simp [Csu.beginEpisode, lost]
  have unread : s.captured.csu.ownValid = false := by rw [captured_csu lane]; exact lost
  obtain ⟨pCap, -, -, -, failed⟩ := captured_fields lane
  have drives : s.captured.creepLost.drivesLine := .inr (by rw [pad]; exact sensor)
  have fitted : s.captured.creepLost.spring = true := by
    unfold State.spring
    rw [framed.mdc]
    exact spring
  have lane' := framed.lane lane
  have clear' : s.captured.creepLost.frb.responseActive = false := by rw [frb, clear]
  have triggers : s.captured.creepLost.triggers := .inl ⟨.inl ((inPhase_iff _ _).1 phase).2, failed⟩
  obtain ⟨securing, -, csu, x, stored⟩ :=
    blindOnset_secures lane' clear' (inHold_of_inPhase phase rfl) drives triggers
  obtain ⟨onset, request, asserted, trapped, h, held, stage⟩ := blindOnset_hpc lane' clear' drives phase failed
  have whole := framed.trans onset
  rw [enterCapturing_blind run lane lost quiet]
  refine ⟨_, conclude_fixed (react_securing_idle s securing held (driveAway_of_same whole.vir whole.mdc) fun wait => ?_),
    ⟨?_, ?_, ?_, ?_⟩, ⟨?_, ?_, ?_, ?_, ?_, ?_⟩, ?_, fun empty => ?_, whole.keeps.ended⟩
  · rw [stage fitted] at wait
    cases wait
  · rwa [ended_inPhase]
  · simp only [State.drawn_hpc, lapse_pCap]
    exact trapped.trans pCap
  · simpa using request
  · exact asserted
  · exact (congrArg Csu.anchor csu).trans pending
  · exact (congrArg Csu.ownValid csu).trans unread
  · exact congrArg Csu.effective csu
  · exact congrArg Csu.blind csu
  · exact congrArg Csu.ownLevel csu
  · exact congrArg Csu.nodeLevel csu
  · simp [stored]
  · rw [State.drawn_frb, State.lapse_frb, stored, frb]
    simp [Banks.store, Banks.put, Banks.get, empty, overwrite, State.complete, blindReport, plainReport]

/-- Settles O41: `capture_spec` at the expiry and at an Alert, and `blind_capture_spec`. -/
theorem captureEntersCapturing : Obligations.CaptureEntersCapturing := by
  refine ⟨fun s c n data released attended valid ok alone lane command => ?_,
    fun s captures time lost quiet spring sensor clear lane => ?_⟩
  · have opened : s.capturable := ⟨released, attended, valid, ok, alone, lane⟩
    rcases command with ⟨rfl, captures, time⟩ | ⟨rfl, takes, peer, good, stationary, demand⟩
    · obtain ⟨t, ends, phase, target, episode, creep, flags, level, result, keeps⟩ := capture_spec s opened
      refine ⟨t, ?_, phase, target, episode, creep, flags, level, fun _ => result, keeps.mono (by decide)⟩
      rw [exec_captureQualifyingExpiry captures time, ends]
    · obtain ⟨a, decoded⟩ := Option.isSome_iff_exists.1 good
      obtain ⟨t, ends, phase, target, episode, creep, flags, level, -, keeps⟩ :=
        capture_spec s (opened.alertTaken n a)
      refine ⟨t, ?_, phase, target, episode, creep, flags, level, (fun e => nomatch e),
        ((alertTaken_keeps s n a).trans keeps).mono (by decide)⟩
      rw [exec_alert_captures opened takes peer decoded stationary demand, ends]
  · have run : s.mdc.mode = .run := ((inPhase_iff s _).1 (captureConditions_inPhase captures)).1
    obtain ⟨t, ends, spec⟩ := blind_capture_spec run lane lost quiet spring sensor clear
    refine ⟨t, ?_, spec⟩
    rw [exec_captureQualifyingExpiry captures time, ends]

end Sys2Proof.Machine

/-! PROOF. The valve mode of the CPR through every step (R128 to R131): each elementary move keeps REGULATING with the hold
phases of RUN, and pass-through with everything else. -/

namespace Sys2Proof.Machine

/-! ## Within a valve mode -/

/-- A regulator changed within its valve mode: REGULATING never comes to drive pass-through, and in PASS-THROUGH valves
and operation stand (R129). -/
structure Cpr.within (k d : Cpr) : Prop where
  mode : d.regulating = k.regulating
  drives : d.regulating = true → k.valves ≠ .passThrough → d.valves ≠ .passThrough
  rests : d.regulating = false → d.valves = k.valves ∧ d.operation = k.operation

theorem Cpr.within.refl (k : Cpr) : k.within k := ⟨rfl, fun _ => id, fun _ => ⟨rfl, rfl⟩⟩

theorem Cpr.within.trans {a b d : Cpr} (h : a.within b) (k : b.within d) : a.within d where
  mode := k.mode.trans h.mode
  drives e shut := k.drives e (h.drives (k.mode ▸ e) shut)
  rests e := ⟨(k.rests e).1.trans (h.rests (k.mode ▸ e)).1, (k.rests e).2.trans (h.rests (k.mode ▸ e)).2⟩

/-- In REGULATING it is enough that mode and driving stand. -/
theorem Cpr.within.of_regulating {k d : Cpr} (on : k.regulating = true) (mode : d.regulating = k.regulating)
    (drives : k.valves ≠ .passThrough → d.valves ≠ .passThrough) : k.within d :=
  ⟨mode, fun _ => drives, fun e => by simp [mode, on] at e⟩

theorem placeTarget_within {k : Cpr} (o : Operation) (on : k.regulating = true) : k.within (k.placeTarget o) := by
  unfold Cpr.placeTarget
  split
  · exact .of_regulating on rfl fun _ => direction_valves _
  · split
    · exact .of_regulating on rfl fun _ => Valves.noConfusion
    · exact .of_regulating on rfl fun _ => direction_valves _

theorem enterRegulating_drives (k : Cpr) : k.enterRegulating.valves ≠ .passThrough := Valves.noConfusion

/-- A target is taken within the valve mode (R137). -/
theorem take_within (k : Cpr) (pMax v : Nat) (anew : Bool) : k.within (k.take pMax v anew) := by
  unfold Cpr.take
  dsimp only
  split
  · exact ⟨rfl, fun _ => id, fun _ => ⟨rfl, rfl⟩⟩
  · rename_i regulating
    have on : k.regulating = true := by simpa using regulating
    have retargeted (v : Nat) : k.within { k with target := v, settleTime := 0, settleOwed := true, abandoned := false } :=
      ⟨rfl, fun _ => id, fun _ => ⟨rfl, rfl⟩⟩
    split
    · exact .refl k
    · refine (retargeted (min pMax v)).trans ?_
      split
      · exact placeTarget_within _ on
      · obtain ⟨mode, -, drives⟩ := bandTest_mode { k with
          target := min pMax v, settleTime := 0, settleOwed := true, abandoned := false }
        exact .of_regulating on mode drives

/-! ## Valve mode and phase -/

/-- REGULATING in a hold phase of RUN alone with its valves, and WATCH in SECURED, from which a return goes on regulating
(R124, R128, R129). -/
structure State.regulatesOk (s : State) : Prop where
  mode : s.cpr.regulating = true ↔ s.inHold = true
  valves : s.cpr.valves = .passThrough ↔ s.cpr.regulating = false
  idle : s.cpr.regulating = false → s.cpr.operation = none
  watch : s.mdc.mode = .watch → s.hpc.phase = .secured

section
variable {s t : State}

theorem State.regulatesOk.valvesOk (h : s.regulatesOk) : s.valvesOk := ⟨h.mode, h.valves, h.idle⟩

theorem State.regulatesOk_of_phaseOk (records : s.phaseOk) (h : s.valvesOk) : s.regulatesOk := by
  obtain ⟨mode, valves, idle⟩ := h
  obtain ⟨-, -, watch, -⟩ := records
  exact ⟨mode, valves, idle, watch⟩

/-- Mode and phase stand, and the regulator is changed within its valve mode. -/
theorem State.regulatesOk.of_within (h : s.regulatesOk) (cpr : s.cpr.within t.cpr) (mode : t.mdc.mode = s.mdc.mode)
    (phase : t.hpc.phase = s.hpc.phase) : t.regulatesOk where
  mode := by rw [cpr.mode, State.inHold, mode, phase]; exact h.mode
  valves := by
    cases e : t.cpr.regulating with
    | true =>
      have on : s.cpr.regulating = true := cpr.mode ▸ e
      simpa using cpr.drives e fun pass => by simp [h.valves.1 pass] at on
    | false => simpa [(cpr.rests e).1] using h.valves.2 (cpr.mode ▸ e)
  idle e := (cpr.rests e).2.trans (h.idle (cpr.mode ▸ e))
  watch e := by rw [phase]; exact h.watch (mode ▸ e)

/-- What leaves regulator, mode and phase leaves `regulatesOk`. -/
theorem State.regulatesOk.of_same (h : s.regulatesOk) (cpr : t.cpr = s.cpr) (mode : t.mdc.mode = s.mdc.mode)
    (phase : t.hpc.phase = s.hpc.phase) : t.regulatesOk :=
  h.of_within (cpr ▸ .refl s.cpr) mode phase

/-- A hold phase of RUN, with the regulator within a REGULATING that drives (R129, R130). -/
theorem State.regulatesOk_of_hold {k : Cpr} (run : t.mdc.mode = .run) (phase : t.hpc.phase.isHold = true)
    (regulating : k.regulating = true) (drives : k.valves ≠ .passThrough) (cpr : k.within t.cpr) : t.regulatesOk := by
  have on : t.cpr.regulating = true := cpr.mode.trans regulating
  exact ⟨by simp [on, State.inHold, run, phase], by simpa [on] using cpr.drives on drives, fun e => by simp [on] at e,
    fun e => by simp [run] at e⟩

/-- Outside the hold phases of RUN, with the regulator in pass-through (R129, R131). -/
theorem State.regulatesOk_of_passThrough (hold : t.inHold = false) (regulating : t.cpr.regulating = false)
    (valves : t.cpr.valves = .passThrough) (idle : t.cpr.operation = none)
    (watch : t.mdc.mode = .watch → t.hpc.phase = .secured) : t.regulatesOk :=
  ⟨by simp [regulating, hold], by simp [regulating, valves], fun _ => idle, watch⟩

/-- From one hold phase of RUN to another the regulator goes on driving (R129). -/
theorem State.regulatesOk.of_hold (h : s.regulatesOk) (hold : s.inHold = true) (mode : t.mdc.mode = s.mdc.mode)
    (phase : t.hpc.phase.isHold = true) (cpr : s.cpr.within t.cpr) : t.regulatesOk := by
  have on := h.mode.2 hold
  exact State.regulatesOk_of_hold (mode.trans (inHold_mode hold)) phase on
    (fun pass => by simp [h.valves.1 pass] at on) cpr

/-- Outside RUN the regulator is in pass-through (R129, R131). -/
theorem State.regulatesOk.rests (h : s.regulatesOk) (mode : s.mdc.mode ≠ .run) :
    s.cpr.regulating = false ∧ s.cpr.valves = .passThrough ∧ s.cpr.operation = none := by
  have off : s.cpr.regulating = false := Bool.eq_false_iff.2 fun on => mode (inHold_mode (h.mode.1 on))
  exact ⟨off, h.valves.2 off, h.idle off⟩

end

/-! ## Moves -/

theorem safeBlocks_cpr (s : State) (left : Mode) : ∃ reading, (s.safeBlocks left).cpr = { s.cpr with reading := reading } := by
  unfold State.safeBlocks
  split
  · split <;> exact ⟨_, rfl⟩
  all_goals exact ⟨_, rfl⟩

/-- An entry to SAFE opens the valves (R131). -/
theorem startSafe_regulatesOk (s : State) (hold : Bool) (left : Mode) : (s.startSafe hold left).regulatesOk := by
  have mode : (s.startSafe hold left).mdc.mode = .safe := by rw [State.startSafe_mdc]; rfl
  obtain ⟨reading, cpr⟩ := safeBlocks_cpr (s.safeMode hold) left
  refine State.regulatesOk_of_passThrough (by rw [State.inHold, mode]; rfl) ?_ ?_ ?_ (by rw [mode]; nofun)
  all_goals rw [State.startSafe, cpr]; rfl

/-- Every elementary move keeps the valve mode with the phase. -/
theorem Move.keeps_regulatesOk {c : Instr} (s t : State) (m : Move c s t) (h : s.regulatesOk) : t.regulatesOk := by
  cases m with
  | hpc p hp => exact h.of_same rfl rfl hp
  | mdc m hm => exact h.of_same rfl hm rfl
  | cpr k hr ht hv hp => exact h.of_within ⟨hr, hv, hp⟩ rfl rfl
  | target v anew => exact h.of_within (take_within _ _ _ _) rfl rfl
  | capture released =>
    exact State.regulatesOk_of_hold (k := s.cpr.enterRegulating) ((inPhase_iff s _).1 released).1 rfl rfl
      (enterRegulating_drives _) (.refl _)
  | holding b anew hold => exact h.of_hold hold rfl rfl (take_within _ _ _ _)
  | secured hold => exact h.of_hold hold rfl rfl (take_within _ _ _ _)
  | securing hold | releasing hold => exact h.of_hold hold rfl rfl (.refl _)
  | released hold =>
    exact State.regulatesOk_of_passThrough (by simp [State.inHold, State.releasedStart, Phase.isHold]) rfl rfl rfl
      fun e => by simp [inHold_mode hold] at e
  | power | restart => exact State.regulatesOk_of_passThrough rfl rfl rfl rfl nofun
  | config started =>
    obtain ⟨regulating, valves, idle⟩ := h.rests (by simp [started])
    exact State.regulatesOk_of_passThrough rfl regulating valves idle nofun
  | run | afresh => exact State.regulatesOk_of_passThrough rfl rfl rfl rfl nofun
  | resumed r =>
    have phase : ((s.restarted.startResumed r).hpc.phase).isHold = true := by
      obtain ⟨p | p, -⟩ := resumeHold_phase s.restarted.hpc r <;>
        exact (congrArg Phase.isHold p).trans rfl
    exact State.regulatesOk_of_hold (k := s.cpr.enterRegulating) rfl phase rfl (enterRegulating_drives _)
      (take_within _ _ _ _)
  | watch secured =>
    exact State.regulatesOk_of_passThrough rfl rfl rfl rfl fun _ => ((inPhase_iff s _).1 secured).2
  | wake parked watching =>
    have phase : (s.wakeTarget parked).hpc.phase.isHold = true := (congrArg Phase.isHold (h.watch watching)).trans rfl
    exact State.regulatesOk_of_hold (k := ({ s.cpr with reading := true } : Cpr).enterRegulating) rfl phase rfl
      (enterRegulating_drives _) (take_within _ _ _ _)
  | safe hold => exact (startSafe_regulatesOk s hold _).of_same rfl rfl rfl
  | declaration | alert | rouse | owedReply | reply | record => exact h.of_same (by simp) (by simp) (by simp)
  | _ => exact h.of_same rfl rfl rfl

theorem tick_regulatesOk {s : State} (h : s.regulatesOk) : s.tick.regulatesOk := by
  unfold State.tick
  split
  · refine h.of_same rfl rfl ?_
    show s.advanced.hpc.phase = s.hpc.phase
    unfold State.advanced
    dsimp only
    split <;> rfl
  · exact h

/-- Settles O7: the moves of a command keep the valve mode with the phase, and a tick leaves mode, phase and regulator. -/
theorem stepKeepsValves : Obligations.StepKeepsValves := by
  intro s t records valves hstep
  have h := State.regulatesOk_of_phaseOk records valves
  rcases step_cases s with ⟨c, l, u, -, hu, moves⟩ | ⟨-, htick⟩
  · obtain rfl : t = u := by simpa [hu] using hstep.symm
    have start : (s.withPending l).regulatesOk := h.of_same rfl rfl rfl
    exact (moves.keeps Move.keeps_regulatesOk start).valvesOk
  · obtain rfl : t = s.tick := by simpa [htick] using hstep.symm
    exact (tick_regulatesOk h).valvesOk

end Sys2Proof.Machine

/-! PROOF. O48: one reading of the regulator (R132 to R141): on a side of the band, inside it, and out of range. -/

namespace Sys2Proof.Machine

/-! ## Directions and the band -/

theorem Direction.eq_opposite {d e : Direction} (h : e ≠ d) : e = d.opposite := by
  cases d <;> cases e <;> simp_all [Direction.opposite]

theorem Direction.opposite_opposite (d : Direction) : d.opposite.opposite = d := by cases d <;> rfl

/-- The timeout of a direction (R140, R141). -/
def Direction.timeout : Direction → StepResult
  | .apply => .applyTimeout
  | .vent => .ventTimeout

theorem ownSide_opposite {d : Direction} {target p : Nat} (own : d.ownSide target p = true) :
    d.opposite.ownSide target p = false := by
  cases d <;> simp only [Direction.ownSide, Direction.opposite, belowBand, aboveBand, decide_eq_true_eq,
    decide_eq_false_iff_not] at own ⊢ <;> omega

/-! ## A reading keeps what it has taken -/

/-- Measured pressure and sensor state stand. -/
def Cpr.sameReading (k d : Cpr) : Prop := d.measured = k.measured ∧ d.sensor = k.sensor

theorem bandTest_reading (k : Cpr) : k.sameReading k.bandTest := by
  unfold Cpr.bandTest
  repeat' split
  all_goals exact ⟨rfl, rfl⟩

theorem operationStep_reading (k : Cpr) : k.sameReading k.operationStep.1 := by
  unfold Cpr.operationStep
  repeat' split
  all_goals exact ⟨rfl, rfl⟩

theorem settleStep_reading (k : Cpr) : k.sameReading k.settleStep.1 := by
  unfold Cpr.settleStep
  repeat' split
  all_goals exact ⟨rfl, rfl⟩

theorem reportTimeout_reading (k : Cpr) (r : StepResult) : k.sameReading (k.reportTimeout r).1 := by
  cases r <;> exact ⟨rfl, rfl⟩

theorem Cpr.sameReading.trans {a b d : Cpr} (h : a.sameReading b) (k : b.sameReading d) : a.sameReading d :=
  ⟨k.1.trans h.1, k.2.trans h.2⟩

theorem regulate_reading (k : Cpr) : k.sameReading k.regulate.1 :=
  (((bandTest_reading k).trans (operationStep_reading _)).trans (settleStep_reading _)).trans (reportTimeout_reading _ _)

/-! ## On a side of the band (R135, R136, R138, R140, R141) -/

section
variable {k : Cpr} {d : Direction}

/-- The operation time with which a reading on a direction's side goes on: one more in that direction, 1 where the reading
begins the operation (log entry 41), and 0 at a reversal (R138). -/
def Cpr.timeToward (k : Cpr) (d : Direction) : Nat :=
  if k.operation.map Operation.direction = some d then (k.operation.map Operation.time).getD 0 + 1
  else if k.operation.map Operation.direction = none then 1 else 0

/-- The chamber driven in a direction. -/
def Cpr.driven (k : Cpr) (d : Direction) (time : Nat) (owed : Bool) : Cpr :=
  { k with operation := some { direction := d, time := time }, valves := d.valves, settleOwed := owed }

theorem operationStep_onward {o : Operation} (held : k.operation = some o) (own : o.direction.ownSide k.target k.measured = true)
    (early : o.time < 799) : k.operationStep = (k.driven o.direction (o.time + 1) k.settleOwed, .goesOn) := by
  simp only [Cpr.operationStep, held, own, if_true, if_neg (show ¬800 ≤ o.time + 1 by omega)]
  rfl

theorem operationStep_timeout {o : Operation} (held : k.operation = some o)
    (own : o.direction.ownSide k.target k.measured = true) (late : 799 ≤ o.time) :
    k.operationStep = (k.timedOut, o.direction.timeout) := by
  simp only [Cpr.operationStep, held, own, if_true, if_pos (show 800 ≤ o.time + 1 by omega)]
  cases o.direction <;> rfl

theorem operationStep_reverses {o : Operation} (held : k.operation = some o) (own : d.ownSide k.target k.measured = true)
    (other : o.direction ≠ d) : k.operationStep = (k.begin d, .goesOn) := by
  have direction := Direction.eq_opposite other
  simp [Cpr.operationStep, held, direction, ownSide_opposite own, ownSide_not_inside own, Direction.opposite_opposite]

theorem bandTest_present {o : Operation} (held : k.operation = some o) : k.bandTest = k := by
  simp [Cpr.bandTest, held]

theorem bandTest_begins (on : k.regulating = true) (valid : k.sensor = .valid) (active : k.abandoned = false)
    (idle : k.operation = none) (own : d.ownSide k.target k.measured = true) : k.bandTest = k.begin d := by
  cases d with
  | apply =>
    have below : belowBand k.target k.measured = true := own
    simp [Cpr.bandTest, on, valid, active, idle, below]
  | vent =>
    have above : aboveBand k.target k.measured = true := own
    have below : belowBand k.target k.measured = false := ownSide_opposite (d := .vent) own
    simp [Cpr.bandTest, on, valid, active, idle, below, above]

variable (on : k.regulating = true) (valid : k.sensor = .valid) (active : k.abandoned = false)
  (own : d.ownSide k.target k.measured = true)
include on valid active own

/-- Before its 800 ms are full the chamber is driven in the direction of its side of the band. -/
theorem step_drives (early : k.operation.map Operation.direction ≠ some d ∨ (k.operation.map Operation.time).getD 0 < 799) :
    ∃ owed, k.bandTest.operationStep = (k.driven d (k.timeToward d) owed, .goesOn) := by
  cases operation : k.operation with
  | none =>
    have begun : (k.begin d).operation = some { direction := d, time := 0 } := rfl
    refine ⟨true, ?_⟩
    rw [bandTest_begins on valid active operation own, operationStep_onward begun own (Nat.zero_lt_succ _)]
    simp [Cpr.timeToward, operation, Cpr.driven, Cpr.begin]
  | some o =>
    rw [bandTest_present operation]
    by_cases same : o.direction = d
    · have time : o.time < 799 := by simpa [operation, same] using early
      refine ⟨k.settleOwed, ?_⟩
      rw [operationStep_onward operation (same ▸ own) time]
      simp [Cpr.timeToward, operation, same]
    · refine ⟨true, ?_⟩
      rw [operationStep_reverses operation own same]
      simp [Cpr.timeToward, operation, same, Cpr.driven, Cpr.begin]

omit on valid active in
theorem step_times_out (same : k.operation.map Operation.direction = some d)
    (late : 799 ≤ (k.operation.map Operation.time).getD 0) : k.bandTest.operationStep = (k.timedOut, d.timeout) := by
  obtain ⟨o, operation, rfl⟩ := Option.map_eq_some_iff.1 same
  rw [bandTest_present operation, operationStep_timeout operation own (by simpa [operation] using late)]

end

/-- Outside the band no settle time runs (R139). -/
theorem settleStep_outside {k : Cpr} (outside : insideBand k.target k.measured = false) :
    k.settleStep = ({ k with settleTime := 0 }, false) := by
  simp [Cpr.settleStep, outside]

/-! ## Inside the band (R135, R136, R139) -/

section
variable {k : Cpr} (inside : insideBand k.target k.measured = true)
include inside

theorem bandTest_inside : k.bandTest = k := by
  simp only [insideBand, Bool.and_eq_true, Bool.not_eq_true'] at inside
  simp [Cpr.bandTest, inside.1, inside.2]

theorem ownSide_inside (d : Direction) : d.ownSide k.target k.measured = false := by
  simp only [insideBand, Bool.and_eq_true, Bool.not_eq_true'] at inside
  cases d
  · exact inside.1
  · exact inside.2

theorem operationStep_inside : k.operationStep
    = ({ k with valves := if k.operation.isSome then .holdOnly else k.valves }, .goesOn) := by
  cases operation : k.operation with
  | none =>
    simp only [Cpr.operationStep, operation]
    rw [if_neg (by decide), ← operation]
  | some o => simp [Cpr.operationStep, operation, ownSide_inside inside, inside]

theorem settleStep_settled_iff : k.settleStep.2 = true ↔ 50 ≤ k.settleTime + 1 ∧ k.settleOwed = true := by
  simp only [Cpr.settleStep, inside, if_true]
  split <;> simp_all

theorem settleStep_holds (hold : k.valves = .holdOnly) : k.settleStep.1.valves = .holdOnly := by
  simp only [Cpr.settleStep, inside, if_true]
  split
  · rfl
  · exact hold

end

/-- A settled report ends the operation (R139). -/
theorem settleStep_ends {k : Cpr} (settled : k.settleStep.2 = true) : k.settleStep.1.operation = none
    ∧ k.settleStep.1.valves = .holdOnly ∧ k.settleStep.1.settleOwed = false := by
  obtain ⟨time, owed⟩ := (settleStep_settled_iff (settleStep_inside settled)).1 settled
  simp [Cpr.settleStep, settleStep_inside settled, time, owed]

/-! ## One regulated reading -/

theorem regulate_ends {k : Cpr} (settled : k.regulate.2.settled = true) : k.regulate.1.operation = none
    ∧ k.regulate.1.valves = .holdOnly ∧ k.regulate.1.settleOwed = false := by
  have goesOn := operationStep_settled (k := k.bandTest) settled
  have ends := settleStep_ends settled
  simpa [Cpr.regulate, goesOn, Cpr.reportTimeout] using ends

theorem regulate_inside {k : Cpr} (inside : insideBand k.target k.measured = true) :
    (k.operation.isSome = true → k.regulate.1.valves = .holdOnly)
      ∧ (k.regulate.2.settled = true ↔ 50 ≤ k.settleTime + 1 ∧ k.settleOwed = true)
      ∧ k.regulate.2.applyTimeout = false ∧ k.regulate.2.ventTimeout = false := by
  have step := operationStep_inside inside
  simp only [Cpr.regulate, bandTest_inside inside, step, Cpr.reportTimeout]
  refine ⟨fun held => settleStep_holds inside (if_pos held), settleStep_settled_iff inside, rfl, rfl⟩

section
variable {k : Cpr} {d : Direction} (own : d.ownSide k.target k.measured = true)
include own

/-- A timeout of the side's direction: the operation abandoned, and its report unless made before (R140 to R142). -/
theorem regulate_times_out (same : k.operation.map Operation.direction = some d)
    (late : 799 ≤ (k.operation.map Operation.time).getD 0) :
    k.regulate = ((({ k.timedOut with settleTime := 0 } : Cpr).reportTimeout d.timeout).1,
      { PressureEvents.none with
        reports := (k.reportTimeout d.timeout).2, applyTimeout := d == .apply, ventTimeout := d == .vent }) := by
  have outside : insideBand k.timedOut.target k.timedOut.measured = false := ownSide_not_inside own
  simp only [Cpr.regulate, step_times_out own same late, settleStep_outside outside]
  cases d <;> rfl

/-- A reading on a side of the band that does not time out drives the chamber and gives rise to nothing (R135, R136). -/
theorem regulate_drives (on : k.regulating = true) (valid : k.sensor = .valid) (active : k.abandoned = false)
    (early : k.operation.map Operation.direction ≠ some d ∨ (k.operation.map Operation.time).getD 0 < 799) :
    ∃ owed, k.regulate = ({ k.driven d (k.timeToward d) owed with settleTime := 0 }, PressureEvents.none) := by
  obtain ⟨owed, step⟩ := step_drives on valid active own early
  have outside : insideBand (k.driven d (k.timeToward d) owed).target (k.driven d (k.timeToward d) owed).measured = false :=
    ownSide_not_inside own
  refine ⟨owed, ?_⟩
  simp only [Cpr.regulate, step, settleStep_outside outside]
  rfl

/-- On a side of the band a reading settles nothing, and the other direction does not time out. -/
theorem regulate_outside (on : k.regulating = true) (valid : k.sensor = .valid) (active : k.abandoned = false) :
    k.regulate.2.settled = false ∧ k.regulate.1.settleTime = 0 ∧ (d ≠ .apply → k.regulate.2.applyTimeout = false)
      ∧ (d ≠ .vent → k.regulate.2.ventTimeout = false) := by
  by_cases late : k.operation.map Operation.direction = some d ∧ 799 ≤ (k.operation.map Operation.time).getD 0
  · rw [regulate_times_out own late.1 late.2]
    cases d <;> simp [Direction.timeout, Cpr.reportTimeout, PressureEvents.none]
  · obtain ⟨owed, e⟩ := regulate_drives own on valid active ((not_and_or.1 late).imp_right Nat.lt_of_not_le)
    simp [e, PressureEvents.none]

end

/-! ## The reading (R132, R133) -/

/-- A reading in range, REGULATING, is regulated as it is taken. -/
theorem read_regulates {k : Cpr} {p : Int} (on : k.regulating = true) (range : -20 ≤ p ∧ p ≤ 1050) :
    k.read p = (k.accept (pressureClamped p)).regulate := by
  have inside : pressureInRange p = true := by simpa [pressureInRange] using range
  have taken : (k.accept (pressureClamped p)).regulating = true := on
  simp [Cpr.read, inside, taken]

theorem read_loses_range {k : Cpr} {p : Int} (outside : p < -20 ∨ 1050 < p) (run : 4 ≤ k.rangeRun)
    (sensor : k.sensor ≠ .outOfRange) :
    k.read p = (k.rangeLost, { PressureEvents.none with reports := [chamberSensorReport], rangeOnset := true }) := by
  have range : pressureInRange p = false := by
    simp only [pressureInRange, Bool.and_eq_false_iff, decide_eq_false_iff_not]
    omega
  simp [Cpr.read, range, show 5 ≤ k.rangeRun + 1 by omega, sensor]

/-- Settles O48: on either side of the band the reading drives or times out, inside it the operation goes hold-only until
the settled report, and the fifth reading out of range ends it. -/
theorem regulatedReadingDrivesToBand : Obligations.RegulatedReadingDrivesToBand := by
  constructor
  · intro k p m dir time on active range
    have below (low : m + 15 < k.target) : Direction.apply.ownSide k.target m = true := decide_eq_true low
    have above (high : k.target + 15 < m) : Direction.vent.ownSide k.target m = true := decide_eq_true high
    have taken : k.read p = (k.accept m).regulate := read_regulates on range
    have outside {d : Direction} (own : d.ownSide k.target m = true) := regulate_outside (k := k.accept m) own on rfl active
    obtain ⟨measured, sensor⟩ := regulate_reading (k.accept m)
    obtain ⟨regulating, target, -⟩ := regulate_mode (k.accept m)
    rw [taken]
    refine ⟨⟨measured, sensor, target, regulating.trans on⟩, fun low same late => ?_, fun low early => ?_,
      fun low => ?_, fun high same late => ?_, fun high early => ?_, fun high => ?_, fun low high => ?_, regulate_ends⟩
    · rw [regulate_times_out (k := k.accept m) (below low) same late]
      exact ⟨rfl, rfl, rfl, rfl, rfl, rfl⟩
    · obtain ⟨owed, e⟩ := regulate_drives (k := k.accept m) (below low) on rfl active early
      rw [e]
      exact ⟨rfl, rfl, rfl, active, rfl⟩
    · obtain ⟨settled, settleTime, -, vent⟩ := outside (below low)
      exact ⟨vent Direction.noConfusion, settled, settleTime⟩
    · rw [regulate_times_out (k := k.accept m) (above high) same late]
      exact ⟨rfl, rfl, rfl, rfl, rfl, rfl⟩
    · obtain ⟨owed, e⟩ := regulate_drives (k := k.accept m) (above high) on rfl active early
      rw [e]
      exact ⟨rfl, rfl, rfl, active, rfl⟩
    · obtain ⟨settled, settleTime, apply, -⟩ := outside (above high)
      exact ⟨apply Direction.noConfusion, settled, settleTime⟩
    · have inside : insideBand k.target m = true := by
        simp only [insideBand, belowBand, aboveBand, Bool.and_eq_true, Bool.not_eq_true', decide_eq_false_iff_not]
        omega
      obtain ⟨hold, settled, timeouts⟩ := regulate_inside (k := k.accept m) inside
      have owed : (k.accept m).settleOwed = true ↔ k.settleOwed = true ∨ k.sensor = .outOfRange := by
        simp [Cpr.accept, on]
      rw [owed] at settled
      exact ⟨hold, settled, timeouts⟩
  · intro k p on outside run sensor
    rw [read_loses_range outside run sensor]
    simp [Cpr.rangeLost, on]

end Sys2Proof.Machine

/-! PROOF. O47: a pressure reading in PASS-THROUGH (R132 to R134), as a command in a steady state. -/

namespace Sys2Proof.Machine

/-! ## A reading as a command (log entry 5) -/

section
variable {s : State} {p : Int}

/-- A row whose event comes about is the whole reading. -/
theorem pressureIf_occurs {occurs : PressureEvents → Bool} (reading : s.cpr.reading = true)
    (due : occurs (s.cpr.read p).2 = true) : s.pressureIf occurs p = s.pressureRead p := by
  simp [State.pressureIf, reading, due]

/-- A row whose event does not come about leaves everything. -/
theorem pressureIf_quiet {occurs : PressureEvents → Bool} (quiet : occurs (s.cpr.read p).2 = false) :
    s.pressureIf occurs p = s := by
  simp [State.pressureIf, quiet]

/-- A reading that neither settles nor times out the apply valve is the CPR's own, with its reports. -/
theorem pressureRead_reports (settles : (s.cpr.read p).2.settled = false) (apply : (s.cpr.read p).2.applyTimeout = false) :
    s.pressureRead p = (s.withCpr (s.cpr.read p).1).reportAll (s.cpr.read p).2.reports := by
  simp [State.pressureRead, settles, apply, State.withCpr]

theorem withCpr_touches (s : State) (k : Cpr) : s.touches (s.withCpr k) [.cpr] := ⟨withCpr_keeps s k, rfl, rfl, rfl⟩

end

/-! ## Readings in PASS-THROUGH (R132, R133) -/

theorem pressureInRange_eq_true {p : Int} (range : -20 ≤ p ∧ p ≤ 1050) : pressureInRange p = true := by
  simpa [pressureInRange] using range

theorem pressureInRange_eq_false {p : Int} (outside : p < -20 ∨ 1050 < p) : pressureInRange p = false := by
  simp only [pressureInRange, Bool.and_eq_false_iff, decide_eq_false_iff_not]
  omega

section
variable {k : Cpr} {p : Int}

theorem read_passes (off : k.regulating = false) (range : pressureInRange p = true) : k.read p
    = ({ k with measured := pressureClamped p, rangeRun := 0, sensor := .valid }, PressureEvents.none) := by
  simp [Cpr.read, range, Cpr.accept, off]

theorem read_counts (outside : pressureInRange p = false) (early : k.rangeRun < 4) :
    k.read p = ({ k with rangeRun := k.rangeRun + 1 }, PressureEvents.none) := by
  simp [Cpr.read, outside, show ¬5 ≤ k.rangeRun + 1 by omega]

/-- Only the fifth reading out of range running is an onset (R133). -/
theorem read_no_onset (off : k.regulating = false) (quiet : pressureInRange p = true ∨ k.rangeRun ≠ 4 ∨ k.sensor = .outOfRange)
    (top : k.rangeRun ≤ 5) (full : k.rangeRun = 5 → k.sensor = .outOfRange) : (k.read p).2.rangeOnset = false := by
  cases range : pressureInRange p with
  | true => simp [read_passes off range, PressureEvents.none]
  | false =>
    rcases Nat.lt_or_ge k.rangeRun 4 with early | late
    · simp [read_counts range early, PressureEvents.none]
    · have lost : k.sensor = .outOfRange := by
        rcases quiet with inside | run | lost
        · simp [range] at inside
        · exact full (by omega)
        · exact lost
      simp [Cpr.read, range, show 5 ≤ k.rangeRun + 1 by omega, lost, PressureEvents.none]

end

/-! ## Records stored in an empty bank (R200, R202) -/

/-- A record stored in an empty bank is held. -/
theorem mem_records_store {b : Banks} {k : Bank} (empty : b.get k = none) (r : FaultRecord) :
    { r with overflow := false } ∈ (b.store k r).records := by
  refine (Banks.mem_records _ _).2 ⟨k, ?_⟩
  rw [Banks.get_store, if_pos rfl, empty]
  rfl

theorem holdCompromised_stored {b : Banks} {k : Bank} {r : FaultRecord} (empty : b.get k = none)
    (compromised : r.holdCompromised = true) : (b.store k r).holdCompromised = true :=
  List.any_eq_true.2 ⟨_, mem_records_store empty r, compromised⟩

theorem releasePermitted_stored {b : Banks} {k : Bank} {r : FaultRecord} (empty : b.get k = none)
    (withheld : r.releasePermitted = false) : (b.store k r).releasePermitted = false :=
  List.all_eq_false.2 ⟨_, mem_records_store empty r, by simpa using withheld⟩

/-- A set hold-compromised declares no capacity (R84). -/
theorem declaredCapacity_compromised {s : State} (compromised : s.frb.banks.holdCompromised = true) :
    s.declaredCapacity = 0 := by
  simp [State.declaredCapacity, compromised]

/-! ## A CPR with at most one report, outside a hold -/

theorem reportAll_one (s : State) (r : Report) : s.reportAll [r] = s.report r := rfl

/-- The first severe report of a changed CPR, outside a hold (R199 to R202). -/
theorem withCpr_report {s : State} (k : Cpr) {r : Report} (h : s.calm) (severe : r.severity = .severe)
    (clear : s.frb.responseActive = false) :
    s.touches ((s.withCpr k).report r) [.hal, .hpc, .cpr, .sgi, .frb] ∧ ((s.withCpr k).report r).cpr = k
      ∧ ((s.withCpr k).report r).frb = { banks := s.frb.banks.store r.bank (s.complete r), responseActive := true } := by
  have taken := withCpr_touches s k
  obtain ⟨told, frb⟩ := report_touches (r := r) (taken.calm h) (secondSevere_first clear)
  refine ⟨(taken.trans told).mono (by decide), told.keeps .cpr (by decide), frb.trans ?_⟩
  rw [State.storeReport_frb, severe]
  simp [State.withCpr, ← taken.complete r]

/-- A reading that gives rise to nothing changes the CPR alone (R132). -/
theorem pressureReading_quiet {s : State} {p : Int} {k : Cpr} (steady : s.steady) (reading : s.cpr.reading = true)
    (read : s.cpr.read p = (k, PressureEvents.none)) :
    ∃ t, exec (.pressureReading p) s = .next t ∧ t.cpr = k ∧ s.keeps t [.cpr] := by
  have touches := withCpr_touches s k
  have whole : s.pressureIf (fun _ => true) p = s.withCpr k := by
    rw [pressureIf_occurs reading rfl, pressureRead_reports (by rw [read]; rfl) (by rw [read]; rfl), read]
    rfl
  exact ⟨_, (next_conclude s whole).trans (congrArg _ (touches.conclude steady (by decide))), rfl, touches.keeps_ended⟩

/-- The onset of OUT OF RANGE is a row of its own as well as a reading (R133, log entry 5). -/
theorem exec_rangeOnset {s : State} {p : Int} {c : Instr} {k : Cpr} (reading : s.cpr.reading = true)
    (read : s.cpr.read p = (k, { PressureEvents.none with reports := [chamberSensorReport], rangeOnset := true }))
    (row : c = .pressureReading p ∨ c = .chamberSensorOutOfRange p) :
    exec c s = .next (conclude s ((s.withCpr k).report chamberSensorReport)) := by
  have whole : s.pressureRead p = (s.withCpr k).report chamberSensorReport := by
    rw [pressureRead_reports (by rw [read]; rfl) (by rw [read]; rfl), read]
    rfl
  rcases row with rfl | rfl
  · exact next_conclude s ((pressureIf_occurs (occurs := fun _ => true) reading rfl).trans whole)
  · exact next_conclude s ((pressureIf_occurs (occurs := fun e => e.rangeOnset) reading (by rw [read])).trans whole)

/-- Settles O47: each reading is the CPR's own, and the fifth out of range its onset with the report. -/
theorem pressureReadingIsTaken : Obligations.PressureReadingIsTaken := by
  refine ⟨fun s p steady reading off range => ?_, fun s p steady reading off outside early => ?_,
    fun s p c steady reading off clear outside run sensor row => ?_, fun s p steady off quiet top full => ?_⟩
  · exact pressureReading_quiet steady reading (read_passes off (pressureInRange_eq_true range))
  · exact pressureReading_quiet steady reading (read_counts (pressureInRange_eq_false outside) early)
  · obtain ⟨touches, cpr, frb⟩ := withCpr_report s.cpr.rangeLost (r := chamberSensorReport) steady.calm rfl clear
    rw [exec_rangeOnset reading (read_loses_range outside (by omega) sensor) row, touches.conclude steady (by decide)]
    refine ⟨_, rfl, cpr.trans (if_neg (by simp [off])), frb, fun empty => declaredCapacity_compromised ?_, touches.keeps_ended⟩
    rw [State.drawn_frb, State.lapse_frb, frb]
    exact holdCompromised_stored (k := .valve) empty rfl
  · refine ⟨_, next_conclude s (pressureIf_quiet (read_no_onset off ?_ top full)), ?_⟩
    · exact quiet.imp_left pressureInRange_eq_true
    · rw [(State.touches.refl s).conclude steady (by decide)]
      exact s.keeps_ended

end Sys2Proof.Machine

/-! PROOF. O49: the timeouts of a pressure operation, and what the HPC makes of them in HOLDING (R121, R140 to R142). -/

namespace Sys2Proof.Machine

/-! ## A reading that times out -/

section
variable {k : Cpr} {d : Direction}

theorem timeout_ne_goesOn (d : Direction) : d.timeout ≠ .goesOn := by cases d <;> exact StepResult.noConfusion

theorem timeout_injective {e : Direction} (h : e.timeout = d.timeout) : e = d := by
  cases e <;> cases d <;> simp_all [Direction.timeout]

/-- An operation off its own side of the band goes on (R136). -/
theorem operationStep_off {o : Operation} (held : k.operation = some o)
    (off : o.direction.ownSide k.target k.measured = false) : k.operationStep.2 = .goesOn := by
  simp only [Cpr.operationStep, held, off, Bool.false_eq_true, if_false]
  split <;> rfl

/-- Before its 800 ms are full an operation goes on. -/
theorem operationStep_early {o : Operation} (held : k.operation = some o) (early : o.time < 799) :
    k.operationStep.2 = .goesOn := by
  cases own : o.direction.ownSide k.target k.measured with
  | true => rw [operationStep_onward held own early]
  | false => exact operationStep_off held own

/-- An operation begun at this reading does not time out at it. -/
theorem step_idle (idle : k.operation = none) : k.bandTest.operationStep.2 = .goesOn := by
  have begun (e : Direction) : (k.begin e).operationStep.2 = .goesOn := operationStep_early rfl (Nat.zero_lt_succ _)
  have none : k.operationStep.2 = .goesOn := by simp [Cpr.operationStep, idle]
  unfold Cpr.bandTest
  split
  · split
    · exact begun .apply
    · split
      · exact begun .vent
      · exact none
  · exact none

/-- A timeout is one of an operation present for 799 ms, on its own side of the band (R140, R141). -/
theorem step_timeout (timeout : k.bandTest.operationStep.2 = d.timeout) : d.ownSide k.target k.measured = true
    ∧ k.operation.map Operation.direction = some d ∧ 799 ≤ (k.operation.map Operation.time).getD 0 := by
  have stopped : k.bandTest.operationStep.2 ≠ .goesOn := fun on => timeout_ne_goesOn d (timeout.symm.trans on)
  cases operation : k.operation with
  | none => exact absurd (step_idle operation) stopped
  | some o =>
    rw [bandTest_present operation] at timeout stopped
    have own : o.direction.ownSide k.target k.measured = true :=
      Bool.of_not_eq_false fun off => stopped (operationStep_off operation off)
    have late : 799 ≤ o.time := Nat.le_of_not_lt fun early => stopped (operationStep_early operation early)
    rw [operationStep_timeout operation own late] at timeout
    obtain rfl := timeout_injective timeout
    exact ⟨own, rfl, late⟩

end

/-- The timeout of a direction comes about at the reading. -/
def PressureEvents.timesOut (e : PressureEvents) : Direction → Bool
  | .apply => e.applyTimeout
  | .vent => e.ventTimeout

theorem regulate_timesOut {k : Cpr} {d : Direction} (timeout : k.regulate.2.timesOut d = true) :
    k.bandTest.operationStep.2 = d.timeout := by
  cases d <;> exact eq_of_beq timeout

/-- A reading at which a direction times out abandons the operation, and reports the first timeout of its direction (R140
to R142). -/
theorem read_timesOut {k : Cpr} {p : Int} {d : Direction} (timeout : (k.read p).2.timesOut d = true) : k.read p
    = ((({ (k.accept (pressureClamped p)).timedOut with settleTime := 0 } : Cpr).reportTimeout d.timeout).1,
      { PressureEvents.none with
        reports := (k.reportTimeout d.timeout).2, applyTimeout := d == .apply, ventTimeout := d == .vent }) := by
  have quiet : PressureEvents.none.timesOut d = false := by cases d <;> rfl
  unfold Cpr.read at timeout ⊢
  dsimp only at timeout ⊢
  split at timeout <;> rename_i range
  · split at timeout <;> rename_i regulating
    · obtain ⟨own, same, late⟩ := step_timeout (regulate_timesOut timeout)
      rw [if_pos range, if_pos regulating, regulate_times_out own same late]
      cases d <;> rfl
    · simp [quiet] at timeout
  · split at timeout
    · split at timeout
      · simp [quiet] at timeout
      · cases d <;> simp [PressureEvents.timesOut, PressureEvents.none] at timeout
    · simp [quiet] at timeout

theorem read_abandons {k : Cpr} {p : Int} {d : Direction} (timeout : (k.read p).2.timesOut d = true) :
    (k.read p).1.valves = .holdOnly ∧ (k.read p).1.operation = none ∧ (k.read p).1.abandoned = true := by
  rw [read_timesOut timeout]
  cases d <;> exact ⟨rfl, rfl, rfl⟩

/-! ## The rows as the readings that time out (log entry 5) -/

section
variable {s : State} {p : Int}

theorem exec_applyTimeout (reading : s.cpr.reading = true) (first : s.cpr.applyReported = false)
    (timeout : (s.cpr.read p).2.applyTimeout = true) : exec (.applyTimeout p) s
    = .next (conclude s ((s.withCpr (s.cpr.read p).1).applyTimedOut.report applyTimeoutReport)) := by
  have events := congrArg Prod.snd (read_timesOut (d := .apply) timeout)
  refine next_conclude s ((pressureIf_occurs (occurs := fun e => e.applyTimeout) reading timeout).trans ?_)
  simp [State.pressureRead, events, PressureEvents.none, Cpr.reportTimeout, Direction.timeout, first, State.withCpr,
    State.reportAll]

theorem exec_ventTimeout (reading : s.cpr.reading = true) (first : s.cpr.ventReported = false)
    (timeout : (s.cpr.read p).2.ventTimeout = true) : exec (.ventTimeout p) s
    = .next (conclude s ((s.withCpr (s.cpr.read p).1).report ventTimeoutReport)) := by
  have events := congrArg Prod.snd (read_timesOut (d := .vent) timeout)
  refine next_conclude s ((pressureIf_occurs (occurs := fun e => e.ventTimeout) reading timeout).trans ?_)
  simp [State.pressureRead, events, PressureEvents.none, Cpr.reportTimeout, Direction.timeout, first, State.withCpr,
    State.reportAll]

end

/-! ## HOLDING with P_hold at its limit (R88, R89) -/

section
variable {s : State}

theorem pCalc_le_pMax (s : State) : s.laneResult.pCalc ≤ s.mdc.settings.pMax := min_le_left _ _

variable (holding : s.inPhase .holding = true)
include holding

omit holding in
/-- A delivery that does not exceed P_hold is kept, and raises nothing (R89). -/
theorem deliver_least {r : HalResult} (phase : s.hpc.phase = .holding) (least : r.pCalc ≤ s.hpc.pHold) :
    s.deliver r = s.keepDelivery r := by
  rw [deliver_held (.inr phase)]
  exact ratchet_holds (s := s.keepDelivery r) least

/-- No computed pressure exceeds P_max, so a recomputation raises nothing (R88, R89). -/
theorem halRecompute_full (lane : s.free.laneFault = none) (full : s.mdc.settings.pMax ≤ s.hpc.pHold) :
    s.halRecompute = s ∨ ∃ d, s.halRecompute = s.keepDelivery d := by
  obtain ⟨run, phase⟩ := (inPhase_iff s _).1 holding
  cases lanes : s.hal.lanes with
  | mismatched => exact .inl (halRecompute_idle (.inr lanes))
  | agreed =>
    have least := (pCalc_le_pMax s).trans full
    exact .inr ⟨s.laneResult, (halRecompute_sound run lanes lane).trans (deliver_least phase least)⟩

/-- There a first report is stored, with a delivery kept at most: the regulator stands, and so do request and withdrawal. -/
theorem report_full {r : Report} (lane : s.free.laneFault = none) (full : s.mdc.settings.pMax ≤ s.hpc.pHold)
    (first : s.secondSevere r = false) :
    s.touches (s.report r) [.hal, .hpc, .sgi, .frb] ∧ (s.report r).frb = (s.storeReport r).frb
      ∧ (s.report r).hpc.request = s.hpc.request ∧ (s.report r).hpc.withdrawalPending = s.hpc.withdrawalPending := by
  have stored := storeReport_touches s r
  have kept := halRecompute_full (s := s.storeReport r) (by simpa [State.inPhase] using holding) (by simpa using lane)
    (by simpa using full)
  unfold State.report State.answerCause State.handCompromise
  rw [first, if_neg (by decide)]
  split
  · exact ⟨stored.mono (by decide), rfl, by simp, by simp⟩
  · rcases kept with e | ⟨d, e⟩ <;> rw [e]
    · exact ⟨stored.mono (by decide), rfl, by simp, by simp⟩
    · exact ⟨(stored.trans (keepDelivery_touches _ d)).mono (by decide), rfl, by simp [State.keepDelivery],
        by simp [State.keepDelivery]⟩

/-- With nothing to trigger and no drive demand a command that leaves records, MDC and phase ends in HOLDING. -/
theorem holding_stays {v : State} {l : List Block} (touches : s.touches v l) (vir : .vir ∉ l) (demand : s.demand = none)
    (attended : s.attended) :
    ∃ t, conclude s v = t ∧ t.inPhase .holding = true
      ∧ (t.hpc.request = v.hpc.request ∧ t.hpc.withdrawalPending = v.hpc.withdrawalPending)
      ∧ (t.pad = v.pad ∧ t.cpr = v.cpr ∧ t.frb = v.frb) ∧ s.keeps t (l ++ [.hpc]) := by
  have records : v.vir = s.vir := touches.keeps .vir vir
  have phase : v.inPhase .holding = true := by
    rw [State.inPhase, touches.mdc, touches.phase]
    exact holding
  have present : v.attended := attended_of_same (by rw [records]) (by rw [touches.mdc]) attended
  have undemanded : v.demand = none := (demand_of_drive (by rw [records])).trans demand
  refine ⟨_, conclude_holding s phase (standingTrigger_attended present) (.inl undemanded), ?_, ⟨?_, ?_⟩,
    ⟨rfl, rfl, rfl⟩, (touches.keeps.trans (setArmed_keeps v _)).ended⟩
  · rw [ended_inPhase]
    exact phase
  · simp [State.setArmed]
  · simp [State.setArmed]

end

theorem applyTimedOut_touches (s : State) : s.touches s.applyTimedOut [.hpc] :=
  ⟨withHpc_keeps s _, rfl, rfl, rfl⟩

/-- A report without hold-compromised into an empty bank is stored, and nothing is handed on (R202). -/
theorem report_stored {s : State} {r : Report} (empty : s.frb.banks.get r.bank = none) (plain : r.holdCompromised = false)
    (mild : r.severity ≠ .severe) : s.report r = s.storeReport r := by
  have same : (s.storeReport r).frb.banks.holdCompromised = s.frb.banks.holdCompromised := by
    rw [State.storeReport_frb]
    exact holdCompromised_store empty plain
  rw [report_eq_handCompromise mild, State.handCompromise, if_pos same]

/-- Settles O49: the apply timeout ends the withdrawal before its report, and the vent timeout is its report alone. -/
theorem timeoutsAreAnsweredInHolding : Obligations.TimeoutsAreAnsweredInHolding := by
  refine ⟨fun s p holding attended demand lane full empty clear reading first timeout => ?_,
    fun s p holding attended demand lane empty reading first timeout => ?_⟩
  · obtain ⟨valves, operation, abandoned⟩ := read_abandons (d := .apply) timeout
    have reported : (s.cpr.read p).1.applyReported = true := by rw [read_timesOut (d := .apply) timeout]; rfl
    have ended := (withCpr_touches s (s.cpr.read p).1).trans (applyTimedOut_touches _)
    obtain ⟨told, frb, request, pending⟩ := report_full (s := (s.withCpr (s.cpr.read p).1).applyTimedOut)
      (r := applyTimeoutReport) holding lane full (secondSevere_first clear)
    have touches := ended.trans told
    obtain ⟨t, ends, phase, ⟨asked, withdrawal⟩, ⟨pad, cpr, banks⟩, keeps⟩ :=
      holding_stays holding touches (by decide) demand attended
    have regulator : t.cpr = (s.cpr.read p).1 := cpr.trans (told.keeps .cpr (by decide))
    have stored : t.frb = { banks := s.frb.banks.store .valve (s.complete applyTimeoutReport), responseActive := true } := by
      rw [banks, frb, State.storeReport_frb, ended.complete]
      simp [applyTimeoutReport, plainReport, State.withCpr]
    refine ⟨t, (exec_applyTimeout reading first timeout).trans (congrArg _ ends),
      ⟨phase, withdrawal.trans pending, asked.trans request, pad.trans (touches.keeps .pad (by decide))⟩,
      by rw [regulator]; exact ⟨rfl, valves, operation, abandoned, reported⟩, stored, ?_, keeps.mono (by decide)⟩
    refine declaredCapacity_compromised ?_
    rw [stored]
    exact holdCompromised_stored (k := .valve) empty rfl
  · obtain ⟨valves, -, abandoned⟩ := read_abandons (d := .vent) timeout
    have reported : (s.cpr.read p).1.ventReported = true := by rw [read_timesOut (d := .vent) timeout]; rfl
    have taken := withCpr_touches s (s.cpr.read p).1
    have told := report_stored (s := s.withCpr (s.cpr.read p).1) (r := ventTimeoutReport) empty rfl (by decide)
    have touches := taken.trans (storeReport_touches (s.withCpr (s.cpr.read p).1) ventTimeoutReport)
    obtain ⟨t, ends, phase, ⟨-, withdrawal⟩, ⟨pad, cpr, banks⟩, keeps⟩ :=
      holding_stays holding touches (by decide) demand attended
    have regulator : t.cpr = (s.cpr.read p).1 := cpr.trans (by simp [State.withCpr])
    have stored : t.frb = { s.frb with banks := s.frb.banks.store .valve (s.complete ventTimeoutReport) } := by
      rw [banks, State.storeReport_frb, taken.complete]
      simp [ventTimeoutReport, plainReport, State.withCpr]
    refine ⟨t, ?_, ⟨phase, withdrawal.trans (by simp [State.withCpr]), pad.trans (by simp [State.withCpr])⟩,
      by rw [regulator]; exact ⟨rfl, valves, abandoned, reported⟩, stored, ?_, keeps.mono (by decide)⟩
    · rw [exec_ventTimeout reading first timeout, told, ends]
    · show t.frb.banks.releasePermitted = false
      rw [stored]
      exact releasePermitted_stored (k := .valve) empty rfl

end Sys2Proof.Machine

/-! PROOF. O50: a sample of the readbacks (R143, R144), in a steady state and in INIT. -/

namespace Sys2Proof.Machine

/-! ## One valve -/

/-- The watch after a sample (R143, R144). -/
def Readback.after (r : Readback) (current latch : Bool) : Readback :=
  if current = latch then { current := current, mismatch := 0, reported := false }
  else { current := current, mismatch := min 20 (r.mismatch + 1), reported := r.reported || decide (19 ≤ r.mismatch) }

/-- The mismatch is due for its report: it stands for 20 ms with this sample, and has not been reported (R144). -/
def Readback.due (r : Readback) (current latch : Bool) : Bool :=
  current != latch && !r.reported && decide (19 ≤ r.mismatch)

theorem sample_eq (r : Readback) (current latch : Bool) :
    r.sample latch current = (r.after current latch, r.due current latch) := by
  have full : (min 20 (r.mismatch + 1) == 20) = decide (19 ≤ r.mismatch) := by
    rw [Bool.eq_iff_iff, beq_iff_eq, decide_eq_true_eq]
    omega
  by_cases same : current = latch
  · simp [Readback.sample, Readback.after, Readback.due, same]
  · have differs : (current != latch) = true := bne_iff_ne.2 same
    simp [Readback.sample, Readback.after, Readback.due, same, differs, full, Bool.and_comm]

/-! ## The three valves -/

/-- The elements of the valves due, in the order of their reports (R144). -/
def Cpr.readbackDue (k : Cpr) (hold apply vent : Bool) : List Element :=
  (if k.holdBack.due hold k.valves.hold then [.holdValve] else [])
    ++ (if k.applyBack.due apply k.valves.apply then [.applyValve] else [])
    ++ (if k.ventBack.due vent k.valves.vent then [.ventValve] else [])

/-- The CPR with its three watches after a sample. -/
def Cpr.readbackTaken (k : Cpr) (hold apply vent : Bool) : Cpr :=
  { k with holdBack := k.holdBack.after hold k.valves.hold, applyBack := k.applyBack.after apply k.valves.apply
           ventBack := k.ventBack.after vent k.valves.vent }

theorem readback_eq (k : Cpr) (hold apply vent : Bool) : k.readback hold apply vent
    = (k.readbackTaken hold apply vent, (k.readbackDue hold apply vent).map readbackReport) := by
  have listed (due : Bool) (e : Element) :
      (if due then [e] else []).map readbackReport = if due then [readbackReport e] else [] := by cases due <;> rfl
  simp only [Cpr.readback, sample_eq, Cpr.readbackDue, List.map_append, listed]
  rfl

/-! ## The sample as a command (log entry 5) -/

/-- The state where nothing but the command acts, or in INIT. -/
def State.resting (s : State) : Prop := s.steady ∨ s.mdc.mode = .init

section
variable {s t : State}

theorem State.resting.calm (h : s.resting) : s.calm := by
  rcases h with h | h
  · exact h.calm
  · simp [State.calm, State.inHold, h]

/-- No reading of the readbacks is left out but in WATCH (R143). -/
theorem State.resting.awake (h : s.resting) : s.mdc.mode ≠ .watch := by
  rcases h with (h | ⟨h, -⟩ | ⟨h, -⟩) | h
  · simp [h]
  · simp [h]
  · simp [((inPhase_iff s _).1 h).1]
  · simp [h]

/-- A command that leaves records and phase ends there. -/
theorem State.touches.conclude_resting {l : List Block} (h : s.touches t l) (hs : s.resting) (vir : .vir ∉ l) :
    Machine.conclude s t = t.lapse.drawn := by
  rcases hs with steady | init
  · exact h.conclude steady vir
  · exact conclude_fixed (react_apart s (.inl (by rw [h.mdc, init])))

variable {hold apply vent : Bool}

theorem readbackTaken_eq (awake : s.mdc.mode ≠ .watch) : s.readbackTaken hold apply vent
    = (s.withCpr (s.cpr.readbackTaken hold apply vent)).reportAll ((s.cpr.readbackDue hold apply vent).map readbackReport) := by
  simp [State.readbackTaken, awake, readback_eq, State.withCpr]

/-- Either row is the sample where its event comes about, and nothing otherwise. -/
theorem exec_readback {c : Instr} {happens : Bool} (awake : s.mdc.mode ≠ .watch)
    (row : (c, happens) ∈ [(.readbackSample hold apply vent, true),
      (.readbackMismatch hold apply vent, !(s.cpr.readbackDue hold apply vent).isEmpty)]) :
    exec c s = .next (conclude s (if happens then (s.withCpr (s.cpr.readbackTaken hold apply vent)).reportAll
      ((s.cpr.readbackDue hold apply vent).map readbackReport) else s)) := by
  simp only [List.mem_cons, Prod.mk.injEq, List.not_mem_nil, or_false] at row
  rcases row with ⟨rfl, rfl⟩ | ⟨rfl, rfl⟩
  · exact next_conclude s (readbackTaken_eq awake)
  · refine next_conclude s ?_
    rw [readback_eq, readbackTaken_eq awake, List.isEmpty_map]
    cases (s.cpr.readbackDue hold apply vent).isEmpty <;> rfl

end

/-- With at most one valve due, its record is stored or none (R144, R201). -/
theorem withCpr_reportAll {s : State} (k : Cpr) {l : List Element} (h : s.calm) (clear : s.frb.responseActive = false)
    (one : l.length ≤ 1) :
    s.touches ((s.withCpr k).reportAll (l.map readbackReport)) [.hal, .hpc, .cpr, .sgi, .frb]
      ∧ ((s.withCpr k).reportAll (l.map readbackReport)).cpr = k
      ∧ (l = [] → ((s.withCpr k).reportAll (l.map readbackReport)).frb = s.frb)
      ∧ (∀ e ∈ l, ((s.withCpr k).reportAll (l.map readbackReport)).frb
        = { banks := s.frb.banks.store .valve (s.complete (readbackReport e)), responseActive := true }) := by
  match l, one with
  | [], _ => exact ⟨(withCpr_touches s k).mono (by decide), rfl, fun _ => rfl, nofun⟩
  | [e], _ =>
    obtain ⟨touches, cpr, frb⟩ := withCpr_report k (r := readbackReport e) h rfl clear
    refine ⟨touches, cpr, nofun, fun x listed => ?_⟩
    rw [List.mem_singleton.1 listed]
    exact frb

/-- Settles O50: the sample is the CPR's own with the report of the valve due. -/
theorem readbackMismatchIsReported : Obligations.ReadbackMismatchIsReported := by
  intro s hold apply vent c happens miss watch due resting clear one row
  have rest : s.resting := resting
  obtain ⟨touches, cpr, quiet, record⟩ := withCpr_reportAll (s.cpr.readbackTaken hold apply vent)
    (l := s.cpr.readbackDue hold apply vent) rest.calm clear one
  rw [exec_readback rest.awake row]
  generalize (s.withCpr (s.cpr.readbackTaken hold apply vent)).reportAll _ = t at touches cpr quiet record ⊢
  cases happens with
  | false =>
    rw [if_neg (by decide), (State.touches.refl s).conclude_resting rest (by decide)]
    exact ⟨_, rfl, nofun, nofun, nofun, fun _ => s.keeps_ended, fun b _ => s.keeps_ended b (by simp)⟩
  | true =>
    rw [if_pos rfl, touches.conclude_resting rest (by decide)]
    exact ⟨_, rfl, fun _ => cpr, fun _ => quiet, fun _ => record, nofun, touches.keeps_ended⟩

end Sys2Proof.Machine

/-! PROOF. The Park-Apply line through every step (R149, R163 to R165): each elementary move that changes a request has the
line judged, and the others leave line and requests. -/

namespace Sys2Proof.Machine

/-! ## The line as a judgement leaves it -/

theorem Pad.judge_mdcRequest (p : Pad) (spring : Bool) : (p.judge spring).mdcRequest = p.mdcRequest := by
  unfold Pad.judge
  repeat' split
  all_goals rfl

/-- A judgement moves no request (R149). -/
theorem Pad.judge_asked (p : Pad) (spring : Bool) : (p.judge spring).asked = p.asked := by
  rw [Pad.asked, Pad.judge_hpcRequest, Pad.judge_mdcRequest, Pad.asked]

/-- A judged line stands as its requests give it, whatever it was before (R149). -/
theorem State.judgeLine_lineOk (s : State) : s.judgeLine.lineOk :=
  (Pad.judge_asserted s.pad s.spring).trans (Pad.judge_asked s.pad s.spring).symm

section
variable {s t : State}

/-- What leaves line and requests leaves `lineOk`. -/
theorem State.lineOk_of_sameLine (same : s.pad.sameLine t.pad) (h : s.lineOk) : t.lineOk := by
  obtain ⟨line, hpc, mdc⟩ := same
  rw [State.lineOk, Pad.asked, line, hpc, mdc]
  exact h

theorem State.lineOk_of_same (pad : t.pad = s.pad) (h : s.lineOk) : t.lineOk :=
  State.lineOk_of_sameLine (by rw [pad]; exact ⟨rfl, rfl, rfl⟩) h

end

/-! ## Moves -/

/-- At power-on the line is WITHDRAWN, as the requests are, with the withdraw drive begun or not (R162). -/
theorem Pad.poweredOn_line (spring : Bool) : (Pad.poweredOn spring).asserted = (Pad.poweredOn spring).asked := by
  cases spring <;> rfl

/-- At an entry to WATCH the MDC's request is taken back and the line judged (R163, R166). -/
theorem enterWatch_lineOk (s : State) : s.enterWatch.lineOk :=
  State.lineOk_of_sameLine (s := ({ s with pad := { s.pad with mdcRequest := false } } : State).judgeLine)
    ⟨rfl, rfl, rfl⟩ (State.judgeLine_lineOk _)

/-- Every elementary move keeps the line as its requests give it. -/
theorem Move.keeps_lineOk {c : Instr} (s t : State) (m : Move c s t) (h : s.lineOk) : t.lineOk := by
  cases m with
  | pad p line hpc mdc => exact State.lineOk_of_sameLine (s := s) ⟨line, hpc, mdc⟩ h
  | requests | request | seenStationary | securing | releasing | config | wake | restart | safe =>
    exact State.judgeLine_lineOk _
  | watch => exact enterWatch_lineOk s
  | power _ _ _ spring => exact Pad.poweredOn_line spring
  | declaration | alert | rouse | owedReply | reply | record => exact State.lineOk_of_same (by simp) h
  | _ => exact State.lineOk_of_same (s := s) rfl h

/-- A tick advances the times of drive and confirm watch alone (R150, R155). -/
theorem tick_lineOk {s : State} (h : s.lineOk) : s.tick.lineOk := by
  unfold State.tick
  split
  · exact State.lineOk_of_sameLine (s := s) ⟨rfl, rfl, rfl⟩ h
  · exact h

/-- Settles O8: every elementary move keeps the line as its requests give it, and so do a command, which is a run of moves,
and a tick. -/
theorem stepKeepsLine : Obligations.StepKeepsLine := by
  intro s t h hstep
  rcases step_cases s with ⟨c, l, u, -, hu, moves⟩ | ⟨-, htick⟩
  · obtain rfl : t = u := by simpa [hu] using hstep.symm
    have start : (s.withPending l).lineOk := h
    exact moves.keeps Move.keeps_lineOk start
  · obtain rfl : t = s.tick := by simpa [htick] using hstep.symm
    exact tick_lineOk h

end Sys2Proof.Machine

/-! PROOF. The expiries of drive, dwell, relief and rouse window, and the key line (R73, R150, R179, R189, R195, R197): each
replaces one block, and nothing is acted on. -/

namespace Sys2Proof.Machine

/-! ## States that one block's times do not stir -/

/-- A steady state, or WATCH with no Notice to raise (R39). -/
def State.dormant (s : State) : Prop := s.steady ∨ (s.mdc.mode = .watch ∧ s.csu.noticeReached s.mdc.settings = false)

theorem react_dormant {s : State} (before : State) (h : s.dormant) : State.react before s = s := by
  rcases h with steady | ⟨watch, quiet⟩
  · exact react_steady before steady
  · simp [State.react, watch, State.reactWatch, quiet]

/-- The MDC replaced. -/
def State.withMdc (s : State) (m : Mdc) : State := { s with mdc := m }

/-- The SGI replaced. -/
def State.withSgi (s : State) (g : Sgi) : State := { s with sgi := g }

section
variable {s : State} {c : Instr}

theorem withMdc_keeps (s : State) (m : Mdc) : s.keeps (s.withMdc m) [.mdc] := by
  intro b other
  cases b
  case mdc => simp at other
  all_goals rfl

theorem withSgi_keeps (s : State) (g : Sgi) : s.keeps (s.withSgi g) [.sgi] := by
  intro b other
  cases b
  case sgi => simp at other
  all_goals rfl

theorem withPad_touches (s : State) (p : Pad) : s.touches (s.withPad p) [.pad] := ⟨withPad_keeps s p, rfl, rfl, rfl⟩

theorem withMdc_dormant {m : Mdc} (h : s.dormant) (mode : m.mode = s.mdc.mode)
    (found : m.safeStationary = s.mdc.safeStationary) (settings : m.settings = s.mdc.settings) : (s.withMdc m).dormant := by
  unfold State.dormant State.steady State.inPhase State.withMdc
  rw [mode, found, settings]
  exact h

/-- A command that replaces the MDC within its mode does that alone. -/
theorem mdc_alone {m : Mdc} (h : s.dormant) (run : exec c s = .next (conclude s (s.withMdc m)))
    (mode : m.mode = s.mdc.mode) (found : m.safeStationary = s.mdc.safeStationary)
    (settings : m.settings = s.mdc.settings) :
    ∃ t, exec c s = .next t ∧ t.mdc.lasting = m.lasting ∧ s.keeps t [.mdc] :=
  ⟨_, run.trans (congrArg _ (conclude_fixed (react_dormant s (withMdc_dormant h mode found settings)))), rfl,
    (withMdc_keeps s m).ended⟩

/-- A command that replaces the SGI in a dormant state does that alone. -/
theorem sgi_alone {g : Sgi} (h : s.dormant) (run : exec c s = .next (conclude s (s.withSgi g))) :
    ∃ t, exec c s = .next t ∧ t.sgi = g ∧ s.keeps t [.sgi] :=
  ⟨_, run.trans (congrArg _ (conclude_fixed (react_dormant (s := s.withSgi g) s h))), rfl, (withSgi_keeps s g).ended⟩

/-! ## The commands -/

theorem exec_driveTimeExpiry (drives : s.pad.drive ≠ .idle) (time : ms 100 ≤ s.pad.driveTime) :
    exec .driveTimeExpiry s = .next (conclude s (s.withPad { s.pad with drive := .idle, driveTime := 0 })) :=
  next_conclude s (if_pos (by simp [drives, time]))

theorem exec_safeDwellExpiry (safe : s.mdc.mode = .safe) (time : sec 2 ≤ s.mdc.dwellTime) :
    exec .safeDwellExpiry s = .next (conclude s (s.withMdc { s.mdc with dwellDone := true })) :=
  next_conclude s (if_pos (by simp [safe, time]))

theorem exec_reliefTimeExpiry (run : s.mdc.mode = .run) (time : sec 120 ≤ s.mdc.reliefTime) :
    exec .reliefTimeExpiry s = .next (conclude s (s.withMdc
      { s.mdc with restartCounter := s.mdc.restartCounter - 1, reliefTime := 0 })) :=
  next_conclude s (if_pos (by simp [run, time]))

theorem exec_rouseWindowExpiry (watch : s.mdc.mode = .watch) (counted : 0 < s.sgi.rouseCount)
    (time : ms 2 ≤ s.sgi.rouseWindow) :
    exec .rouseWindowExpiry s = .next (conclude s (s.withSgi { s.sgi with rouseCount := 0, rouseWindow := 0 })) :=
  next_conclude s (if_pos (by simp [watch, counted, time]))

/-- A first or second dominant phase is counted, and the first starts the window (R179). -/
theorem exec_dominant_counts (watch : s.mdc.mode = .watch) (early : s.sgi.rouseCount < 2) :
    exec .qualifyingDominantPhase s = .next (conclude s (s.withSgi { s.sgi with
      rouseCount := s.sgi.rouseCount + 1
      rouseWindow := if s.sgi.rouseCount = 0 then 0 else s.sgi.rouseWindow })) :=
  next_conclude s ((if_pos watch).trans (if_neg (Nat.not_le.2 early)))

theorem exec_keyFalls (s : State) : exec .keyLineFallingEdge s = .next (conclude s (s.withMdc { s.mdc with key := false })) :=
  rfl

/-- A rising edge that neither wakes the node nor restarts it from SAFE is the key's new level (R195, R197). -/
theorem exec_keyRises (awake : s.mdc.mode ≠ .watch)
    (held : s.mdc.mode = .safe → s.mdc.dwellDone = false ∨ s.frb.banks.anySevere = true) :
    exec .keyLineEdge s = .next (conclude s (s.withMdc { s.mdc with key := true })) := by
  refine next_conclude s ?_
  show s.keyRises = s.setKey true
  unfold State.keyRises
  cases mode : s.mdc.mode with
  | watch => exact absurd mode awake
  | safe => exact if_neg (by rcases held mode with dwelling | severe <;> simp [*])
  | init | config | run | restart => rfl

end

/-- Settles O51: each command replaces the PAD, the MDC or the SGI, and ends there. -/
theorem timesRunOutAtTheirLimits : Obligations.TimesRunOutAtTheirLimits := by
  refine ⟨fun s steady drives time => ?_, fun s steady safe time => ?_, fun s steady run time => ?_,
    fun s watch quiet counted time => ?_, fun s watch quiet early => ?_, fun s dormant => ?_, fun s steady held => ?_⟩
  · have ended := withPad_touches s { s.pad with drive := .idle, driveTime := 0 }
    exact ⟨_, (exec_driveTimeExpiry drives time).trans (congrArg _ (ended.conclude steady (by decide))), rfl,
      ended.keeps_ended⟩
  · exact mdc_alone (.inl steady) (exec_safeDwellExpiry safe time) rfl rfl rfl
  · exact mdc_alone (.inl steady) (exec_reliefTimeExpiry run time) rfl rfl rfl
  · exact sgi_alone (.inr ⟨watch, quiet⟩) (exec_rouseWindowExpiry watch counted time)
  · exact sgi_alone (.inr ⟨watch, quiet⟩) (exec_dominant_counts watch early)
  · exact mdc_alone dormant (exec_keyFalls s) rfl rfl rfl
  · exact mdc_alone (.inl steady) (exec_keyRises steady.awake held) rfl rfl rfl

end Sys2Proof.Machine

/-! PROOF. A reading of the spring chamber pressure sensor outside a hold, and the confirm timeout (R152 to R154, R157, R158,
R160). -/

namespace Sys2Proof.Machine

/-! ## What a reading makes of the PAD -/

/-- The confirm-lost test fills its time for the first time (R160). -/
def Pad.loses (k : Pad) : Bool :=
  k.watch == .confirmed && k.asserted && decide (100 ≤ k.pressure) && decide (490 ≤ k.lostTime) && !k.lostReported

/-- The PAD with an in-range reading of m kPa taken and a waiting watch confirmed (R152, R157). -/
def Pad.taken (k : Pad) (m : Nat) : Pad :=
  { k with pressure := m, rangeRun := 0, sensor := .valid
           watch := if k.watch = .waiting ∧ m < 50 then .confirmed else k.watch }

/-- The PAD after the confirm-lost test: it runs with a confirmed watch and the line standing (R160). -/
def Pad.lostTested (k : Pad) : Pad :=
  { k with lostTime := if k.watch = .confirmed ∧ k.asserted = true then
             (if 100 ≤ k.pressure then min 500 (k.lostTime + 10) else 0) else k.lostTime
           lostReported := k.lostReported || k.loses }

/-- The reading is the onset of OUT OF RANGE (R153). -/
def Pad.losesRange (k : Pad) (p : Int) : Bool :=
  !pressureInRange p && decide (4 ≤ k.rangeRun) && k.sensor != .outOfRange

/-- The PAD at the onset of OUT OF RANGE: a waiting watch times out (R153). -/
def Pad.rangeLost (k : Pad) : Pad :=
  { k with sensor := .outOfRange, rangeRun := 5, lostTime := 0
           watch := if k.watch = .waiting then .timedOut else k.watch }

section
variable {k : Pad} {p : Int}

theorem confirmTest_taken (k : Pad) (m : Nat) :
    ({ k with pressure := m, rangeRun := 0, sensor := .valid } : Pad).confirmTest.1 = k.taken m := by
  by_cases low : k.watch = .waiting ∧ m < 50 <;> simp [Pad.confirmTest, Pad.taken, low]

theorem lostTime_full (n : Nat) : (min 500 (n + 10) == 500) = decide (490 ≤ n) := by
  rw [Bool.eq_iff_iff, beq_iff_eq, decide_eq_true_eq]
  omega

theorem lostTest_eq (k : Pad) : k.lostTest = (k.lostTested, k.loses) := by
  unfold Pad.lostTest Pad.lostTested Pad.loses
  by_cases tested : k.watch = .confirmed ∧ k.asserted = true
  · by_cases high : 100 ≤ k.pressure
    · cases k.lostReported <;> simp [tested, high, lostTime_full]
    · simp [tested, high]
  · have idle : (k.watch == .confirmed && k.asserted) = false := by simpa using tested
    simp [tested, idle]

theorem losesRange_inside (inside : pressureInRange p = true) : k.losesRange p = false := by simp [Pad.losesRange, inside]

theorem losesRange_outside (outside : pressureInRange p = false) :
    k.losesRange p = true ↔ 4 ≤ k.rangeRun ∧ k.sensor ≠ .outOfRange := by simp [Pad.losesRange, outside]

/-- An in-range reading is kept, and tested for confirm and for loss (R152, R157, R160). -/
theorem read_taken (inside : pressureInRange p = true) : (k.read p).1 = (k.taken (pressureClamped p)).lostTested := by
  simp only [Pad.read, inside, if_true, confirmTest_taken, lostTest_eq]

/-- Out of range, before the fifth running (R153). -/
theorem read_misses (outside : pressureInRange p = false) (early : k.rangeRun < 4) :
    k.read p = ({ k with rangeRun := k.rangeRun + 1 }, SpringEvents.none) := by
  simp [Pad.read, outside, show ¬5 ≤ k.rangeRun + 1 by omega]

/-- The fifth reading out of range running (R153). -/
theorem read_losesRange (onset : k.losesRange p = true) : k.read p
    = (k.rangeLost, { SpringEvents.none with rangeOnset := true, timedOut := k.watch == .waiting }) := by
  have outside : pressureInRange p = false :=
    Bool.eq_false_iff.2 fun inside => by simp [losesRange_inside inside] at onset
  obtain ⟨late, sensor⟩ := (losesRange_outside outside).1 onset
  simp [Pad.read, outside, show 5 ≤ k.rangeRun + 1 by omega, sensor, Pad.rangeLost]

/-- While the sensor is OUT OF RANGE another reading out of range changes nothing (R153). -/
theorem read_stays (outside : pressureInRange p = false) (late : 4 ≤ k.rangeRun) (known : k.losesRange p = false) :
    k.read p = (k, SpringEvents.none) := by
  have sensor : k.sensor = .outOfRange := by
    by_contra other
    simp [(losesRange_outside outside).2 ⟨late, other⟩] at known
  simp [Pad.read, outside, show 5 ≤ k.rangeRun + 1 by omega, sensor]

/-- What a reading gives rise to besides a confirm (R153, R158, R160). -/
theorem read_events (k : Pad) (p : Int) : (k.read p).2.rangeOnset = k.losesRange p
    ∧ (k.read p).2.timedOut = (k.losesRange p && k.watch == .waiting)
    ∧ (k.read p).2.lost = (pressureInRange p && (k.taken (pressureClamped p)).loses) := by
  cases inside : pressureInRange p with
  | true =>
    rw [losesRange_inside inside]
    simp only [Pad.read, inside, if_true, confirmTest_taken, lostTest_eq]
    exact ⟨rfl, rfl, rfl⟩
  | false =>
    cases onset : k.losesRange p with
    | true => simp [read_losesRange onset, SpringEvents.none]
    | false =>
      rcases Nat.lt_or_ge k.rangeRun 4 with early | late
      · simp [read_misses inside early, SpringEvents.none]
      · simp [read_stays inside late onset, SpringEvents.none]

end

/-! ## Reports outside a hold -/

section
variable {s : State} {l : List Report}

/-- Reports outside a hold of which no severe one follows another are stored in their order, with at most a recomputation
besides (R199 to R202). -/
theorem reportAll_touches (h : s.calm) (clear : s.frb.responseActive = true → ∀ r ∈ l, r.severity ≠ .severe)
    (once : l.Pairwise fun r q => r.severity = .severe → q.severity ≠ .severe) :
    s.touches (s.reportAll l) [.hal, .hpc, .sgi, .frb]
      ∧ (s.reportAll l).frb = { banks := l.foldl (fun b r => b.store r.bank (s.complete r)) s.frb.banks
                                responseActive := s.frb.responseActive || l.any fun r => r.severity == .severe } := by
  induction l generalizing s with
  | nil => exact ⟨(State.touches.refl s).mono (by simp), by simp [State.reportAll]⟩
  | cons r l ih =>
    obtain ⟨later, once⟩ := List.pairwise_cons.1 once
    have first : s.secondSevere r = false := Bool.eq_false_iff.2 fun second => by
      obtain ⟨severe, active⟩ : r.severity = .severe ∧ s.frb.responseActive = true := by
        simpa [State.secondSevere] using second
      exact clear active r List.mem_cons_self severe
    obtain ⟨told, frb⟩ := report_touches h first
    rw [State.storeReport_frb] at frb
    have quiet : (s.report r).frb.responseActive = true → ∀ q ∈ l, q.severity ≠ .severe := by
      rw [frb]
      intro active q listed
      rcases Bool.or_eq_true_iff.1 active with before | severe
      · exact clear before q (List.mem_cons_of_mem r listed)
      · exact later q listed (beq_iff_eq.1 severe)
    obtain ⟨rest, restFrb⟩ := ih (told.calm h) quiet once
    refine ⟨told.within rest, restFrb.trans ?_⟩
    simp only [told.complete, frb, List.foldl_cons, List.any_cons, Bool.or_assoc]

theorem reportAll_append (s : State) (l m : List Report) : s.reportAll (l ++ m) = (s.reportAll l).reportAll m := by
  induction l generalizing s with
  | nil => rfl
  | cons r l ih => exact ih (s.report r)

/-- A report made where its ground stands. -/
theorem reportAll_if (s : State) (due : Bool) (r : Report) :
    s.reportAll (if due then [r] else []) = if due then s.report r else s := by
  cases due <;> rfl

end

/-! ## A reading and a confirm timeout outside a hold -/

/-- The reports of a reading, in their order (R153, R158, R160). -/
def SpringEvents.reports (e : SpringEvents) : List Report :=
  (if e.rangeOnset then [springSensorReport] else []) ++ (if e.timedOut then [confirmTimeoutReport] else [])
    ++ (if e.lost then [confirmLostReport] else [])

section
variable {s : State}

theorem State.calm.not_securing (h : s.calm) : s.inPhase .securing = false :=
  Bool.eq_false_iff.2 fun securing => absurd (inHold_of_inPhase securing rfl) (by simp [h.1])

/-- Outside a hold no handover takes a confirm (R116). -/
theorem confirmed_calm (h : s.calm) : s.confirmed = s := by
  unfold State.confirmed
  split <;> simp [h.not_securing]

/-- Outside a hold no handover fails (R117). -/
theorem handoverFails_calm (h : s.calm) : s.handoverFails = s := by
  unfold State.handoverFails
  split <;> simp [h.not_securing]

/-- Outside a hold a first confirm timeout is its report alone (R158). -/
theorem confirmTimedOut_calm (h : s.calm) (clear : s.frb.responseActive = false) :
    s.confirmTimedOut = s.report confirmTimeoutReport :=
  handoverFails_calm ((report_touches h (secondSevere_first clear)).1.calm h)

/-- Of the reports of a reading the confirm timeout alone is severe. -/
theorem reports_once (e : SpringEvents) :
    e.reports.Pairwise fun r q => r.severity = .severe → q.severity ≠ .severe := by
  obtain ⟨onset, confirmed, timed, lost⟩ := e
  cases onset <;> cases timed <;> cases lost <;>
    simp [SpringEvents.reports, springSensorReport, confirmTimeoutReport, confirmLostReport, plainReport]

theorem reports_severe (e : SpringEvents) : (e.reports.any fun r => r.severity == .severe) = e.timedOut := by
  obtain ⟨onset, confirmed, timed, lost⟩ := e
  cases onset <;> cases timed <;> cases lost <;> rfl

theorem reports_bank {e : SpringEvents} {r : Report} (h : r ∈ e.reports) : r.bank = .spring := by
  simp only [SpringEvents.reports, List.mem_append, List.mem_ite_nil_right, List.mem_singleton] at h
  rcases h with (⟨-, rfl⟩ | ⟨-, rfl⟩) | ⟨-, rfl⟩ <;> rfl

/-- Outside a hold a reading is the PAD's own, with its reports (R152). -/
theorem springRead_calm {p : Int} (h : s.calm) (clear : s.frb.responseActive = false) :
    s.springRead p = (s.withPad (s.pad.read p).1).reportAll (s.pad.read p).2.reports := by
  have taken : (s.withPad (s.pad.read p).1).calm := h
  have told := reportAll_touches (l := if (s.pad.read p).2.rangeOnset then [springSensorReport] else []) taken
    (by simp [State.withPad, clear]) (by split <;> simp)
  have unanswered : ((s.withPad (s.pad.read p).1).reportAll
      (if (s.pad.read p).2.rangeOnset then [springSensorReport] else [])).frb.responseActive = false := by
    rw [told.2]
    split <;> simp [State.withPad, clear, springSensorReport, plainReport]
  rw [SpringEvents.reports, reportAll_append, reportAll_append, reportAll_if _ _ confirmTimeoutReport,
    reportAll_if _ _ confirmLostReport, ← confirmTimedOut_calm (told.1.calm taken) unanswered, reportAll_if]
  have same : (if (s.pad.read p).2.confirmed then (s.withPad (s.pad.read p).1).confirmed
      else s.withPad (s.pad.read p).1) = s.withPad (s.pad.read p).1 := by rw [confirmed_calm taken, ite_self]
  rw [← same]
  rfl

/-- A changed PAD with reports of the SPRING bank, outside a hold (R199 to R202). -/
theorem withPad_reportAll {l : List Report} (k : Pad) (h : s.calm) (clear : s.frb.responseActive = false)
    (once : l.Pairwise fun r q => r.severity = .severe → q.severity ≠ .severe) (bank : ∀ r ∈ l, r.bank = .spring) :
    s.touches ((s.withPad k).reportAll l) [.hal, .hpc, .pad, .sgi, .frb] ∧ ((s.withPad k).reportAll l).pad = k
      ∧ ((s.withPad k).reportAll l).frb = { banks := l.foldl (fun b r => b.store .spring (s.complete r)) s.frb.banks
                                            responseActive := l.any fun r => r.severity == .severe } := by
  have taken := withPad_touches s k
  obtain ⟨told, frb⟩ := reportAll_touches (l := l) (taken.calm h) (by simp [State.withPad, clear]) once
  refine ⟨(taken.trans told).mono (by decide), told.keeps .pad (by decide), frb.trans ?_⟩
  have banks : (s.withPad k).frb = s.frb := rfl
  simp only [taken.complete, banks, clear, Bool.false_or]
  rw [List.foldl_ext _ _ _ fun b r listed => by rw [bank r listed]]

/-- Each row of a reading is the whole reading when its event comes about, and nothing otherwise (log entry 5). -/
theorem exec_springRow {p : Int} {c : Instr} {happens : Bool} (spring : s.spring = true) (reading : s.pad.reading = true)
    (row : (c, happens) ∈ [(.springReading p, true), (.springSensorOutOfRange p, (s.pad.read p).2.rangeOnset),
      (.confirmLost p, (s.pad.read p).2.lost)]) :
    exec c s = .next (conclude s (if happens then s.springRead p else s)) := by
  have whole (occurs : SpringEvents → Bool) :
      s.springIf occurs p = if occurs (s.pad.read p).2 then s.springRead p else s := by
    simp only [State.springIf, spring, reading, Bool.true_and]
  simp only [List.mem_cons, Prod.mk.injEq, List.not_mem_nil, or_false] at row
  rcases row with ⟨rfl, rfl⟩ | ⟨rfl, rfl⟩ | ⟨rfl, rfl⟩
  · exact next_conclude s (whole fun _ => true)
  · exact next_conclude s (whole fun e => e.rangeOnset)
  · exact next_conclude s (whole fun e => e.lost)

theorem confirmTimeout_calm (h : s.calm) (spring : s.spring = true) (waiting : s.pad.watch = .waiting)
    (time : ms 1500 ≤ s.pad.confirmTime) (clear : s.frb.responseActive = false) : exec .confirmTimeout s
      = .next (conclude s ((s.withPad { s.pad with watch := .timedOut }).reportAll [confirmTimeoutReport])) :=
  next_conclude s ((if_pos (by simp [spring, waiting, time])).trans
    (confirmTimedOut_calm (s := s.withPad { s.pad with watch := .timedOut }) h clear))

end

/-- Settles O52: the reading is the PAD's own with its reports, and the confirm timeout is its report. -/
theorem springReadingIsTaken : Obligations.SpringReadingIsTaken := by
  refine ⟨?_, fun s steady spring waiting time clear => ?_⟩
  · intro s p c happens inside m watch onset timed lost reps steady spring reading clear row
    obtain ⟨rangeOnset, timedOut, isLost⟩ := read_events s.pad p
    have watched (inRange : inside = true) : (s.pad.taken m).watch = watch := by simp [Pad.taken, watch, inRange]
    have tested (inRange : inside = true) : (s.pad.taken m).loses = lost := by
      rw [Pad.loses, watched inRange]
      simp only [lost, inRange, Bool.true_and]
      rfl
    have onsetEq : (s.pad.read p).2.rangeOnset = onset := rangeOnset
    have timedEq : (s.pad.read p).2.timedOut = timed := timedOut
    have lostEq : (s.pad.read p).2.lost = lost := by
      refine isLost.trans (show (inside && (s.pad.taken m).loses) = lost from ?_)
      by_cases inRange : inside = true
      · rw [tested inRange, inRange, Bool.true_and]
      · simp [lost, inRange]
    have reports : (s.pad.read p).2.reports = reps := by rw [SpringEvents.reports, onsetEq, timedEq, lostEq]
    obtain ⟨touches, pad, frb⟩ := withPad_reportAll (s.pad.read p).1 steady.calm clear
      (reports_once (s.pad.read p).2) fun r => reports_bank
    rw [exec_springRow spring reading (by rwa [onsetEq, lostEq]), springRead_calm steady.calm clear]
    rw [reports_severe, timedEq, reports] at frb
    rw [reports] at touches pad ⊢
    generalize (s.withPad (s.pad.read p).1).reportAll reps = t at touches pad frb ⊢
    cases happens with
    | false =>
      rw [if_neg (by decide), conclude_fixed (react_steady s steady)]
      exact ⟨_, rfl, nofun, nofun, nofun, nofun, nofun, ⟨rfl, rfl, rfl⟩, fun _ => s.keeps_ended,
        fun b _ => s.keeps_ended b (by simp)⟩
    | true =>
      rw [if_pos rfl, touches.conclude steady (by decide)]
      refine ⟨_, rfl, fun _ inRange => pad.trans ?_, fun _ outside early => pad.trans ?_, fun _ due => pad.trans ?_,
        fun _ outside late known => pad.trans ?_, fun _ => frb, ⟨rfl, rfl, rfl⟩, nofun, touches.keeps_ended⟩
      · rw [read_taken inRange, ← tested inRange, ← watched inRange]
        rfl
      · rw [read_misses outside early]
      · rw [read_losesRange due]
        rfl
      · rw [read_stays outside late known]
  · obtain ⟨touches, pad, frb⟩ := withPad_reportAll (l := [confirmTimeoutReport]) { s.pad with watch := .timedOut }
      steady.calm clear (List.pairwise_singleton _ _) fun r listed => by rw [List.mem_singleton.1 listed]; rfl
    rw [confirmTimeout_calm steady.calm spring waiting time clear, touches.conclude steady (by decide)]
    exact ⟨_, rfl, pad, frb, touches.keeps_ended⟩

end Sys2Proof.Machine

/-! PROOF. The transmit list and the bus state through every step (R167, R173, R175 to R178): a placement keeps the list in
order, the controller is stopped before its mode is left, and each shared operation of the blocks keeps both. -/

namespace Sys2Proof.Machine

/-! ## Lists in order (R173) -/

/-- The frames of a node of number n in order of identifier, with at most one of each kind but replies. -/
structure listFor (n : Nat) (l : List TxFrame) : Prop where
  order : l.Pairwise (fun f g => f.id ≤ g.id ∧ (f.kind = .reply ∨ f.kind ≠ g.kind))
  own : ∀ f ∈ l, f.id = frameId n f.kind

section
variable {n : Nat} {l m : List TxFrame} {f : TxFrame}

theorem listFor_nil (n : Nat) : listFor n [] := ⟨.nil, nofun⟩

theorem listFor_cons {g : TxFrame} : listFor n (g :: l) ↔ g.id = frameId n g.kind
    ∧ (∀ f ∈ l, g.id ≤ f.id ∧ (g.kind = .reply ∨ g.kind ≠ f.kind)) ∧ listFor n l := by
  constructor
  · rintro ⟨order, own⟩
    obtain ⟨first, rest⟩ := List.pairwise_cons.1 order
    obtain ⟨mine, others⟩ := List.forall_mem_cons.1 own
    exact ⟨mine, first, rest, others⟩
  · rintro ⟨mine, first, rest⟩
    exact ⟨List.pairwise_cons.2 ⟨first, rest.order⟩, List.forall_mem_cons.2 ⟨mine, rest.own⟩⟩

theorem listFor.sublist (h : listFor n l) (sub : m.Sublist l) : listFor n m :=
  ⟨h.order.sublist sub, fun f inside => h.own f (sub.subset inside)⟩

theorem insertFrame_perm (f : TxFrame) (l : List TxFrame) : (insertFrame f l).Perm (f :: l) := by
  induction l with
  | nil => exact .refl _
  | cons g l ih =>
    unfold insertFrame
    split
    · exact .refl _
    · exact (ih.cons g).trans (.swap f g l)

/-- A frame put at its place keeps the order where none of its kind is pending or it is a reply. -/
theorem listFor.insert (h : listFor n l) (mine : f.id = frameId n f.kind)
    (alone : f.kind = .reply ∨ ∀ g ∈ l, g.kind ≠ f.kind) : listFor n (insertFrame f l) := by
  induction l with
  | nil => exact listFor_cons.2 ⟨mine, nofun, h⟩
  | cons g l ih =>
    obtain ⟨own, first, rest⟩ := listFor_cons.1 h
    have kinds (e : TxFrame) (inside : e ∈ g :: l) : f.kind = .reply ∨ f.kind ≠ e.kind :=
      alone.imp_right fun other => (other e inside).symm
    unfold insertFrame
    split
    case isTrue before =>
      refine listFor_cons.2 ⟨mine, fun e inside => ⟨?_, kinds e inside⟩, h⟩
      rcases List.mem_cons.1 inside with rfl | inside
      · omega
      · have := (first e inside).1
        omega
    case isFalse behind =>
      refine listFor_cons.2 ⟨own, fun e inside => ?_,
        ih rest (alone.imp_right fun other e inside => other e (List.mem_cons_of_mem g inside))⟩
      rcases List.mem_cons.1 ((insertFrame_perm f l).mem_iff.1 inside) with rfl | inside
      · refine ⟨by omega, ?_⟩
        rcases kinds g List.mem_cons_self with reply | other
        · by_cases both : g.kind = .reply
          · exact .inl both
          · exact .inr (reply ▸ both)
        · exact .inr other.symm
      · exact first e inside

/-- What the order speaks of. -/
def TxFrame.key (f : TxFrame) : Nat × TxKind := (f.id, f.kind)

theorem listFor.of_keys (h : listFor n l) (same : m.map TxFrame.key = l.map TxFrame.key) : listFor n m := by
  have keyed (k : List TxFrame) : listFor n k
      ↔ (k.map TxFrame.key).Pairwise (fun a b => a.1 ≤ b.1 ∧ (a.2 = .reply ∨ a.2 ≠ b.2))
        ∧ ∀ a ∈ k.map TxFrame.key, a.1 = frameId n a.2 := by
    rw [List.pairwise_map, List.forall_mem_map]
    exact ⟨fun h => ⟨h.order, h.own⟩, fun h => ⟨h.1, h.2⟩⟩
  rw [keyed, same, ← keyed]
  exact h

theorem replaceKind_keys (h : ∀ g ∈ l, g.kind = f.kind → g.id = f.id) :
    (replaceKind f l).map TxFrame.key = l.map TxFrame.key := by
  induction l with
  | nil => rfl
  | cons g l ih =>
    unfold replaceKind
    split
    case isTrue same => simp [TxFrame.key, same, h g List.mem_cons_self same]
    case isFalse => simp [ih fun e inside => h e (List.mem_cons_of_mem g inside)]

theorem listFor.replace (h : listFor n l) (mine : f.id = frameId n f.kind) : listFor n (replaceKind f l) :=
  h.of_keys (replaceKind_keys fun g inside same => by rw [h.own g inside, same, mine])

/-- A placement keeps the order (R173). -/
theorem Sgi.place_listFor {g : Sgi} (h : listFor n g.list) (mine : f.id = frameId n f.kind) :
    listFor n (g.place f).list := by
  unfold Sgi.place
  split
  case isTrue => exact h.replace mine
  case isFalse fresh =>
    refine h.insert mine ?_
    simp only [Sgi.has, Bool.and_eq_true, bne_iff_ne, List.any_eq_true, beq_iff_eq, not_and_or, not_not] at fresh
    exact fresh.imp_right fun none g inside same => none ⟨g, inside, same⟩

end

/-! ## List and bus state in a mode -/

/-- The modes in which the controller runs (R177). -/
def Mode.controls : Mode → Bool
  | .config | .run | .safe => true
  | .init | .watch | .restart => false

theorem State.controllerRuns_eq (s : State) : s.controllerRuns = s.mdc.mode.controls := by
  unfold State.controllerRuns
  cases s.mdc.mode <;> rfl

/-- List, bus state and counts of a node of number n in mode m. -/
structure Sgi.okFor (g : Sgi) (n : Nat) (m : Mode) : Prop where
  list : listFor n g.list
  apart : m.controls = false → g.list = [] ∧ g.bus = .stopped
  off : g.bus = .off → g.list = []
  counts : g.countsOk

/-- List, bus state and counts as every step keeps them. -/
def State.segmentOk (s : State) : Prop := s.sgi.okFor s.number s.mdc.mode

theorem State.segmentOk_iff (s : State) : s.segmentOk ↔ s.listOk ∧ s.sgi.countsOk := by
  unfold State.listOk
  rw [s.controllerRuns_eq]
  exact ⟨fun h => ⟨⟨h.list.order, h.list.own, h.apart, h.off⟩, h.counts⟩,
    fun ⟨⟨order, own, apart, off⟩, counts⟩ => ⟨⟨order, own⟩, apart, off, counts⟩⟩

section
variable {g k : Sgi} {n : Nat} {m : Mode}

/-- Marks and times of the SGI are free. -/
theorem Sgi.okFor.of_same (h : g.okFor n m) (list : k.list = g.list) (bus : k.bus = g.bus)
    (tx : k.txErrors = g.txErrors) (rx : k.rxErrors = g.rxErrors) : k.okFor n m := by
  obtain ⟨order, apart, off, counts⟩ := h
  refine ⟨list ▸ order, ?_, ?_, ?_⟩
  · rw [list, bus]; exact apart
  · rw [list, bus]; exact off
  · rw [Sgi.countsOk, bus, tx, rx]; exact counts

/-- A mode in which the controller runs asks nothing more. -/
theorem Sgi.okFor.entering {m' : Mode} (h : g.okFor n m) (runs : m'.controls = true) : g.okFor n m' :=
  ⟨h.list, fun apart => by simp [runs] at apart, h.off, h.counts⟩

/-- Counts of a stopped controller are free to be cleared (R176). -/
theorem Sgi.okFor.clearCounts (h : g.okFor n m) (apart : m.controls = false) : g.clearCounts.okFor n m := by
  have stopped : g.clearCounts.bus = .stopped := (h.apart apart).2
  exact ⟨h.list, h.apart, h.off, by simp [stopped], by simp [stopped], by simp [Sgi.clearCounts],
    by simp [Sgi.clearCounts]⟩

/-- A stopped controller is in place in every mode (R175, R177). -/
theorem Sgi.stop_okFor (h : g.countsOk) (n : Nat) (m : Mode) : g.stop.okFor n m :=
  ⟨listFor_nil n, fun _ => ⟨rfl, rfl⟩, fun _ => rfl, nofun, nofun, h.2.2⟩

theorem Sgi.place_okFor {f : TxFrame} (h : g.okFor n m) (runs : m.controls = true) (on : g.bus ≠ .off)
    (mine : f.id = frameId n f.kind) : (g.place f).okFor n m := by
  refine ⟨Sgi.place_listFor h.list mine, fun apart => by simp [runs] at apart, fun off => absurd ?_ on, ?_⟩
  · rw [← Sgi.place_bus g f, off]
  · have same : (g.place f).txErrors = g.txErrors ∧ (g.place f).rxErrors = g.rxErrors := by
      unfold Sgi.place
      split <;> exact ⟨rfl, rfl⟩
    rw [Sgi.countsOk, Sgi.place_bus, same.1, same.2]
    exact h.counts

end

/-! ## Placements and records -/

section
variable {s t : State}

theorem segmentOk_ite {p : Prop} [Decidable p] (h : s.segmentOk) (k : t.segmentOk) :
    (if p then s else t).segmentOk := by
  split
  · exact h
  · exact k

/-- A condition on which an operation acts. -/
theorem segmentOk_if {b : Bool} (h : b = true → s.segmentOk) (k : t.segmentOk) : (if b then s else t).segmentOk := by
  split
  · exact h (by assumption)
  · exact k

theorem State.segmentOk.of_same (h : s.segmentOk) (sgi : t.sgi = s.sgi) (mdc : t.mdc = s.mdc) : t.segmentOk := by
  unfold State.segmentOk State.number
  rw [sgi, mdc]
  exact h

/-! Blocks replaced, which list and bus state do not depend on. -/

theorem State.segmentOk.csu (h : s.segmentOk) (u : Csu) : (s.withCsu u).segmentOk := h
theorem State.segmentOk.glu (h : s.segmentOk) (g : Glu) : (s.withGlu g).segmentOk := h
theorem State.segmentOk.pvt (h : s.segmentOk) (p : Pvt) : (s.withPvt p).segmentOk := h
theorem State.segmentOk.vir (h : s.segmentOk) (v : Vir) : (s.withVir v).segmentOk := h
theorem State.segmentOk.hpc (h : s.segmentOk) (k : Hpc) : (s.withHpc k).segmentOk := h
theorem State.segmentOk.cpr (h : s.segmentOk) (k : Cpr) : (s.withCpr k).segmentOk := h
theorem State.segmentOk.pad (h : s.segmentOk) (p : Pad) : (s.withPad p).segmentOk := h

theorem place_segmentOk (h : s.segmentOk) (k : TxKind) (d : List Byte) : (s.place k d).segmentOk := by
  refine segmentOk_if (fun may => ?_) h
  simp only [State.mayPlace, Bool.and_eq_true, bne_iff_ne, ne_eq] at may
  refine Sgi.place_okFor h ?_ may.1 rfl
  cases mode : s.mdc.mode <;> simp [mode] at may <;> rfl

theorem placeDeclaration_segmentOk (h : s.segmentOk) : s.placeDeclaration.segmentOk :=
  segmentOk_ite (Sgi.okFor.of_same (place_segmentOk h _ _) rfl rfl rfl rfl) h

theorem placeAlert_segmentOk (h : s.segmentOk) (a : AlertCause) (l : Nat) (x : Int) : (s.placeAlert a l x).segmentOk :=
  segmentOk_ite h (place_segmentOk h _ _)

theorem placeRouse_segmentOk (h : s.segmentOk) : s.placeRouse.segmentOk := place_segmentOk h _ _

theorem placeReply_segmentOk (h : s.segmentOk) (r : ReplyCode) (k a : Byte) (p : List Byte) :
    (s.placeReply r k a p).segmentOk := place_segmentOk h _ _

theorem placeOwedReply_segmentOk (h : s.segmentOk) : s.placeOwedReply.segmentOk := by
  unfold State.placeOwedReply
  split
  · exact h
  · exact Sgi.okFor.of_same (place_segmentOk h _ _) rfl rfl rfl rfl

theorem storeReport_segmentOk (h : s.segmentOk) (r : Report) : (s.storeReport r).segmentOk := by
  have written : (s.writeRecord r).segmentOk := segmentOk_ite (placeDeclaration_segmentOk h) h
  exact segmentOk_ite written written

/-! ## Modes -/

theorem lineAtEntry_segmentOk (h : s.segmentOk) : s.lineAtEntry.segmentOk :=
  segmentOk_ite (storeReport_segmentOk (s := s.judgeLine) h _) h

theorem safeFrames_segmentOk (h : s.segmentOk) (left : Mode) : (s.safeFrames left).segmentOk :=
  placeOwedReply_segmentOk (placeAlert_segmentOk (placeDeclaration_segmentOk
    (segmentOk_ite (placeRouse_segmentOk h) h)) _ _ _)

theorem endWindow_segmentOk (h : s.segmentOk) : s.endWindow.segmentOk := by
  have checked {u : State} (k : u.segmentOk) : u.expectedCheck.segmentOk :=
    segmentOk_ite (storeReport_segmentOk (s := { u with pvt := { u.pvt with expectedReported := true } }) k _) k
  exact segmentOk_ite (segmentOk_ite (checked (u := s.reconcile.formMargin) h)
    (checked (u := s.reconcile.formMargin.freeze) h)) h

/-- An entry to SAFE from WATCH clears the counts of the stopped controller (R176, R196). -/
theorem startSafe_segmentOk (h : s.segmentOk) (hold : Bool) : (s.startSafe hold s.mdc.mode).segmentOk := by
  have safe : s.sgi.okFor s.number .safe := h.entering rfl
  unfold State.startSafe State.safeBlocks
  split
  case h_1 => exact segmentOk_ite safe safe
  case h_2 watch =>
    refine Sgi.okFor.entering (m := s.mdc.mode) (Sgi.okFor.clearCounts h ?_) rfl
    rw [watch]
    rfl
  all_goals exact safe

theorem enterSafe_segmentOk (h : s.segmentOk) : s.enterSafe.segmentOk := by
  have started := startSafe_segmentOk (endWindow_segmentOk h) s.holdAtSafe
  rw [State.endWindow_mode] at started
  exact segmentOk_ite h (safeFrames_segmentOk (lineAtEntry_segmentOk started) _)

theorem answerCause_segmentOk (h : s.segmentOk) (cause : Bool) : (s.answerCause cause).segmentOk :=
  segmentOk_ite (segmentOk_ite h (enterSafe_segmentOk h)) h

theorem reportBasic_segmentOk (h : s.segmentOk) (r : Report) : (s.reportBasic r).segmentOk :=
  answerCause_segmentOk (storeReport_segmentOk h r) _

theorem reportAndSafe_segmentOk (h : s.segmentOk) (r : Report) : (s.reportAndSafe r).segmentOk :=
  segmentOk_ite (enterSafe_segmentOk (reportBasic_segmentOk h r)) (reportBasic_segmentOk (enterSafe_segmentOk h) r)

theorem restartNow_segmentOk (h : s.segmentOk) : s.restartNow.segmentOk := by
  have begun : (s.startRestart s.resumeRecord s.pad.asserted).segmentOk :=
    Sgi.okFor.clearCounts (m := .restart) (Sgi.stop_okFor h.counts s.number .restart) rfl
  exact segmentOk_ite (enterSafe_segmentOk (lineAtEntry_segmentOk begun)) (lineAtEntry_segmentOk begun)

theorem enterRestart_segmentOk (h : s.segmentOk) : s.enterRestart.segmentOk :=
  restartNow_segmentOk (endWindow_segmentOk h)

theorem countedCause_segmentOk (h : s.segmentOk) : s.countedCause.segmentOk :=
  segmentOk_ite h (segmentOk_ite
    (segmentOk_ite h (restartNow_segmentOk (s := s.endWindow.countUp) (endWindow_segmentOk h)))
    (reportAndSafe_segmentOk h _))

/-! ## Deliveries, reports and levels -/

theorem deliver_segmentOk (h : s.segmentOk) (r : HalResult) : (s.deliver r).segmentOk :=
  h.of_same deliver_sgi (deliver_delivers s r).mdc

theorem laneMismatch_segmentOk (h : s.segmentOk) : s.laneMismatch.segmentOk :=
  countedCause_segmentOk (reportBasic_segmentOk (s := { s with hal := { s.hal with lanes := .mismatched } }) h _)

theorem halRecompute_segmentOk (h : s.segmentOk) : s.halRecompute.segmentOk := by
  unfold State.halRecompute
  refine segmentOk_ite ?_ h
  split
  · exact deliver_segmentOk h _
  · have delivered (f : Option LaneFault) : ((s.setLaneFault f).deliver s.laneResult).segmentOk :=
      deliver_segmentOk (s := s.setLaneFault f) h _
    exact segmentOk_ite (segmentOk_ite (delivered _) (laneMismatch_segmentOk (s := s.setLaneFault none) h)) (delivered _)

theorem report_segmentOk (h : s.segmentOk) (r : Report) : (s.report r).segmentOk := by
  have stored := storeReport_segmentOk h r
  exact answerCause_segmentOk (segmentOk_ite stored (halRecompute_segmentOk stored)) _

theorem reportAll_segmentOk (h : s.segmentOk) (l : List Report) : (s.reportAll l).segmentOk := by
  induction l generalizing s with
  | nil => exact h
  | cons r l ih => exact ih (report_segmentOk h r)

/-- A report that is made under a condition. -/
theorem reportIf_segmentOk (h : s.segmentOk) (b : Bool) (r : Report) : (if b then s.report r else s).segmentOk :=
  segmentOk_ite (report_segmentOk h r) h

theorem gradeRecompute_segmentOk (h : s.segmentOk) : s.gradeRecompute.segmentOk :=
  segmentOk_ite (segmentOk_ite h (halRecompute_segmentOk (h.glu _))) h

theorem massRecompute_segmentOk (h : s.segmentOk) : s.massRecompute.segmentOk :=
  segmentOk_ite (segmentOk_ite h (halRecompute_segmentOk (h.glu _))) h

theorem setLevels_segmentOk (h : s.segmentOk) (own node : Nat) : (s.setLevels own node).segmentOk :=
  segmentOk_ite h (placeDeclaration_segmentOk (halRecompute_segmentOk (h.csu _)))

theorem raiseOwn_segmentOk (h : s.segmentOk) (n : Nat) : (s.raiseOwn n).segmentOk :=
  segmentOk_ite h (setLevels_segmentOk h _ _)

theorem mergeLevel_segmentOk (h : s.segmentOk) : s.mergeLevel.segmentOk := segmentOk_ite (setLevels_segmentOk h _ _) h

theorem csuAlert_segmentOk (h : s.segmentOk) (a : AlertCause) : (s.csuAlert a).segmentOk :=
  segmentOk_ite (setLevels_segmentOk h _ _) h

/-! ## Entries of the phases -/

theorem enterHolding_segmentOk (h : s.segmentOk) (b : Nat) (anew : Bool) : (s.enterHolding b anew).segmentOk :=
  placeDeclaration_segmentOk (s := s.startHolding b anew) h

theorem enterSecured_segmentOk (h : s.segmentOk) : s.enterSecured.segmentOk :=
  placeDeclaration_segmentOk (s := s.startSecured) h

theorem handoverFails_segmentOk (h : s.segmentOk) : s.handoverFails.segmentOk := by
  unfold State.handoverFails
  split
  · exact segmentOk_ite (enterHolding_segmentOk (h.hpc _) _ _) h
  · exact h

theorem confirmTimedOut_segmentOk (h : s.segmentOk) : s.confirmTimedOut.segmentOk :=
  handoverFails_segmentOk (report_segmentOk h _)

theorem line_segmentOk (h : s.segmentOk) : s.line.segmentOk :=
  segmentOk_ite (confirmTimedOut_segmentOk (s := s.judgeLine) h) h

theorem enterSecuring_segmentOk (h : s.segmentOk) : s.enterSecuring.segmentOk := by
  have declared := placeDeclaration_segmentOk (s := s.startSecuring.judgeLine) h
  exact segmentOk_ite (confirmTimedOut_segmentOk declared) declared

theorem retainService_segmentOk (h : s.segmentOk) (p : Nat) : (s.retainService p).segmentOk :=
  segmentOk_ite (segmentOk_ite (enterSecured_segmentOk (h.hpc _)) h) h

theorem springInsufficient_segmentOk (h : s.segmentOk) : s.springInsufficient.segmentOk :=
  retainService_segmentOk (report_segmentOk (raiseOwn_segmentOk (s := s.handTarget s.preHandover false) h 1) _) _

theorem abortRelease_segmentOk (h : s.segmentOk) : s.abortRelease.segmentOk := by
  unfold State.abortRelease
  split
  · exact enterHolding_segmentOk (h.hpc _) _ _
  · exact h

theorem abortHandover_segmentOk (h : s.segmentOk) : s.abortHandover.segmentOk := by
  unfold State.abortHandover
  split
  · exact enterHolding_segmentOk (h.hpc _) _ _
  · exact h

theorem enterReleased_segmentOk (h : s.segmentOk) : s.enterReleased.segmentOk :=
  placeDeclaration_segmentOk (halRecompute_segmentOk (s := s.releasedStart) h)

theorem enterReleasing_segmentOk (h : s.segmentOk) : s.enterReleasing.segmentOk :=
  placeDeclaration_segmentOk (line_segmentOk (s := s.startReleasing) h)

/-! ## Creep -/

theorem trigger_segmentOk (h : s.segmentOk) : s.trigger.segmentOk := segmentOk_ite h (enterSecuring_segmentOk h)

theorem secureRelease_segmentOk (h : s.segmentOk) : s.secureRelease.segmentOk := by
  unfold State.secureRelease
  split
  · rename_i r _
    exact enterSecuring_segmentOk (s := (s.withHpc _).handTarget (max r.preHold s.hpc.last.pCalc) false) h
  · exact enterSecuring_segmentOk h

theorem hpcNotice_segmentOk (h : s.segmentOk) : s.hpcNotice.segmentOk := by
  unfold State.hpcNotice
  refine segmentOk_ite ?_ h
  split
  case h_1 => exact segmentOk_ite (raiseOwn_segmentOk (abortRelease_segmentOk h) 1) h
  case h_2 | h_3 => exact segmentOk_ite (springInsufficient_segmentOk h) h
  all_goals exact h

theorem hpcBreach_segmentOk (h : s.segmentOk) : s.hpcBreach.segmentOk := by
  unfold State.hpcBreach
  refine segmentOk_ite ?_ h
  split
  case h_1 | h_2 => exact trigger_segmentOk h
  case h_3 => exact secureRelease_segmentOk h
  case h_4 | h_5 => exact segmentOk_ite (springInsufficient_segmentOk h) h
  case h_6 => exact h

theorem hpcBlind_segmentOk (h : s.segmentOk) : s.hpcBlind.segmentOk := by
  unfold State.hpcBlind
  refine segmentOk_ite ?_ h
  split
  case h_1 | h_2 => exact trigger_segmentOk h
  case h_3 => exact secureRelease_segmentOk h
  all_goals exact h

theorem breach_segmentOk (h : s.segmentOk) : s.breach.segmentOk :=
  placeAlert_segmentOk (hpcBreach_segmentOk (setLevels_segmentOk (h.csu _) 4 4))
    _ _ _

theorem crossingTests_segmentOk (h : s.segmentOk) : s.crossingTests.segmentOk := by
  have notice : s.noticeTest.segmentOk := segmentOk_ite (hpcNotice_segmentOk (s := s.noticed) h) h
  have escalation : s.noticeTest.escalationTest.segmentOk :=
    segmentOk_ite (raiseOwn_segmentOk (s := s.noticeTest.movePoint _) notice _) notice
  exact segmentOk_ite (breach_segmentOk escalation) escalation

theorem blindOnset_segmentOk (h : s.segmentOk) : s.blindOnset.segmentOk := by
  have raised : s.blindLevels.segmentOk := setLevels_segmentOk (h.csu _) 4 4
  rw [blindOnset_eq]
  exact segmentOk_ite (hpcBlind_segmentOk (report_segmentOk raised _)) (report_segmentOk (hpcBlind_segmentOk raised) _)

theorem creepRecompute_segmentOk (h : s.segmentOk) (entry : Bool) : (s.creepRecompute entry).segmentOk :=
  segmentOk_ite (segmentOk_ite (crossingTests_segmentOk (s := s.creepFormed) h) h)
    (segmentOk_ite (blindOnset_segmentOk (s := s.creepFormed) h) h)

theorem enterCapturing_segmentOk (h : s.segmentOk) : s.enterCapturing.segmentOk :=
  creepRecompute_segmentOk (placeDeclaration_segmentOk (halRecompute_segmentOk
    (s := s.captureStart.handTarget s.captureStart.hpc.pHold false) h)) true

theorem settled_segmentOk (h : s.segmentOk) : s.settled.segmentOk :=
  segmentOk_ite (enterHolding_segmentOk h _ _)
    (segmentOk_ite (line_segmentOk (s := State.handRequest (s.withHpc _) false) h) h)

theorem confirmed_segmentOk (h : s.segmentOk) : s.confirmed.segmentOk := by
  unfold State.confirmed
  split
  · exact segmentOk_ite h h
  · exact h

theorem hpcAlert_segmentOk (h : s.segmentOk) : s.hpcAlert.segmentOk :=
  segmentOk_ite (abortRelease_segmentOk h) (segmentOk_ite (enterCapturing_segmentOk h) h)

/-! ## Samples -/

theorem velocityTest_segmentOk (h : s.segmentOk) : s.velocityTest.segmentOk :=
  segmentOk_ite (segmentOk_ite (segmentOk_ite (breach_segmentOk (s := s.setBreachTime _) h) h) h) h

theorem gapReport_segmentOk (h : s.segmentOk) (before : Bool) : (s.gapReport before).segmentOk :=
  segmentOk_ite (report_segmentOk h _) h

theorem csuSample_segmentOk (h : s.segmentOk) (gap : Bool) : (s.csuSample gap).segmentOk := by
  have told := gapReport_segmentOk (s := s.withCsu (s.csu.sampleCreep s.wmt s.glu s.mdc.settings gap)) h s.csu.creepGap
  exact velocityTest_segmentOk (segmentOk_ite (creepRecompute_segmentOk told false) told)

theorem hpcSample_segmentOk (h : s.segmentOk) : s.hpcSample.segmentOk := by
  unfold State.hpcSample
  split
  · exact segmentOk_ite (segmentOk_ite (enterReleased_segmentOk (h.hpc _)) h) h
  · exact h

theorem gluMoved_segmentOk (h : s.segmentOk) : s.gluMoved.segmentOk :=
  segmentOk_ite (segmentOk_ite (gradeRecompute_segmentOk (h.glu _)) h) h

/-- Handings in whatever order (log entry 10). -/
theorem handAll_segmentOk {l : List (State → State)} (hl : ∀ f ∈ l, ∀ {s : State}, s.segmentOk → (f s).segmentOk)
    (h : s.segmentOk) : (handAll l s).segmentOk := by
  have inOrder_segmentOk (m : List (State → State)) (hm : ∀ f ∈ m, ∀ {s : State}, s.segmentOk → (f s).segmentOk) :
      ∀ {s : State}, s.segmentOk → (inOrder m s).segmentOk := by
    induction m with
    | nil => exact id
    | cons f m ih => exact fun h => ih (fun g hg => hm g (List.mem_cons_of_mem f hg)) (hm f List.mem_cons_self h)
  exact inOrder_segmentOk _ (fun f hf => hl f (mem_permute hf)) h

/-! ## RUN and WATCH -/

theorem runRequests_segmentOk (h : s.segmentOk) (b : Bool) : (s.runRequests b).segmentOk :=
  line_segmentOk (s := s.setRequests b) h

theorem runEntered_segmentOk (h : s.segmentOk) : s.runEntered.segmentOk := by
  refine handAll_segmentOk (fun f hf s h => ?_) h
  simp only [List.mem_cons, List.not_mem_nil, or_false] at hf
  rcases hf with rfl | rfl
  · exact halRecompute_segmentOk h
  · exact placeDeclaration_segmentOk h

theorem enterRun_segmentOk (h : s.segmentOk) : s.enterRun.segmentOk := by
  have begun : s.endWindow.startFirstRun.segmentOk := Sgi.okFor.entering (endWindow_segmentOk h) rfl
  exact runEntered_segmentOk (runRequests_segmentOk begun false)

theorem resumeRun_segmentOk (h : s.segmentOk) : s.resumeRun.segmentOk := by
  have begun : s.restarted.segmentOk := Sgi.okFor.entering h rfl
  unfold State.resumeRun
  refine runEntered_segmentOk (placeOwedReply_segmentOk ?_)
  split
  · rename_i r _
    exact runRequests_segmentOk (gapReport_segmentOk (s := s.restarted.startResumed r) begun false) true
  · exact runRequests_segmentOk (s := s.restarted.startAfresh) begun false

/-- The return from WATCH clears the counts of the stopped controller (R176, R195). -/
theorem wake_segmentOk (h : s.segmentOk) (watch : s.mdc.mode = .watch) (parked : Bool) : (s.wake parked).segmentOk := by
  have begun : (s.wakeTarget parked).segmentOk :=
    Sgi.okFor.entering (m := s.mdc.mode) (Sgi.okFor.clearCounts h (by rw [watch]; rfl)) rfl
  have blocks : ((s.wakeBlocks parked).placeRouse.runEntered).segmentOk :=
    runEntered_segmentOk (placeRouse_segmentOk (s := s.wakeBlocks parked) (line_segmentOk begun))
  have alerted : (if parked then ((s.wakeBlocks parked).placeRouse.runEntered).parkedAlert
      else (s.wakeBlocks parked).placeRouse.runEntered).segmentOk :=
    segmentOk_ite (segmentOk_ite (placeAlert_segmentOk blocks _ _ _) blocks) blocks
  exact segmentOk_ite (blindOnset_segmentOk alerted) alerted

theorem answerWatch_segmentOk (h : s.segmentOk) : s.answerWatch.segmentOk := by
  unfold State.answerWatch
  refine segmentOk_ite ?_ (Sgi.stop_okFor h.counts s.number .watch)
  split
  · exact h
  · exact report_segmentOk (s := s.withMdc { s.mdc with watchRequest := some true }) h _

/-! ## Standing conditions -/

theorem judgeWait_segmentOk (h : s.segmentOk) (r : HandoverRecord) : (s.judgeWait r).segmentOk :=
  segmentOk_ite (segmentOk_ite h (report_segmentOk (h.hpc _) _))
    (segmentOk_ite (segmentOk_ite (enterSecured_segmentOk ((h.hpc _).csu s.csu.rearm)) h) h)

theorem reactHolding_segmentOk (h : s.segmentOk) : s.reactHolding.segmentOk := by
  have armed : s.rearmRelease.segmentOk := segmentOk_ite h h
  exact segmentOk_ite (enterSecuring_segmentOk armed) (segmentOk_ite (enterReleasing_segmentOk armed) armed)

theorem reactRun_segmentOk (h : s.segmentOk) (before : State) : (State.reactRun before s).segmentOk := by
  unfold State.reactRun
  split
  case h_1 => exact segmentOk_ite (enterCapturing_segmentOk h) h
  case h_2 => exact segmentOk_ite (enterSecuring_segmentOk h) h
  case h_3 => exact reactHolding_segmentOk h
  case h_4 => exact segmentOk_ite (enterReleased_segmentOk h) (segmentOk_ite (abortRelease_segmentOk h) h)
  case h_5 =>
    refine segmentOk_ite (abortHandover_segmentOk h) ?_
    split
    · exact segmentOk_ite (judgeWait_segmentOk h _) h
    · exact h
  case h_6 =>
    exact segmentOk_ite (enterHolding_segmentOk (h.hpc _) _ true) (segmentOk_ite (answerWatch_segmentOk h) h)

theorem react_segmentOk (h : s.segmentOk) (before : State) : (State.react before s).segmentOk := by
  unfold State.react
  split
  case h_1 => exact reactRun_segmentOk h before
  case h_2 => exact segmentOk_ite (line_segmentOk (s := s.seenStationary) h) h
  case h_3 watch => exact segmentOk_ite (wake_segmentOk
      (h.csu { s.csu with notice := true, ownLevel := 4, nodeLevel := 4 }) watch true) h
  all_goals exact h

theorem conclude_segmentOk (h : s.segmentOk) (before : State) : (conclude before s).segmentOk := by
  have acted (n : Nat) : ∀ {u : State}, u.segmentOk → (reactFor before n u).segmentOk := by
    induction n with
    | zero => exact id
    | succ n ih => exact fun h => ih (react_segmentOk h before)
  exact acted rounds h

/-! ## Commands of the sensors and times -/

theorem sampleIf_segmentOk (h : s.segmentOk) (o : State → SampleEvents → Bool) (a b : Code) :
    (s.sampleIf o a b).segmentOk := by
  have taken (w : Wmt) (e : SampleEvents) : (s.takeSample w e).segmentOk := by
    refine handAll_segmentOk (fun f hf s h => ?_) (reportAll_segmentOk (s := { s with wmt := w }) h _)
    simp only [sampleHandings, List.mem_append, List.mem_cons, List.not_mem_nil, or_false] at hf
    rcases hf with (rfl | rfl) | moved
    · exact csuSample_segmentOk h _
    · exact hpcSample_segmentOk h
    · split at moved
      · rw [List.mem_singleton.1 moved]
        exact gluMoved_segmentOk h
      · simp at moved
  exact segmentOk_ite (taken _ _) h

theorem accelRead_segmentOk (h : s.segmentOk) (r : Option Accel) : (s.accelRead r).segmentOk := by
  have graded : (s.accelGrade r).segmentOk := segmentOk_ite (gradeRecompute_segmentOk (h.glu _)) h
  have tested {t : State} (k : t.segmentOk) : t.disagreementTest.segmentOk :=
    segmentOk_ite (reportIf_segmentOk (k.glu _) _ _) k
  exact tested (reportIf_segmentOk graded _ _)

theorem loadRead_segmentOk (h : s.segmentOk) (n : Nat) : (s.loadRead n).segmentOk := by
  refine segmentOk_ite (handAll_segmentOk (fun f hf s h => ?_) (h.glu _))
    (reportIf_segmentOk (h.glu _) _ _)
  simp only [loadHandings, List.mem_append] at hf
  rcases hf with hf | hf <;> split at hf <;> simp at hf <;> subst hf
  · exact halRecompute_segmentOk h
  · exact massRecompute_segmentOk h

theorem pressureIf_segmentOk (h : s.segmentOk) (o : PressureEvents → Bool) (p : Int) : (s.pressureIf o p).segmentOk := by
  have read : (if (s.cpr.read p).2.applyTimeout then (s.withCpr (s.cpr.read p).1).applyTimedOut
      else s.withCpr (s.cpr.read p).1).segmentOk := segmentOk_ite h h
  have told := reportAll_segmentOk read (s.cpr.read p).2.reports
  exact segmentOk_ite (segmentOk_ite (settled_segmentOk told) told) h

theorem readbackTaken_segmentOk (h : s.segmentOk) (hold apply vent : Bool) :
    (s.readbackTaken hold apply vent).segmentOk :=
  segmentOk_ite h (reportAll_segmentOk (h.cpr _) _)

theorem springIf_segmentOk (h : s.segmentOk) (o : SpringEvents → Bool) (p : Int) : (s.springIf o p).segmentOk := by
  have confirmed (b : Bool) : (if b then (s.withPad (s.pad.read p).1).confirmed else s.withPad (s.pad.read p).1).segmentOk :=
    segmentOk_ite (confirmed_segmentOk (h.pad _)) h
  have timedOut {t : State} (k : t.segmentOk) (b : Bool) : (if b then t.confirmTimedOut else t).segmentOk :=
    segmentOk_ite (confirmTimedOut_segmentOk k) k
  exact segmentOk_ite (reportIf_segmentOk (timedOut (reportIf_segmentOk (confirmed _) _ _) _) _ _) h

/-! ## Commands of the segment -/

theorem declarationArrives_segmentOk (h : s.segmentOk) (n : Nat) (l : List Byte) :
    (s.declarationArrives n l).segmentOk := by
  have clash : s.clash.segmentOk := reportIf_segmentOk (s := s.spanBegun) h _ _
  have created {t : State} (k : t.segmentOk) : (t.creationReport n).segmentOk :=
    segmentOk_ite (report_segmentOk (s := t.countMarked) k _) k
  have tabled (d : Declared) : (s.tabled n d).segmentOk := segmentOk_ite (created (h.pvt _)) h
  unfold State.declarationArrives
  refine segmentOk_ite ?_ h
  split
  · refine segmentOk_ite clash (handAll_segmentOk (fun f hf t h => ?_) (tabled _))
    simp only [declarationHandings, List.mem_cons, List.not_mem_nil, or_false] at hf
    rcases hf with rfl | rfl | rfl | rfl | rfl | rfl
    · exact creepRecompute_segmentOk h false
    · exact mergeLevel_segmentOk h
    · exact gradeRecompute_segmentOk h
    · exact massRecompute_segmentOk h
    · exact halRecompute_segmentOk (h.pvt _)
    · exact react_segmentOk h s
  · exact report_segmentOk h _

theorem alertArrives_segmentOk (h : s.segmentOk) (n : Nat) (l : List Byte) : (s.alertArrives n l).segmentOk := by
  have clash : s.clash.segmentOk := reportIf_segmentOk (s := s.spanBegun) h _ _
  unfold State.alertArrives
  refine segmentOk_ite ?_ h
  split
  · refine segmentOk_ite clash (handAll_segmentOk (fun f hf t h => ?_) (h.pvt _))
    simp only [List.mem_append, List.mem_singleton] at hf
    rcases hf with hf | rfl
    · split at hf
      · rw [List.mem_singleton.1 hf]
        exact csuAlert_segmentOk h _
      · simp at hf
    · exact hpcAlert_segmentOk h
  · exact report_segmentOk h _

theorem peerStale_segmentOk (h : s.segmentOk) (before : State) : (handAll (staleHandings before) s).segmentOk := by
  refine handAll_segmentOk (fun f hf t h => ?_) h
  simp only [staleHandings, List.mem_cons, List.not_mem_nil, or_false] at hf
  rcases hf with rfl | rfl | rfl
  · exact creepRecompute_segmentOk h false
  · exact gradeRecompute_segmentOk h
  · exact react_segmentOk h before

theorem peerExpired_segmentOk (h : s.segmentOk) (n : Nat) (hold : Bool) :
    (handAll (expiryHandings n hold) s).segmentOk := by
  refine handAll_segmentOk (fun f hf t h => ?_) h
  simp only [expiryHandings, List.mem_append, List.mem_singleton] at hf
  rcases hf with rfl | hf
  · exact halRecompute_segmentOk h
  · split at hf
    · rw [List.mem_singleton.1 hf]
      exact report_segmentOk h _
    · simp at hf

theorem driveHanded_segmentOk (h : s.segmentOk) (before : State) :
    (handAll [State.halRecompute, State.react before] s).segmentOk := by
  refine handAll_segmentOk (fun f hf t h => ?_) h
  simp only [List.mem_cons, List.not_mem_nil, or_false] at hf
  rcases hf with rfl | rfl
  · exact halRecompute_segmentOk h
  · exact react_segmentOk h before

theorem drumHanded_segmentOk (h : s.segmentOk) : s.drumHanded.segmentOk :=
  segmentOk_ite h (segmentOk_ite h (halRecompute_segmentOk (s := s.formMargin) h))

theorem stationFrame_segmentOk {α : Type} (h : s.segmentOk) (e : Element) (d : Option α) {take : α → State}
    (taken : ∀ x, (take x).segmentOk) : (s.stationFrame e d take).segmentOk := by
  unfold State.stationFrame
  refine segmentOk_ite ?_ h
  split
  · exact taken _
  · exact report_segmentOk h _

theorem staleRecord_segmentOk (h : s.segmentOk) (x : Station) : (s.staleRecord x).segmentOk := by
  have aged : (s.withVir (s.vir.setStale x)).segmentOk := h
  cases x
  · exact aged
  · exact driveHanded_segmentOk aged s
  · exact drumHanded_segmentOk aged

/-- A controller that is joined runs. -/
theorem State.segmentOk.controls (h : s.segmentOk) (joined : s.sgi.bus ≠ .stopped) : s.mdc.mode.controls = true := by
  by_contra apart
  exact joined (h.apart (by simpa using apart)).2

theorem Sgi.sent_sublist (g : Sgi) (x : Transmission) : (g.sent x).list.Sublist g.list := by
  unfold Sgi.sent
  dsimp only
  split
  · exact .refl _
  · exact List.eraseP_sublist

/-- Counts changed while the controller is joined, with the list at most shortened (R176, R177). -/
theorem count_segmentOk (h : s.segmentOk) (joined : s.sgi.joined = true) {g : Sgi} (list : g.list.Sublist s.sgi.list)
    (tx : g.txErrors ≤ 255) (rx : g.rxErrors ≤ 255) : (s.count g).segmentOk := by
  have runs : s.mdc.mode.controls = true := h.controls fun stopped => by simp [Sgi.joined, stopped] at joined
  have counted : State.segmentOk (s.withSgi { g with bus := g.byCounts }) := by
    refine ⟨h.list.sublist list, fun apart => by simp [State.withSgi, runs] at apart, fun off => ?_, ?_⟩
    · simp only [State.withSgi, Sgi.byCounts] at off
      split at off <;> simp at off
    · simp only [State.withSgi, Sgi.countsOk, Sgi.byCounts, Bool.and_eq_true, decide_eq_true_eq]
      split <;> simp <;> omega
  exact segmentOk_ite (report_segmentOk counted _) counted

theorem transmitFailed_segmentOk (h : s.segmentOk) (joined : s.sgi.joined = true) : s.transmitFailed.segmentOk := by
  have runs : s.mdc.mode.controls = true := h.controls fun stopped => by simp [Sgi.joined, stopped] at joined
  unfold State.transmitFailed
  dsimp only
  split
  case isTrue =>
    refine report_segmentOk ?_ _
    exact ⟨listFor_nil _, fun apart => by simp [runs] at apart, fun _ => rfl, nofun, nofun, Nat.min_le_left _ _,
      h.counts.2.2.2⟩
  case isFalse below => exact count_segmentOk h joined (.refl _) (Nat.not_lt.1 below) h.counts.2.2.2

theorem recessive_segmentOk (h : s.segmentOk) : s.recessive.segmentOk := by
  have joins (runs : s.mdc.mode.controls = true) : (s.withSgi s.sgi.join).segmentOk :=
    ⟨h.list, fun apart => by simp [State.withSgi, runs] at apart, nofun,
      by simp [State.withSgi, Sgi.join, Sgi.countsOk]⟩
  unfold State.recessive
  split
  case h_1 => exact segmentOk_if (fun runs => joins (s.controllerRuns_eq ▸ runs)) h
  case h_2 off =>
    exact segmentOk_ite (placeDeclaration_segmentOk (joins (h.controls (by simp [off]))))
      (Sgi.okFor.of_same h rfl rfl rfl rfl)
  all_goals exact h

theorem dominant_segmentOk (h : s.segmentOk) : s.dominant.segmentOk := by
  unfold State.dominant
  split
  case isTrue watch =>
    exact segmentOk_ite (wake_segmentOk (s := s.withSgi { s.sgi with rouseCount := 0, rouseWindow := 0 })
      (Sgi.okFor.of_same h rfl rfl rfl rfl) watch false) (Sgi.okFor.of_same h rfl rfl rfl rfl)
  case isFalse => exact h

theorem service_segmentOk (h : s.segmentOk) (n : Nat) (l : List Byte) (row : Byte → Bool) {answer : Byte → Byte → State}
    (answered : ∀ k a, (answer k a).segmentOk) : (s.service n l row answer).segmentOk := by
  unfold State.service
  refine segmentOk_ite ?_ h
  split
  · exact segmentOk_ite (segmentOk_ite (report_segmentOk h _) (answered _ _)) h
  · exact report_segmentOk h _

theorem clearTo_segmentOk (h : s.segmentOk) (b : Banks) : (s.clearTo b).segmentOk := by
  refine handAll_segmentOk (fun f hf t h => ?_) (s := { s with frb := { s.frb with banks := b } }) h
  simp only [clearHandings, List.mem_append] at hf
  rcases hf with hf | hf <;> split at hf <;> simp at hf <;> subst hf
  · exact placeDeclaration_segmentOk h
  · exact halRecompute_segmentOk h

/-! ## Commands of the MDC -/

theorem keyRises_segmentOk (h : s.segmentOk) : s.keyRises.segmentOk := by
  unfold State.keyRises
  split
  case h_1 watch => exact wake_segmentOk (s := s.setKey true) h watch false
  case h_2 => exact segmentOk_ite (enterRestart_segmentOk (s := s.setKey true) h) h
  all_goals exact h

theorem configured_segmentOk (h : s.segmentOk) (l : List Byte) (row : Byte → Bool) {late : State}
    {inConfig : List Byte → State} (lateOk : late.segmentOk) (taken : ∀ x, (inConfig x).segmentOk) :
    (s.configured l row late inConfig).segmentOk := by
  unfold State.configured
  refine segmentOk_ite ?_ h
  split
  · exact report_segmentOk h _
  · refine segmentOk_ite ?_ h
    split
    · exact segmentOk_ite (segmentOk_ite (taken _) lateOk) h
    · exact report_segmentOk h _

theorem takeGroupFrame_segmentOk (h : s.segmentOk) (l : List Byte) : (s.takeGroupFrame l).segmentOk := by
  unfold State.takeGroupFrame
  split
  · exact segmentOk_ite (report_segmentOk h _)
      (segmentOk_ite (massRecompute_segmentOk (s := s.takeSettings _ _ _ _ _ _ _) h) h)
  · exact h

theorem endInit_segmentOk (h : s.segmentOk) : s.endInit.segmentOk :=
  segmentOk_ite (enterSafe_segmentOk (s := s.stable) h)
    (runRequests_segmentOk (s := s.stable.startConfig) (Sgi.okFor.entering h rfl) false)

theorem brownedOut_segmentOk (h : s.segmentOk) : s.brownedOut.segmentOk :=
  countedCause_segmentOk (report_segmentOk (s := s.withMdc { s.mdc with brownOut := true }) h _)

theorem poweredOn_segmentOk (s : State) (num0 num1 num2 spring pol key : Bool) :
    (s.poweredOn num0 num1 num2 spring pol key).segmentOk :=
  ⟨listFor_nil _, fun _ => ⟨rfl, rfl⟩, nofun,
    show Sgi.initial.countsOk by decide⟩

/-! ## Every command -/

/-- Every command keeps list, bus state and counts. -/
theorem exec_segmentOk {c : Instr} (h : s.segmentOk) (run : exec c s = .next t) : t.segmentOk := by
  suffices body : ∃ u, exec c s = .next (conclude s u) ∧ u.segmentOk by
    obtain ⟨u, e, kept⟩ := body
    obtain rfl : t = conclude s u := by simpa [e] using run.symm
    exact conclude_segmentOk kept s
  clear run
  have reply (r : ReplyCode) (k a : Byte) (p : List Byte) := placeReply_segmentOk h r k a p
  cases c <;> refine ⟨_, rfl, ?_⟩
  case powerOn => exact poweredOn_segmentOk s _ _ _ _ _ _
  case initEnd => exact segmentOk_ite (endInit_segmentOk h) h
  case clockFailure | restartTimeout => exact segmentOk_ite (reportAndSafe_segmentOk h _) h
  case wheelSample | noiseOverrun | amplitudeLoss | cleanWindowRecovery | locked | lockNotAchieved
      | stationaryAsserted | breachVelocityTimeExpiry => exact sampleIf_segmentOk h _ _ _
  case accelerometerReading | accelerometerWindowFault | gradeDisagreement =>
    exact segmentOk_ite (accelRead_segmentOk h _) h
  case loadReading | loadInputFault => exact segmentOk_ite (loadRead_segmentOk h _) h
  case declaration => exact declarationArrives_segmentOk h _ _
  case peerStale n => exact segmentOk_ite (peerStale_segmentOk (s := s.withPvt (s.pvt.setFreshness n .stale)) h s) h
  case peerExpired n =>
    exact segmentOk_ite (peerExpired_segmentOk (s := s.withPvt (s.pvt.setFreshness n .expired)) h n _) h
  case alert => exact alertArrives_segmentOk h _ _
  case cabStatus => exact stationFrame_segmentOk h _ _ fun _ => h
  case driveDemand => exact stationFrame_segmentOk h _ _ fun _ => driveHanded_segmentOk (h.vir _) s
  case drumStatus => exact stationFrame_segmentOk h _ _ fun _ => drumHanded_segmentOk (h.vir _)
  case recordStale => exact segmentOk_ite (staleRecord_segmentOk h _) h
  case captureQualifyingExpiry => exact segmentOk_ite (enterCapturing_segmentOk h) h
  case captureSettleExpiry => exact segmentOk_ite (enterHolding_segmentOk h _ _) h
  case releaseRampStep =>
    split
    · exact segmentOk_ite (segmentOk_ite h h) h
    · exact h
  case releaseTimeExpiry =>
    split
    · exact segmentOk_ite (abortRelease_segmentOk h) h
    · exact h
  case insufficiencyTimeExpiry => exact segmentOk_ite (placeAlert_segmentOk (trigger_segmentOk h) _ _ _) h
  case driverAbsentTimeExpiry | secureTimeExpiry => exact segmentOk_ite (trigger_segmentOk h) h
  case handoverSettleExpiry =>
    split
    · exact segmentOk_ite (segmentOk_ite (enterSecured_segmentOk h) h) h
    · exact h
  case handoverRampStep =>
    split
    · exact segmentOk_ite (segmentOk_ite (enterSecured_segmentOk (h.hpc _)) h) h
    · exact h
  case wakeHoldExpiry => exact segmentOk_ite (answerWatch_segmentOk h) h
  case pressureReading | chamberSensorOutOfRange | settledReport | applyTimeout | ventTimeout =>
    exact pressureIf_segmentOk h _ _
  case readbackSample => exact readbackTaken_segmentOk h _ _ _
  case readbackMismatch => exact segmentOk_ite h (readbackTaken_segmentOk h _ _ _)
  case springReading | springSensorOutOfRange | confirmLost => exact springIf_segmentOk h _ _
  case confirmTimeout => exact segmentOk_ite (confirmTimedOut_segmentOk (h.pad _)) h
  case declarationTimerExpiry =>
    exact segmentOk_ite (placeDeclaration_segmentOk (s := s.withSgi { s.sgi with declarationTimer := 0 })
      (Sgi.okFor.of_same h rfl rfl rfl rfl)) h
  case frameOffer =>
    show (s.withSgi s.sgi.offer).segmentOk
    unfold Sgi.offer
    split
    · split
      · exact Sgi.okFor.of_same h rfl rfl rfl rfl
      · exact h
    · exact h
  case arbitrationLost => exact Sgi.okFor.of_same h rfl rfl rfl rfl
  case transmitError =>
    refine segmentOk_if (fun attempt => transmitFailed_segmentOk h ?_) h
    simp only [Bool.and_eq_true] at attempt
    exact attempt.1
  case transmitSuccess =>
    split
    · exact segmentOk_if (fun joined => count_segmentOk h joined (Sgi.sent_sublist _ _)
        ((Nat.sub_le _ 1).trans (joined_counts joined h.counts)) h.counts.2.2.2) h
    · exact h
  case receiveError =>
    exact segmentOk_if (fun receives => count_segmentOk h (receives_joined receives) (.refl _)
      (joined_counts (g := s.sgi) (receives_joined receives) h.counts) (Nat.min_le_left _ _)) h
  case successfulReception =>
    exact segmentOk_if (fun receives => count_segmentOk h (receives_joined receives) (.refl _)
      (joined_counts (g := s.sgi) (receives_joined receives) h.counts) (Nat.sub_le_of_le_add (Nat.le_succ_of_le h.counts.2.2.2))) h
  case recessiveRun => exact recessive_segmentOk h
  case qualifyingDominantPhase => exact dominant_segmentOk h
  case rouseWindowExpiry => exact segmentOk_ite (Sgi.okFor.of_same h rfl rfl rfl rfl) h
  case keyLineEdge => exact keyRises_segmentOk h
  case readStatus | undefinedServiceCommand => exact service_segmentOk h _ _ _ fun _ _ => reply _ _ _ _
  case readBank =>
    refine service_segmentOk h _ _ _ fun _ _ => ?_
    unfold State.bankReply
    split <;> exact reply _ _ _ _
  case clearBank =>
    refine service_segmentOk h _ _ _ fun _ _ => ?_
    unfold State.clearBankReply
    split
    · exact clearTo_segmentOk (reply _ _ _ _) _
    · exact reply _ _ _ _
  case clearAll => exact service_segmentOk h _ _ _ fun k a =>
      clearTo_segmentOk (s := { s.placeReply .ok k a zeroPayload with
        frb := { (s.placeReply .ok k a zeroPayload).frb with responseActive := false } }) (reply .ok k a zeroPayload) _
  case readPeer =>
    refine service_segmentOk h _ _ _ fun _ _ => segmentOk_ite (reply _ _ _ _) ?_
    split <;> exact reply _ _ _ _
  case restart =>
    exact service_segmentOk h _ _ _ fun _ a => segmentOk_ite
      (enterRestart_segmentOk (s := s.withSgi { s.sgi with restartOwed := some a }) (Sgi.okFor.of_same h rfl rfl rfl rfl))
      (reply _ _ _ _)
  case configureGroup => exact configured_segmentOk h _ _ (report_segmentOk h _) fun l => takeGroupFrame_segmentOk h l
  case configureClose =>
    exact configured_segmentOk h _ _ (segmentOk_ite h (report_segmentOk h _)) fun _ => enterRun_segmentOk h
  case undefinedConfigureGroup => exact configured_segmentOk h _ _ (report_segmentOk h _) fun _ => report_segmentOk h _
  case windowExpiry => exact segmentOk_ite (enterRun_segmentOk (s := s.markExpired true) h) h
  case brownOut => exact brownedOut_segmentOk h
  case reinitialisationComplete => exact segmentOk_ite (resumeRun_segmentOk (s := s.withMdc _) h) h
  case lastAlertRemoval | driveTimeExpiry | reliefTimeExpiry | safeDwellExpiry => exact segmentOk_ite h h
  case keyLineFallingEdge => exact h

end

/-- Settles O9: a command keeps list, bus state and counts, and a tick leaves them. -/
theorem stepKeepsTransmitList : Obligations.StepKeepsTransmitList := by
  intro s t list counts hstep
  have start : s.segmentOk := s.segmentOk_iff.2 ⟨list, counts⟩
  refine t.segmentOk_iff.1 ?_
  unfold step at hstep
  split at hstep
  · rename_i c l _
    exact exec_segmentOk (s := s.withPending l) start hstep
  · obtain rfl : t = s.tick := by simpa using hstep.symm
    exact segmentOk_ite (Sgi.okFor.of_same start rfl rfl rfl rfl) start

end Sys2Proof.Machine

/-! PROOF. The transmission of the list and the error confinement outside a hold (R170, R171, R174 to R178): the commands
replace the SGI, and what they place is a Declaration. -/

namespace Sys2Proof.Machine

/-! ## A Declaration placed -/

/-- The SGI with a Declaration of a node of number n placed, and its timer started again (R171). -/
def Sgi.declare (g : Sgi) (n : Nat) (data : List Byte) : Sgi :=
  { g.place { kind := .declaration, id := frameId n .declaration, data := data } with declarationTimer := 0 }

theorem replaceKind_kinds (f : TxFrame) (l : List TxFrame) :
    (replaceKind f l).map TxFrame.kind = l.map TxFrame.kind := by
  induction l with
  | nil => rfl
  | cons g l ih =>
    unfold replaceKind
    split
    case isTrue same => simp [same]
    case isFalse => simp [ih]

/-- The number of replies is one of the kinds alone. -/
theorem Sgi.replies_eq (g : Sgi) : g.replies = ((g.list.map TxFrame.kind).filter (· == .reply)).length := by
  rw [List.filter_map, List.length_map]
  rfl

theorem Sgi.replies_place (g : Sgi) {f : TxFrame} (other : f.kind ≠ .reply) : (g.place f).replies = g.replies := by
  unfold Sgi.place
  split
  · rw [Sgi.replies_eq, Sgi.replies_eq, replaceKind_kinds]
  · unfold Sgi.replies
    rw [((insertFrame_perm f g.list).filter _).length_eq, List.filter_cons_of_neg (by simpa using other)]

/-- Counts, bus state and replies of the one are those of the other, and an attempt ended stays ended. -/
structure Sgi.leaves (g k : Sgi) : Prop where
  tx : k.txErrors = g.txErrors
  rx : k.rxErrors = g.rxErrors
  bus : k.bus = g.bus
  recovery : k.recovery = g.recovery
  replies : k.replies = g.replies
  ended : g.inProgress = none → k.inProgress = none

theorem Sgi.leaves.refl (g : Sgi) : g.leaves g := ⟨rfl, rfl, rfl, rfl, rfl, id⟩

section
variable {g : Sgi} {n : Nat} {data : List Byte}

theorem Sgi.mem_declare : { kind := .declaration, id := frameId n .declaration, data := data } ∈ (g.declare n data).list :=
  Sgi.mem_place _ _

theorem Sgi.declare_leaves : g.leaves (g.declare n data) := by
  refine ⟨?_, ?_, Sgi.place_bus _ _, ?_, Sgi.replies_place g TxKind.noConfusion, fun none => ?_⟩
  all_goals
    unfold Sgi.declare Sgi.place
    split <;> simp [*]

end

section
variable {s : State}

/-- A Declaration is placed in RUN and SAFE, but in BUS OFF (R175). -/
theorem mayPlace_declaration (s : State) : s.mayPlace .declaration = true
    ↔ s.sgi.bus ≠ .off ∧ (s.mdc.mode = .run ∨ s.mdc.mode = .safe) := by
  unfold State.mayPlace
  rw [Bool.and_eq_true, bne_iff_ne]
  cases s.mdc.mode <;> simp

theorem placeDeclaration_placed (may : s.mayPlace .declaration = true) :
    s.placeDeclaration = s.withSgi (s.sgi.declare s.number (encodeDeclaration s.declared s.pad.asserted)) := by
  simp only [State.placeDeclaration, State.place, may, if_true]
  rfl

theorem placeDeclaration_refused (refused : s.mayPlace .declaration = false) : s.placeDeclaration = s := by
  simp [State.placeDeclaration, refused]

/-- A Declaration is formed from what the other blocks hold (R170). -/
theorem withSgi_placeDeclaration {g : Sgi} (bus : g.bus ≠ .off) (on : s.mdc.mode = .run ∨ s.mdc.mode = .safe) :
    (s.withSgi g).placeDeclaration
      = s.withSgi (g.declare s.number (encodeDeclaration s.declared s.pad.asserted)) :=
  placeDeclaration_placed ((mayPlace_declaration (s.withSgi g)).2 ⟨bus, on⟩)

theorem placeDeclaration_sgi (s : State) : s.placeDeclaration.sgi = s.sgi
    ∨ s.mayPlace .declaration = true ∧ ∃ data, s.placeDeclaration.sgi = s.sgi.declare s.number data := by
  cases may : s.mayPlace .declaration with
  | true => exact .inr ⟨rfl, _, congrArg State.sgi (placeDeclaration_placed may)⟩
  | false => exact .inl (congrArg State.sgi (placeDeclaration_refused may))

/-- A stored report leaves the SGI, or places a Declaration (R202). -/
theorem storeReport_sgi (s : State) (r : Report) : (s.storeReport r).sgi = s.sgi
    ∨ s.mayPlace .declaration = true ∧ ∃ data, (s.storeReport r).sgi = s.sgi.declare s.number data := by
  have written : (s.storeReport r).sgi = (s.writeRecord r).sgi := by
    unfold State.storeReport
    split <;> rfl
  rw [written]
  unfold State.writeRecord State.changeBanks
  dsimp only
  split
  · exact placeDeclaration_sgi _
  · exact .inl rfl

/-- A report outside a hold that is no second severe one does to the SGI what its storing does. -/
theorem report_sgi {r : Report} (h : s.calm) (first : s.secondSevere r = false) :
    (s.report r).sgi = (s.storeReport r).sgi := by
  unfold State.report State.answerCause State.handCompromise
  rw [first, if_neg (by decide)]
  split
  · rfl
  · exact (halRecompute_touches ((storeReport_touches s r).calm h)).keeps .sgi (by decide)

theorem report_leaves {r : Report} (h : s.calm) (first : s.secondSevere r = false) : s.sgi.leaves (s.report r).sgi := by
  rw [report_sgi h first]
  rcases storeReport_sgi s r with same | ⟨-, data, placed⟩
  · rw [same]
    exact .refl _
  · rw [placed]
    exact Sgi.declare_leaves

/-! ## The commands that replace the SGI -/

theorem exec_frameOffer {f : TxFrame} {l : List TxFrame} (joined : s.sgi.joined = true) (first : s.sgi.list = f :: l)
    (idle : s.sgi.inProgress = none) : exec .frameOffer s
      = .next (conclude s (s.withSgi { s.sgi with inProgress := some { frame := f, replaced := false } })) := by
  refine next_conclude s ?_
  show s.withSgi s.sgi.offer = _
  simp [Sgi.offer, first, joined, idle]

theorem Sgi.byCounts_eq (g : Sgi) : g.byCounts = if g.txErrors < 128 ∧ g.rxErrors < 128 then .active else .passive := by
  simp [Sgi.byCounts]

/-- Counts that fall bring no entry into ERROR PASSIVE (R177). -/
theorem count_falling {g : Sgi} (h : s.sgi.countsOk) (tx : g.txErrors ≤ s.sgi.txErrors)
    (rx : g.rxErrors ≤ s.sgi.rxErrors) : s.count g = s.withSgi { g with bus := g.byCounts } := by
  refine if_neg fun ⟨passive, active⟩ => ?_
  have low := h.1 active
  rw [Sgi.byCounts_eq, if_pos (by omega)] at passive
  exact Bus.noConfusion passive

theorem exec_transmitSuccess {x : Transmission} (joined : s.sgi.joined = true) (counts : s.sgi.countsOk)
    (attempt : s.sgi.inProgress = some x) : exec .transmitSuccess s = .next (conclude s (s.withSgi
      { s.sgi.sent x with
        txErrors := s.sgi.txErrors - 1
        bus := Sgi.byCounts { s.sgi.sent x with txErrors := s.sgi.txErrors - 1 } })) := by
  refine next_conclude s ?_
  rw [attempt]
  exact (if_pos joined).trans (count_falling counts (Nat.sub_le _ 1) (Nat.le_refl _))

theorem exec_declarationTimerExpiry (on : s.mdc.mode = .run ∨ s.mdc.mode = .safe)
    (time : ms 20 ≤ s.sgi.declarationTimer) : exec .declarationTimerExpiry s
      = .next (conclude s (s.withSgi { s.sgi with declarationTimer := 0 }).placeDeclaration) :=
  next_conclude s (if_pos (by simpa using ⟨on, time⟩))

/-- A steady state is one of CONFIG, SAFE and RUN. -/
theorem State.steady.modes (h : s.steady) : s.mdc.mode = .config ∨ s.mdc.mode = .run ∨ s.mdc.mode = .safe := by
  rcases h with config | ⟨safe, -⟩ | ⟨released, -⟩
  · exact .inl config
  · exact .inr (.inr safe)
  · exact .inr (.inl ((inPhase_iff s _).1 released).1)

end

/-- Settles O53: each command replaces the SGI alone. -/
theorem transmissionFollowsTheList : Obligations.TransmissionFollowsTheList := by
  refine ⟨fun s f l steady joined first idle => ?_, fun s steady => ?_, fun s x steady joined counts attempt => ?_,
    fun s steady outside time => ?_⟩
  · exact sgi_alone (.inl steady) (exec_frameOffer joined first idle)
  · exact sgi_alone (.inl steady) rfl
  · obtain ⟨t, run, sgi, keeps⟩ := sgi_alone (.inl steady) (exec_transmitSuccess joined counts attempt)
    refine ⟨t, run, ?_, ?_, ?_, keeps⟩ <;> rw [sgi]
    · exact ⟨rfl, rfl, rfl⟩
    · rfl
    · exact Sgi.byCounts_eq _
  · have on := steady.modes.resolve_left outside
    have expiry := exec_declarationTimerExpiry on time
    by_cases off : s.sgi.bus = .off
    · rw [placeDeclaration_refused (by simp [State.mayPlace, State.withSgi, off])] at expiry
      obtain ⟨t, run, sgi, keeps⟩ := sgi_alone (.inl steady) expiry
      refine ⟨t, run, ?_, fun on => absurd off on, fun _ => ?_, keeps⟩ <;> rw [sgi]
    · rw [withSgi_placeDeclaration (g := { s.sgi with declarationTimer := 0 }) off on] at expiry
      obtain ⟨t, run, sgi, keeps⟩ := sgi_alone (.inl steady) expiry
      refine ⟨t, run, ?_, fun _ => ?_, fun off' => absurd off' off, keeps⟩ <;> rw [sgi]
      · rfl
      · exact ⟨_, Sgi.mem_declare, rfl, rfl, rfl⟩

end Sys2Proof.Machine

/-! PROOF. The error counts and the bus state outside a hold (R175 to R178). -/

namespace Sys2Proof.Machine

section
variable {s : State} {g : Sgi}

theorem withSgi_touches (s : State) (g : Sgi) : s.touches (s.withSgi g) [.sgi] := ⟨withSgi_keeps s g, rfl, rfl, rfl⟩

/-! ## An SGI replaced and reported -/

/-- A report that is not severe, made with the SGI replaced, stores its record and leaves the new counts. -/
theorem withSgi_report {r : Report} (h : s.calm) (mild : r.severity ≠ .severe) (g : Sgi) :
    s.touches ((s.withSgi g).report r) [.hal, .hpc, .sgi, .frb]
      ∧ ((s.withSgi g).report r).frb = { s.frb with banks := s.frb.banks.store r.bank (s.complete r) }
      ∧ g.leaves ((s.withSgi g).report r).sgi := by
  have replaced := withSgi_touches s g
  have first : (s.withSgi g).secondSevere r = false := secondSevere_mild mild
  obtain ⟨told, frb⟩ := report_touches (replaced.calm h) first
  refine ⟨(replaced.trans told).mono (by decide), frb.trans ?_, report_leaves (replaced.calm h) first⟩
  rw [storeReport_mild mild, replaced.complete]
  rfl

/-- Counts changed outside a hold: the bus state as they give it, and the report of an entry into ERROR PASSIVE (R177). -/
theorem count_spec (h : s.calm) (g : Sgi) : s.touches (s.count g) [.hal, .hpc, .sgi, .frb]
    ∧ (s.count g).frb = { s.frb with
        banks := if s.sgi.bus = .active ∧ ¬ (g.txErrors < 128 ∧ g.rxErrors < 128) then
          s.frb.banks.store .link (s.complete errorPassiveReport) else s.frb.banks }
    ∧ Sgi.leaves { g with bus := g.byCounts } (s.count g).sgi := by
  have passive : (g.byCounts = .passive ∧ s.sgi.bus = .active)
      ↔ (s.sgi.bus = .active ∧ ¬ (g.txErrors < 128 ∧ g.rxErrors < 128)) := by
    rw [Sgi.byCounts_eq, and_comm]
    split <;> simp [*]
  by_cases entry : g.byCounts = .passive ∧ s.sgi.bus = .active
  · rw [show s.count g = (s.withSgi { g with bus := g.byCounts }).report errorPassiveReport from if_pos entry,
      if_pos (passive.1 entry)]
    exact withSgi_report h (by decide) _
  · rw [show s.count g = s.withSgi { g with bus := g.byCounts } from if_neg entry, if_neg (mt passive.2 entry)]
    exact ⟨(withSgi_touches s _).mono (by decide), rfl, .refl _⟩

/-! ## The commands -/

theorem exec_transmitError (joined : s.sgi.joined = true) (attempt : s.sgi.inProgress.isSome = true) :
    exec .transmitError s = .next (conclude s s.transmitFailed) :=
  next_conclude s (if_pos (by rw [joined, attempt]; rfl))

theorem transmitFailed_counts (low : s.sgi.txErrors + 8 ≤ 255) :
    s.transmitFailed = s.count { s.sgi with inProgress := none, txErrors := s.sgi.txErrors + 8 } := by
  have most : min 256 (s.sgi.txErrors + 8) = s.sgi.txErrors + 8 := by omega
  unfold State.transmitFailed
  rw [most]
  exact if_neg (Nat.not_lt.2 low)

/-- The SGI in BUS OFF after a transmit error (R175, R178). -/
def Sgi.gone (g : Sgi) : Sgi := { g.emptied with txErrors := 256, bus := .off, recovery := 0 }

theorem transmitFailed_gone (high : 247 < s.sgi.txErrors) :
    s.transmitFailed = (s.withSgi s.sgi.gone).report busOffReport := by
  have most : min 256 (s.sgi.txErrors + 8) = 256 := by omega
  unfold State.transmitFailed
  rw [most]
  exact if_pos (show 255 < 256 by decide)

theorem exec_receiveError (receives : s.receives = true) : exec .receiveError s
    = .next (conclude s (s.count { s.sgi with rxErrors := min 255 (s.sgi.rxErrors + 1) })) :=
  next_conclude s (if_pos receives)

theorem exec_successfulReception (receives : s.receives = true) : exec .successfulReception s
    = .next (conclude s (s.count { s.sgi with rxErrors := s.sgi.rxErrors - 1 })) :=
  next_conclude s (if_pos receives)

/-- In BUS OFF a report leaves the SGI: no Declaration is placed (R175). -/
theorem withSgi_report_off {r : Report} (h : s.calm) (mild : r.severity ≠ .severe) (off : g.bus = .off) :
    ((s.withSgi g).report r).sgi = g := by
  rw [report_sgi ((withSgi_touches s g).calm h) (secondSevere_mild mild)]
  refine (storeReport_sgi (s.withSgi g) r).resolve_right fun ⟨may, _⟩ => ?_
  exact ((mayPlace_declaration _).1 may).1 off

/-! ## Runs of recessive bits (R177, R178) -/

theorem exec_recessive_joins (stopped : s.sgi.bus = .stopped) (runs : s.controllerRuns = true) :
    exec .recessiveRun s = .next (conclude s (s.withSgi s.sgi.join)) := by
  refine next_conclude s ?_
  unfold State.recessive
  rw [stopped]
  exact if_pos runs

theorem exec_recessive_counts (off : s.sgi.bus = .off) (early : s.sgi.recovery < 127) :
    exec .recessiveRun s = .next (conclude s (s.withSgi { s.sgi with recovery := s.sgi.recovery + 1 })) := by
  refine next_conclude s ?_
  unfold State.recessive
  rw [off]
  exact if_neg (by omega)

theorem exec_recessive_joined (joined : s.sgi.bus = .active ∨ s.sgi.bus = .passive) :
    exec .recessiveRun s = .next (conclude s (s.withSgi s.sgi)) := by
  refine next_conclude s ?_
  unfold State.recessive
  rcases joined with bus | bus <;> rw [bus] <;> rfl

/-- The recovery from BUS OFF joins and, but in CONFIG, places a Declaration (R171, R178). -/
theorem exec_recessive_recovers (h : s.steady) (off : s.sgi.bus = .off) (late : 127 ≤ s.sgi.recovery) :
    ∃ g, exec .recessiveRun s = .next (conclude s (s.withSgi g)) ∧ s.sgi.join.leaves g
      ∧ (s.mdc.mode ≠ .config → ∃ f ∈ g.list, f.kind = .declaration) := by
  have run : exec .recessiveRun s = .next (conclude s (s.withSgi s.sgi.join).placeDeclaration) := by
    refine next_conclude s ?_
    unfold State.recessive
    rw [off]
    exact if_pos (by omega)
  by_cases config : s.mdc.mode = .config
  · rw [placeDeclaration_refused (by simp [State.mayPlace, State.withSgi, config])] at run
    exact ⟨_, run, .refl _, fun on => absurd config on⟩
  · rw [withSgi_placeDeclaration (g := s.sgi.join) nofun (h.modes.resolve_left config)] at run
    exact ⟨_, run, Sgi.declare_leaves, fun _ => ⟨_, Sgi.mem_declare, rfl⟩⟩

theorem State.steady.controllerRuns (h : s.steady) : s.controllerRuns = true := by
  rw [s.controllerRuns_eq]
  rcases h.modes with mode | mode | mode <;> rw [mode] <;> rfl

end

/-- Settles O54: the counts are changed with their report, and a run of recessive bits replaces the SGI alone. -/
theorem errorCountsDriveBusState : Obligations.ErrorCountsDriveBusState := by
  refine ⟨fun s c tx rx steady counts row => ?_, fun s steady joined attempt high => ?_, fun s steady => ?_⟩
  · obtain ⟨g, run, txErrors, rxErrors, ended⟩ : ∃ g : Sgi, exec c s = .next (conclude s (s.count g))
        ∧ g.txErrors = tx ∧ g.rxErrors = rx ∧ (c = .transmitError → g.inProgress = none) := by
      rcases row with ⟨rfl, joined, attempt, rfl, low, rfl⟩ | ⟨rfl, receives, rfl, rfl⟩ | ⟨rfl, receives, rfl, rfl⟩
      · exact ⟨_, (exec_transmitError joined attempt).trans (next_conclude s (transmitFailed_counts low)), rfl, rfl,
          fun _ => rfl⟩
      · exact ⟨_, exec_receiveError receives, rfl, rfl, nofun⟩
      · exact ⟨_, exec_successfulReception receives, rfl, rfl, nofun⟩
    obtain ⟨touches, frb, leaves⟩ := count_spec steady.calm g
    rw [Sgi.byCounts_eq] at leaves
    rw [txErrors, rxErrors] at frb leaves
    rw [run, touches.conclude steady (by decide)]
    exact ⟨_, rfl, ⟨leaves.tx, leaves.rx⟩, leaves.bus, frb,
      fun failed => leaves.ended (ended failed), touches.keeps_ended⟩
  · obtain ⟨touches, frb, -⟩ := withSgi_report (r := busOffReport) steady.calm (by decide) s.sgi.gone
    have sgi : ((s.withSgi s.sgi.gone).report busOffReport).sgi = s.sgi.gone :=
      withSgi_report_off steady.calm (by decide) rfl
    rw [exec_transmitError joined attempt, transmitFailed_gone high, touches.conclude steady (by decide)]
    refine ⟨_, rfl, ?_, frb, touches.keeps_ended⟩
    rw [State.drawn_sgi, State.lapse_sgi, sgi]
    exact ⟨rfl, rfl, rfl, rfl, show 255 < 256 by decide⟩
  · cases bus : s.sgi.bus with
    | stopped =>
      obtain ⟨t, run, sgi, keeps⟩ := sgi_alone (.inl steady) (exec_recessive_joins bus steady.controllerRuns)
      exact ⟨t, run, fun _ => sgi, nofun, nofun, by simp, keeps⟩
    | off =>
      by_cases early : s.sgi.recovery < 127
      · obtain ⟨t, run, sgi, keeps⟩ := sgi_alone (.inl steady) (exec_recessive_counts bus early)
        exact ⟨t, run, nofun, fun _ _ => sgi, fun _ late => absurd early (Nat.not_lt.2 late), by simp, keeps⟩
      · obtain ⟨g, recovered, joins, declared⟩ := exec_recessive_recovers steady bus (Nat.not_lt.1 early)
        obtain ⟨t, run, sgi, keeps⟩ := sgi_alone (.inl steady) recovered
        refine ⟨t, run, nofun, fun _ late => absurd late early, fun _ _ => ?_, by simp, keeps⟩
        rw [sgi]
        exact ⟨joins.bus, joins.tx, joins.rx, joins.recovery, declared⟩
    | active | passive =>
      obtain ⟨t, run, sgi, keeps⟩ := sgi_alone (.inl steady) (exec_recessive_joined (by simp [bus]))
      exact ⟨t, run, nofun, nofun, nofun, fun _ => sgi, keeps⟩

end Sys2Proof.Machine

/-! PROOF. Service requests outside a hold (R173, R181, R182): a request that finds room is answered by one reply in its place,
and one that finds three pending is reported. -/

namespace Sys2Proof.Machine

section
variable {s : State} {x a : Byte}

/-! ## Replies and requests -/

/-- The SGI with a service reply placed behind the earlier ones (R173, R181). -/
def Sgi.reply (g : Sgi) (n : Nat) (data : List Byte) : Sgi :=
  { g with list := insertFrame { kind := .reply, id := frameId n .reply, data := data } g.list }

theorem mayPlace_reply (receives : s.receives = true) : s.mayPlace .reply = true := by
  unfold State.receives at receives
  unfold State.mayPlace
  cases mode : s.mdc.mode <;> cases bus : s.sgi.bus <;> simp [mode, bus] at receives ⊢

theorem placeReply_placed (receives : s.receives = true) (r : ReplyCode) (payload : List Byte) :
    s.placeReply r x a payload
      = s.withSgi (s.sgi.reply s.number (byte (replyNumber r) :: x :: a :: payload)) :=
  if_pos (mayPlace_reply receives)

theorem service_answered (receives : s.receives = true) (room : s.sgi.replies < 3) {row : Byte → Bool}
    (taken : row x = true) (answer : Byte → Byte → State) : s.service s.number [x, a] row answer = answer x a := by
  simp [State.service, receives, taken, Nat.not_le.2 room]

/-- With three replies pending a request is discarded and reported (R181). -/
theorem service_overrun (receives : s.receives = true) (full : 3 ≤ s.sgi.replies) {row : Byte → Bool}
    (taken : row x = true) (answer : Byte → Byte → State) :
    s.service s.number [x, a] row answer = s.report overrunReport := by
  simp [State.service, receives, taken, full]

/-- A command whose request is answered by one reply places that and does nothing else. -/
theorem reply_alone {c : Instr} {row : Byte → Bool} {answer : Byte → Byte → State} {r : ReplyCode} {payload : List Byte}
    (h : s.steady) (receives : s.receives = true) (room : s.sgi.replies < 3)
    (run : exec c s = .next (conclude s (s.service s.number [x, a] row answer))) (taken : row x = true)
    (answered : answer x a = s.placeReply r x a payload) :
    ∃ t, exec c s = .next t ∧ t.sgi = s.sgi.reply s.number (byte (replyNumber r) :: x :: a :: payload)
      ∧ s.keeps t [.sgi] := by
  refine sgi_alone (.inl h) (run.trans (next_conclude s ?_))
  rw [service_answered receives room taken, answered, placeReply_placed receives]

/-! ## Arguments -/

theorem bankOfCode_eq_none_iff (n : Nat) : bankOfCode n = none ↔ 5 < n := by
  constructor
  · intro none
    by_contra low
    interval_cases n <;> simp [bankOfCode] at none
  · intro high
    unfold bankOfCode
    split
    case h_7 => rfl
    all_goals omega

theorem badPeer_of_range (bad : a.toNat % 16 = 0 ∨ 8 < a.toNat % 16 ∨ a.toNat % 16 = s.number ∨ a.toNat / 16 % 4 = 3) :
    s.badPeer a = true := by
  simp only [State.badPeer, field, Bool.or_eq_true, beq_iff_eq]
  rcases bad with h | h | h | h <;> simp [h]

/-- An argument in range names a peer and a part (R182). -/
theorem peerReply_in_range {n part : Nat} (low : 1 ≤ n) (high : n ≤ 8) (other : n ≠ s.number) (parts : part ≤ 2) :
    s.peerReply x (byte (n + 16 * part)) = s.placeReply .ok x (byte (n + 16 * part))
      ((entryFor n s.pvt.entries).elim zeroPayload (fun e => peerPayload e part)) := by
  have value : (byte (n + 16 * part)).toNat = n + 16 * part := by
    simp only [byte, BitVec.toNat_ofNat]
    omega
  have number : field (byte (n + 16 * part)) 0 4 = n := by
    simp only [field, value]
    omega
  have parted : field (byte (n + 16 * part)) 4 2 = part := by
    simp only [field, value]
    omega
  have rest : field (byte (n + 16 * part)) 6 2 = 0 := by
    simp only [field, value]
    omega
  have good : s.badPeer (byte (n + 16 * part)) = false := by
    simp only [State.badPeer, number, parted, rest]
    simp
    omega
  unfold State.peerReply
  rw [good, number, parted]
  cases entryFor n s.pvt.entries <;> rfl

/-! ## The rows -/

/-- The rows of the service requests, each with the command codes it takes. -/
theorem exec_service_row {c : Instr} (row : (x = 1 ∧ c = .readStatus s.number [x, a])
    ∨ (x = 2 ∧ c = .readBank s.number [x, a]) ∨ (x = 3 ∧ c = .clearBank s.number [x, a])
    ∨ (x = 4 ∧ c = .clearAll s.number [x, a]) ∨ (x = 5 ∧ c = .readPeer s.number [x, a])
    ∨ (x = 6 ∧ c = .restart s.number [x, a])
    ∨ ((x = 0 ∨ 6 < x.toNat) ∧ c = .undefinedServiceCommand s.number [x, a])) :
    ∃ taken answer, exec c s = .next (conclude s (s.service s.number [x, a] taken answer)) ∧ taken x = true := by
  rcases row with ⟨rfl, rfl⟩ | ⟨rfl, rfl⟩ | ⟨rfl, rfl⟩ | ⟨rfl, rfl⟩ | ⟨rfl, rfl⟩ | ⟨rfl, rfl⟩ | ⟨code, rfl⟩
  case inr.inr.inr.inr.inr.inr => exact ⟨_, _, rfl, by simpa using code⟩
  all_goals exact ⟨_, _, rfl, rfl⟩

end

/-- Settles O56: a request is answered by one reply, or reported. -/
theorem serviceRequestsAreAnswered : Obligations.ServiceRequestsAreAnswered := by
  refine ⟨fun s a steady receives room => ?_, fun s a steady receives room => ?_,
    fun s n part steady receives room ⟨low, high⟩ other parts => ?_, fun s a steady receives room bad => ?_,
    fun s x a steady receives room code => ?_, fun s c x a steady receives full row => ?_⟩
  · exact reply_alone (row := (· == 1#8)) (answer := fun x a => s.placeReply .ok x a s.statusPayload) steady receives
      room rfl rfl rfl
  · have range := bankOfCode_eq_none_iff a.toNat
    cases bank : bankOfCode a.toNat with
    | some b =>
      obtain ⟨t, run, sgi, keeps⟩ := reply_alone (x := 2) (a := a) (c := .readBank s.number [2, a])
        (row := (· == 2#8)) (answer := s.bankReply) (r := .ok) (payload := bankPayload (s.frb.banks.get b))
        steady receives room rfl rfl (by simp [State.bankReply, bank])
      refine ⟨t, run, fun b' same => ?_, nofun, bank ▸ range, keeps⟩
      obtain rfl : b = b' := by simpa using same
      exact sgi
    | none =>
      obtain ⟨t, run, sgi, keeps⟩ := reply_alone (x := 2) (a := a) (c := .readBank s.number [2, a])
        (row := (· == 2#8)) (answer := s.bankReply) (r := .badArgument) (payload := zeroPayload)
        steady receives room rfl rfl (by simp [State.bankReply, bank, State.badArgument])
      exact ⟨t, run, nofun, fun _ => sgi, bank ▸ range, keeps⟩
  · exact reply_alone (row := (· == 5#8)) (answer := s.peerReply) steady receives room rfl rfl
      (peerReply_in_range low high other parts)
  · exact reply_alone (row := (· == 5#8)) (answer := s.peerReply) steady receives room rfl rfl
      (if_pos (badPeer_of_range bad))
  · exact reply_alone (row := fun x => x == 0#8 || 6 < x.toNat) (answer := s.badArgument) steady receives room rfl
      (by simpa using code) rfl
  · obtain ⟨taken, answer, run, takes⟩ := exec_service_row row
    obtain ⟨told, frb⟩ := report_touches (r := overrunReport) steady.calm (secondSevere_mild (by decide))
    rw [run, service_overrun receives full takes, told.conclude steady (by decide)]
    exact ⟨_, rfl, frb.trans (storeReport_mild (by decide)),
      (report_leaves steady.calm (secondSevere_mild (by decide))).replies, told.keeps_ended⟩

end Sys2Proof.Machine

/-! PROOF. The settings, the mode order and the straps through every step (R184, R186 to R190, R196, R197): each elementary
move keeps the settings in their ranges, a frozen set as it is, and the modes in their order. -/

namespace Sys2Proof.Machine

/-! ## Settings in their ranges (R187, R188) -/

theorem within_ge {lo hi n : Nat} : lo ≤ within lo hi n := Nat.le_max_left _ _

theorem within_le {lo hi n : Nat} (h : lo ≤ hi) : within lo hi n ≤ hi := Nat.max_le.2 ⟨h, Nat.min_le_left _ _⟩

/-- A group's fields are taken at the nearest limits, and so lie in their ranges (R187). -/
theorem takeGroup_ok (g : Nat) (b2 b3 b4 b5 b6 b7 : Byte) {c : Settings} (h : c.ok) :
    (takeGroup g b2 b3 b4 b5 b6 b7 c).ok := by
  unfold takeGroup
  split
  case h_6 => exact h
  all_goals
    obtain ⟨nExp, circumference, gain, pMax, pPush, pStep, friction, margin, drumMargin, tSec, notice, interval, breach,
      velocity, lUnk, limit⟩ := h
    simp only [Settings.ok]
    simp [*, within_ge, within_le]

theorem Settings.reconciled_ok {c : Settings} (h : c.ok) : c.reconciled.ok := by
  unfold Settings.reconciled
  split
  · simp only [Settings.ok] at h ⊢
    omega
  · exact h

/-- In a reconciled set the breach threshold is at or above the first escalation point (R188). -/
theorem Settings.reconciled_ordered {c : Settings} (h : c.ok) :
    c.reconciled.noticeThreshold + c.reconciled.escalateInterval ≤ c.reconciled.breachThreshold := by
  unfold Settings.reconciled
  split
  · simp only [Settings.ok] at h
    dsimp only
    omega
  · omega

theorem Settings.reconciled_restartLimit (c : Settings) : c.reconciled.restartLimit = c.restartLimit := by
  unfold Settings.reconciled
  split <;> rfl

section
variable {s t : State}

/-- What leaves the MDC leaves `settingsOk`. -/
theorem State.settingsOk_of_same (mdc : t.mdc = s.mdc) (h : s.settingsOk) : t.settingsOk := by
  unfold State.settingsOk State.windowOpen
  rw [mdc]
  exact h

/-- Once INIT and the window are left behind, `settingsOk` says nothing more of the mode. -/
theorem State.settingsOk_of_left (settings : t.mdc.settings = s.mdc.settings) (frozen : t.mdc.frozen = s.mdc.frozen)
    (counter : t.mdc.restartCounter ≤ s.mdc.restartCounter) (left : t.mdc.mode ≠ .init ∧ t.mdc.mode ≠ .config)
    (h : s.settingsOk) : t.settingsOk := by
  obtain ⟨ok, ordered, limit, -⟩ := h
  refine ⟨settings ▸ ok, fun k => ?_, ?_, fun k => ?_⟩
  · rw [settings]
    exact ordered (frozen ▸ k)
  · rw [settings]
    exact counter.trans limit
  · simp [State.windowOpen, left] at k

theorem takeSettings_settingsOk (g : Nat) (b2 b3 b4 b5 b6 b7 : Byte) (opened : s.windowOpen = true) (h : s.settingsOk) :
    (s.takeSettings g b2 b3 b4 b5 b6 b7).settingsOk := by
  obtain ⟨ok, -, -, zero⟩ := h
  have counter : (s.takeSettings g b2 b3 b4 b5 b6 b7).mdc.restartCounter = 0 := zero (.inr opened)
  have thawed : s.mdc.frozen = false := by
    simp only [State.windowOpen, Bool.and_eq_true, Bool.not_eq_true'] at opened
    exact opened.2
  refine ⟨takeGroup_ok g b2 b3 b4 b5 b6 b7 ok, fun k => ?_, by simp [counter], fun _ => counter⟩
  exact absurd k (by simp [State.takeSettings, thawed])

theorem reconcile_settingsOk (h : s.settingsOk) : s.reconcile.settingsOk := by
  obtain ⟨ok, -, limit, zero⟩ := h
  exact ⟨Settings.reconciled_ok ok, fun _ => Settings.reconciled_ordered ok,
    limit.trans_eq (Settings.reconciled_restartLimit _).symm, zero⟩

theorem freeze_settingsOk (config : s.mdc.mode = .config) (settled : s.mdc.settings.reconciled = s.mdc.settings)
    (h : s.settingsOk) : s.freeze.settingsOk := by
  obtain ⟨ok, -, limit, -⟩ := h
  refine ⟨ok, fun _ => ?_, limit, fun k => ?_⟩
  · have ordered := Settings.reconciled_ordered ok
    rwa [settled] at ordered
  · simp [State.windowOpen, State.freeze, config] at k

/-- A restart cause is counted below the limit, and neither in INIT nor in the open window (R190). -/
theorem countUp_settingsOk (below : s.mdc.restartCounter < s.mdc.settings.restartLimit) (begun : s.mdc.mode ≠ .init)
    (closed : s.mdc.mode = .config → s.mdc.frozen = true) (h : s.settingsOk) : s.countUp.settingsOk := by
  obtain ⟨ok, ordered, -, -⟩ := h
  refine ⟨ok, ordered, below, fun k => ?_⟩
  rcases k with init | opened
  · exact absurd init begun
  · simp only [State.windowOpen, State.countUp, Bool.and_eq_true, Bool.not_eq_true', beq_iff_eq] at opened
    simp [closed opened.1] at opened

/-- Every elementary move keeps the settings in their ranges and the counter within its limit. -/
theorem Move.keeps_settingsOk {c : Instr} (s t : State) (m : Move c s t) (h : s.settingsOk) : t.settingsOk := by
  cases m with
  | mdc m hm hs hc hw hf hr =>
    unfold State.settingsOk State.windowOpen
    dsimp only
    rw [hm, hc, hf, hr]
    exact h
  | settings g b2 b3 b4 b5 b6 b7 opened => exact takeSettings_settingsOk g b2 b3 b4 b5 b6 b7 opened h
  | reconcile => exact reconcile_settingsOk h
  | freeze config settled => exact freeze_settingsOk config settled h
  | counted below begun closed => exact countUp_settingsOk below begun closed h
  | relieved run =>
    exact State.settingsOk_of_left (s := s) rfl rfl (Nat.sub_le _ _) (by simp [run]) h
  | power => simp [State.settingsOk, State.poweredOn, Mdc.initial, Settings.ok, Settings.default]
  | config init =>
    obtain ⟨ok, ordered, limit, zero⟩ := h
    exact ⟨ok, ordered, limit, fun _ => zero (.inl init)⟩
  | run config frozen => exact State.settingsOk_of_left (s := s) rfl rfl le_rfl ⟨Mode.noConfusion, Mode.noConfusion⟩ h
  | resumed | afresh | watch | wake | restart =>
    exact State.settingsOk_of_left (s := s) rfl rfl le_rfl ⟨Mode.noConfusion, Mode.noConfusion⟩ h
  | safe hold =>
    refine State.settingsOk_of_left (s := s) ?_ ?_ (le_of_eq ?_) ?_ h <;> simp [State.safeMode]
  | seenStationary safe =>
    exact State.settingsOk_of_left (s := s) rfl rfl le_rfl (by simp [State.seenStationary, safe]) h
  | _ => exact State.settingsOk_of_same (by simp) h

theorem tick_settingsOk (h : s.settingsOk) : s.tick.settingsOk := by
  unfold State.tick
  split <;> exact h

end

/-- Settles O10: every elementary move keeps the settings, and so do a command, which is a run of moves, and a tick. -/
theorem stepKeepsSettings : Obligations.StepKeepsSettings := by
  intro s t h hstep
  rcases step_cases s with ⟨c, l, u, -, hu, moves⟩ | ⟨-, htick⟩
  · obtain rfl : t = u := by simpa [hu] using hstep.symm
    have start : (s.withPending l).settingsOk := h
    exact moves.keeps Move.keeps_settingsOk start
  · obtain rfl : t = s.tick := by simpa [htick] using hstep.symm
    exact tick_settingsOk h

/-! ## Straps and written flags (R184, R187, R188) -/

/-- Every elementary move but a power-on keeps the latched straps. -/
theorem Move.keeps_straps {c : Instr} {straps : Option Straps} (stays : powersOn c = false) (s t : State) (m : Move c s t)
    (h : s.mdc.straps = straps) : t.mdc.straps = straps := by
  cases m with
  | mdc m hm hs => exact hs.trans h
  | power num0 num1 num2 spring pol key h => simp [h, powersOn] at stays
  | alert | declaration | rouse | owedReply | reply | record | safe => simpa [State.safeMode] using h
  | _ => exact h

/-- The set is frozen with these settings and written flags. -/
def State.sealedAt (k : Settings) (w : Written) (s : State) : Prop := s.frozenAt k ∧ s.mdc.written = w

/-- Every elementary move but a power-on keeps a frozen set, written flags included. -/
theorem Move.keeps_sealedAt {c : Instr} {k : Settings} {w : Written} (stays : powersOn c = false)
    (settled : k.reconciled = k) (s t : State) (m : Move c s t) (h : s.sealedAt k w) : t.sealedAt k w := by
  obtain ⟨frozen, written⟩ := h
  refine ⟨m.keeps_frozenAt stays settled s t frozen, ?_⟩
  cases m with
  | mdc m hm hs hc hw => exact hw.trans written
  | settings g b2 b3 b4 b5 b6 b7 hm => simp [State.windowOpen, frozen.1] at hm
  | power num0 num1 num2 spring pol key h => simp [h, powersOn] at stays
  | alert | declaration | rouse | owedReply | reply | record | safe => simpa [State.safeMode] using written
  | _ => exact written

/-- Settles O13: every elementary move keeps the straps, and a frozen set that is reconciled. -/
theorem frozenSettingsStay : Obligations.FrozenSettingsStay := by
  intro c s t stays ok run
  obtain ⟨-, ordered, -⟩ := ok
  obtain ⟨u, hu, moves⟩ := exec_moves c s
  obtain rfl : u = t := by simpa [hu] using run
  refine ⟨moves.keeps (Move.keeps_straps stays) rfl, fun frozen => ?_⟩
  obtain ⟨⟨still, settings⟩, written⟩ := moves.keeps
    (Move.keeps_sealedAt stays (reconciled_of_ordered (ordered frozen))) ⟨⟨frozen, rfl⟩, rfl⟩
  exact ⟨still, settings, written⟩

/-! ## The order of the modes (R184, R186, R196, R197) -/

/-- What a command may have made of the mode it began in: INIT and CONFIG are behind once left, and SAFE is left at a
rising edge of the key line. -/
structure Mode.leadsTo (c : Instr) (m n : Mode) : Prop where
  init : n = .init → m = .init
  config : n = .config → m = .init ∨ m = .config
  safe : m = .safe → n ≠ .safe → c = .keyLineEdge

theorem Mode.leadsTo.refl (c : Instr) (m : Mode) : Mode.leadsTo c m m := ⟨id, .inr, fun safe out => absurd safe out⟩

theorem Mode.leadsTo.trans {c : Instr} {m n o : Mode} (h : Mode.leadsTo c m n) (k : Mode.leadsTo c n o) :
    Mode.leadsTo c m o where
  init e := h.init (k.init e)
  config e := (k.config e).elim (fun init => .inl (h.init init)) h.config
  safe from_safe out := if still : n = .safe then k.safe still out else h.safe from_safe still

/-- One of the modes behind the window, entered from a mode other than SAFE. -/
theorem Mode.leadsTo.onward {c : Instr} {m n : Mode} (from_other : m ≠ .safe) (init : n ≠ .init) (config : n ≠ .config) :
    Mode.leadsTo c m n := ⟨fun e => absurd e init, fun e => absurd e config, fun e => absurd e from_other⟩

/-- Every elementary move but a power-on follows the order of the modes. -/
theorem Move.leadsTo {c : Instr} (stays : powersOn c = false) (s t : State) (m : Move c s t) :
    Mode.leadsTo c s.mdc.mode t.mdc.mode := by
  cases m with
  | mdc m hm => exact hm ▸ .refl c _
  | power num0 num1 num2 spring pol key h => simp [h, powersOn] at stays
  | config init => exact ⟨fun _ => init, fun _ => .inl init, fun safe => by simp [init] at safe⟩
  | run from_config => exact .onward (by simp [from_config]) Mode.noConfusion Mode.noConfusion
  | resumed r restart | afresh restart => exact .onward (by simp [restart]) Mode.noConfusion Mode.noConfusion
  | watch secured => exact .onward (by simp [inHold_mode (inHold_of_inPhase secured rfl)]) Mode.noConfusion Mode.noConfusion
  | wake parked watch => exact .onward (by simp [watch]) Mode.noConfusion Mode.noConfusion
  | restart resume a hi hr key => exact ⟨Mode.noConfusion, Mode.noConfusion, fun safe _ => key safe⟩
  | safe hold => exact ⟨by simp [State.safeMode], by simp [State.safeMode], by simp [State.safeMode]⟩
  | declaration | alert | rouse | owedReply | reply | record => simpa using Mode.leadsTo.refl c s.mdc.mode
  | _ => exact .refl c _

/-- Settles O14: every elementary move but a power-on follows the order of the modes, and so does a run of them. -/
theorem modesFollowTheirOrder : Obligations.ModesFollowTheirOrder := by
  intro c s t stays run
  obtain ⟨u, hu, moves⟩ := exec_moves c s
  obtain rfl : u = t := by simpa [hu] using run
  obtain ⟨init, config, safe⟩ := moves.keeps (P := fun x => Mode.leadsTo c s.mdc.mode x.mdc.mode)
    (fun x y m h => h.trans (m.leadsTo stays)) (.refl c _)
  exact ⟨init, config, safe⟩

end Sys2Proof.Machine

/-! PROOF. What stays on the transmit list through placements (R173, R174): a frame of one kind through placements of other
kinds, and a frame of its kind through every placement. -/

namespace Sys2Proof.Machine

/-! ## Frames that stay -/

/-- Every pending frame of a kind is still pending. -/
def Sgi.retains (k : TxKind) (g h : Sgi) : Prop := ∀ f ∈ g.list, f.kind = k → f ∈ h.list

/-- A frame of a kind is pending. -/
def Sgi.lists (g : Sgi) (k : TxKind) : Prop := ∃ f ∈ g.list, f.kind = k

section
variable {k : TxKind} {g h i : Sgi} {f : TxFrame} {s : State}

theorem Sgi.retains.refl (k : TxKind) (g : Sgi) : g.retains k g := fun _ mem _ => mem

theorem Sgi.retains.trans (a : g.retains k h) (b : h.retains k i) : g.retains k i :=
  fun f mem kind => b f (a f mem kind) kind

theorem Sgi.retains.lists (a : g.retains k h) (b : g.lists k) : h.lists k := by
  obtain ⟨f, mem, kind⟩ := b
  exact ⟨f, a f mem kind, kind⟩

theorem mem_replaceKind_other {x : TxFrame} {l : List TxFrame} (mem : x ∈ l) (other : x.kind ≠ f.kind) :
    x ∈ replaceKind f l := by
  induction l with
  | nil => simp at mem
  | cons y l ih =>
    unfold replaceKind
    split
    case isTrue same =>
      rcases List.mem_cons.1 mem with rfl | later
      · exact absurd same other
      · exact List.mem_cons_of_mem f later
    case isFalse =>
      rcases List.mem_cons.1 mem with rfl | later
      · exact List.mem_cons_self
      · exact List.mem_cons_of_mem y (ih later)

/-- A placement replaces no frame of another kind, and a service reply replaces none (R173, R181). -/
theorem Sgi.place_retains (other : f.kind ≠ k ∨ f.kind = .reply) : g.retains k (g.place f) := by
  intro x mem kind
  unfold Sgi.place
  split
  case isTrue replaces =>
    have different : f.kind ≠ k := other.resolve_right fun reply => by simp [reply] at replaces
    exact mem_replaceKind_other mem (by rw [kind]; exact different.symm)
  case isFalse => exact (insertFrame_perm f g.list).mem_iff.2 (List.mem_cons_of_mem f mem)

theorem Sgi.lists_iff : g.lists k ↔ k ∈ g.list.map TxFrame.kind := by simp [Sgi.lists]

/-- A placement takes no kind of frame off the list, and adds its own (R173). -/
theorem Sgi.lists_place : (g.place f).lists k ↔ f.kind = k ∨ g.lists k := by
  rw [Sgi.lists_iff, Sgi.lists_iff]
  unfold Sgi.place
  split
  case isTrue replaces =>
    rw [replaceKind_kinds]
    refine ⟨.inr, fun held => held.elim (fun same => ?_) id⟩
    simp only [Bool.and_eq_true, Sgi.has, List.any_eq_true, beq_iff_eq] at replaces
    obtain ⟨-, x, mem, kind⟩ := replaces
    exact List.mem_map.2 ⟨x, mem, kind.trans same⟩
  case isFalse =>
    rw [((insertFrame_perm f g.list).map TxFrame.kind).mem_iff]
    simp [eq_comm]

/-! ## Placements of the state -/

theorem place_retains {j : TxKind} (other : j ≠ k ∨ j = .reply) (data : List Byte) :
    s.sgi.retains k (s.place j data).sgi := by
  unfold State.place
  split
  · exact Sgi.place_retains other
  · exact .refl k s.sgi

theorem placeDeclaration_retains (other : k ≠ .declaration) : s.sgi.retains k s.placeDeclaration.sgi := by
  unfold State.placeDeclaration
  split
  · exact place_retains (.inl other.symm) _
  · exact .refl k s.sgi

/-- A Declaration adds no frame of another kind. -/
theorem placeDeclaration_lists (other : k ≠ .declaration) : s.placeDeclaration.sgi.lists k ↔ s.sgi.lists k := by
  rcases placeDeclaration_sgi s with same | ⟨-, data, placed⟩
  · rw [same]
  · rw [placed]
    exact Sgi.lists_place.trans (or_iff_right other.symm)

theorem placeAlert_retains (other : k ≠ .alert) (cause : AlertCause) (level : Nat) (creep : Int) :
    s.sgi.retains k (s.placeAlert cause level creep).sgi := by
  unfold State.placeAlert
  split
  · exact .refl k s.sgi
  · exact place_retains (.inl other.symm) _

theorem placeOwedReply_retains (k : TxKind) : s.sgi.retains k s.placeOwedReply.sgi := by
  unfold State.placeOwedReply
  split
  · exact .refl k s.sgi
  · exact place_retains (.inr rfl) _

/-- A report stored places at most a Declaration (R202). -/
theorem storeReport_retains (other : k ≠ .declaration) (r : Report) : s.sgi.retains k (s.storeReport r).sgi := by
  rcases storeReport_sgi s r with same | ⟨-, data, placed⟩
  · rw [same]
    exact .refl k s.sgi
  · rw [placed]
    exact Sgi.place_retains (.inl other.symm)

theorem storeReport_lists (other : k ≠ .declaration) (r : Report) : (s.storeReport r).sgi.lists k ↔ s.sgi.lists k := by
  rcases storeReport_sgi s r with same | ⟨-, data, placed⟩
  · rw [same]
  · rw [placed]
    exact Sgi.lists_place.trans (or_iff_right other.symm)

/-- A report stored takes no kind of frame off the list. -/
theorem storeReport_still_lists (held : s.sgi.lists k) (r : Report) : (s.storeReport r).sgi.lists k := by
  rcases storeReport_sgi s r with same | ⟨-, data, placed⟩
  · rwa [same]
  · rw [placed]
    exact Sgi.lists_place.2 (.inr held)

/-- A Declaration is placed in RUN and SAFE, but in BUS OFF (R171, R175). -/
theorem placeDeclaration_mem (on : s.mdc.mode = .run ∨ s.mdc.mode = .safe) (bus : s.sgi.bus ≠ .off) :
    ∃ f ∈ s.placeDeclaration.sgi.list, f.kind = .declaration ∧ f.id = frameId s.number .declaration := by
  rw [placeDeclaration_placed ((mayPlace_declaration s).2 ⟨bus, on⟩)]
  exact ⟨_, Sgi.mem_declare, rfl, rfl⟩

/-- In RUN and SAFE every kind of frame may be placed, but in BUS OFF (R175). -/
theorem mayPlace_awake (on : s.mdc.mode = .run ∨ s.mdc.mode = .safe) (bus : s.sgi.bus ≠ .off) (k : TxKind) :
    s.mayPlace k = true := by
  rcases on with mode | mode <;> simp [State.mayPlace, bus, mode]

/-- An Alert that finds none pending is placed (R172, R173). -/
theorem placeAlert_mem (on : s.mdc.mode = .run ∨ s.mdc.mode = .safe) (bus : s.sgi.bus ≠ .off)
    (free : ¬ s.sgi.lists .alert) (cause : AlertCause) (level : Nat) (creep : Int) :
    ∃ f ∈ (s.placeAlert cause level creep).sgi.list, f.kind = .alert ∧ f.data = encodeAlert cause level creep := by
  have yields : s.sgi.keepsAlert = false := by
    simp only [Sgi.keepsAlert, List.any_eq_false]
    intro f mem held
    simp only [Bool.and_eq_true, beq_iff_eq] at held
    exact free ⟨f, mem, held.1⟩
  have placed : (s.placeAlert cause level creep).sgi
      = s.sgi.place { kind := .alert, id := frameId s.number .alert, data := encodeAlert cause level creep } := by
    simp [State.placeAlert, yields, State.place, mayPlace_awake on bus]
  rw [placed]
  exact ⟨_, Sgi.mem_place _ _, rfl, rfl⟩

/-- An Alert that gives way leaves the list to a pending one of cause breach or insufficient (R173). -/
theorem placeAlert_gives_way {cause : AlertCause} (yields : cause.givesWay = true) (mem : f ∈ s.sgi.list)
    (kind : f.kind = .alert) (urgent : f.data.head? = some 1#8 ∨ f.data.head? = some 2#8) (level : Nat) (creep : Int) :
    s.placeAlert cause level creep = s := by
  have kept : s.sgi.keepsAlert = true := by
    simp only [Sgi.keepsAlert, List.any_eq_true]
    exact ⟨f, mem, by rcases urgent with e | e <;> rw [kind, e] <;> rfl⟩
  simp [State.placeAlert, yields, kept]

end

end Sys2Proof.Machine

/-! PROOF. SAFE (R127, R165, R172, R183, R196, R201): what an entry leaves and places, in whatever order it goes with its
report, and the one condition that SAFE acts on, the first moment at which the vehicle is seen stationary. -/

namespace Sys2Proof.Machine

/-! ## Line, frames and records -/

/-- All but the line, the frames and the records stands as it was. -/
structure State.signals (s t : State) : Prop where
  wmt : t.wmt = s.wmt
  csu : t.csu = s.csu
  glu : t.glu = s.glu
  pvt : t.pvt = s.pvt
  vir : t.vir = s.vir
  hal : t.hal = s.hal
  hpc : t.hpc = s.hpc
  cpr : t.cpr = s.cpr
  mdc : t.mdc = s.mdc
  pending : t.pending = s.pending

section
variable {s t u : State}

theorem State.signals.refl (s : State) : s.signals s := ⟨rfl, rfl, rfl, rfl, rfl, rfl, rfl, rfl, rfl, rfl⟩

theorem State.signals.trans (h : s.signals t) (k : t.signals u) : s.signals u where
  wmt := k.wmt.trans h.wmt
  csu := k.csu.trans h.csu
  glu := k.glu.trans h.glu
  pvt := k.pvt.trans h.pvt
  vir := k.vir.trans h.vir
  hal := k.hal.trans h.hal
  hpc := k.hpc.trans h.hpc
  cpr := k.cpr.trans h.cpr
  mdc := k.mdc.trans h.mdc
  pending := k.pending.trans h.pending

theorem State.signals.keeps (h : s.signals t) : s.keeps t [.pad, .sgi, .frb] := by
  intro b other
  cases b
  case wmt => exact h.wmt
  case csu => exact h.csu
  case glu => exact h.glu
  case pvt => exact h.pvt
  case vir => exact h.vir
  case hal => exact h.hal
  case hpc => exact congrArg Hpc.lasting h.hpc
  case cpr => exact h.cpr
  case mdc => exact congrArg Mdc.lasting h.mdc
  case queue => exact h.pending
  all_goals simp at other

theorem State.signals.vehicleStationary (h : s.signals t) : t.vehicleStationary = s.vehicleStationary := by
  unfold State.vehicleStationary State.peersStationary
  rw [h.wmt, h.pvt]

theorem judgeLine_signals (s : State) : s.signals s.judgeLine := ⟨rfl, rfl, rfl, rfl, rfl, rfl, rfl, rfl, rfl, rfl⟩

theorem storeReport_signals (s : State) (r : Report) : s.signals (s.storeReport r) := by constructor <;> simp

theorem lineAtEntry_signals (s : State) : s.signals s.lineAtEntry := by
  unfold State.lineAtEntry
  split
  · exact (judgeLine_signals s).trans (storeReport_signals _ _)
  · exact judgeLine_signals s

theorem lineAtEntry_pad (s : State) : s.lineAtEntry.pad = s.pad.judge s.spring := by
  unfold State.lineAtEntry
  split
  · exact State.storeReport_pad _ _
  · rfl

/-- A line that finds nothing to assert, or a sensor in range, is judged alone (R153). -/
theorem lineAtEntry_quiet (quiet : s.lineTimesOut = false) : s.lineAtEntry = s.judgeLine := by
  simp [State.lineAtEntry, quiet]

theorem lineAtEntry_retains {k : TxKind} (other : k ≠ .declaration) : s.sgi.retains k s.lineAtEntry.sgi := by
  unfold State.lineAtEntry
  split
  · exact storeReport_retains (s := s.judgeLine) other _
  · exact .refl k s.sgi

theorem lineAtEntry_lists {k : TxKind} (other : k ≠ .declaration) : s.lineAtEntry.sgi.lists k ↔ s.sgi.lists k := by
  unfold State.lineAtEntry
  split
  · exact storeReport_lists (s := s.judgeLine) other _
  · exact .rfl

theorem lineAtEntry_still_lists {k : TxKind} (held : s.sgi.lists k) : s.lineAtEntry.sgi.lists k := by
  unfold State.lineAtEntry
  split
  · exact storeReport_still_lists (s := s.judgeLine) held _
  · exact held

theorem lineAtEntry_bus (s : State) : s.lineAtEntry.sgi.bus = s.sgi.bus := by
  unfold State.lineAtEntry
  split <;> simp

theorem safeFrames_signals (s : State) (left : Mode) : s.signals (s.safeFrames left) := by
  constructor <;> unfold State.safeFrames <;> dsimp only <;> split <;> simp

theorem safeFrames_pad (s : State) (left : Mode) : (s.safeFrames left).pad = s.pad := by
  unfold State.safeFrames
  dsimp only
  split <;> simp

/-! ## In SAFE -/

section
variable (safe : s.mdc.mode = .safe)
include safe

theorem answerCause_safe (cause : Bool) : s.answerCause cause = s := by
  cases cause <;> simp [State.answerCause, State.safeCause, State.enterSafe, safe]

/-- In SAFE a report is stored, and nothing comes of it (R78, R196). -/
theorem report_safe (r : Report) : s.report r = s.storeReport r := by
  have still : (s.storeReport r).mdc.mode = .safe := by simpa using safe
  have handed : (s.storeReport r).handCompromise s.frb.banks.holdCompromised = s.storeReport r := by
    unfold State.handCompromise
    rw [halRecompute_idle (.inl (by rw [still]; exact Mode.noConfusion)), ite_self]
  unfold State.report
  rw [handed, answerCause_safe still]

theorem reportBasic_safe (r : Report) : s.reportBasic r = s.storeReport r :=
  answerCause_safe (s := s.storeReport r) (by simpa using safe) _

/-- In SAFE the HPC does not act on an assertion that times out at once (R158). -/
theorem line_safe : s.line = s.lineAtEntry := by
  unfold State.line State.lineAtEntry State.confirmTimedOut
  rw [report_safe (s := s.judgeLine) safe]
  have still : (s.judgeLine.storeReport confirmTimeoutReport).handoverFails
      = s.judgeLine.storeReport confirmTimeoutReport := by
    unfold State.handoverFails
    split
    · simp [State.inPhase, safe]
    · rfl
  rw [still]

theorem reactSafe_eq : s.reactSafe
    = if s.vehicleStationary && !s.mdc.safeStationary then s.seenStationary.lineAtEntry else s := by
  unfold State.reactSafe
  rw [line_safe (s := s.seenStationary) safe]

theorem reactSafe_mode : s.reactSafe.mdc.mode = .safe := by
  rw [reactSafe_eq safe]
  split
  · rw [lineAtEntry_mode]
    exact safe
  · exact safe

/-- The vehicle is seen stationary once (R165). -/
theorem reactSafe_again : s.reactSafe.reactSafe = s.reactSafe := by
  rw [reactSafe_eq (reactSafe_mode safe), reactSafe_eq safe]
  split
  case isTrue =>
    have seen : s.seenStationary.lineAtEntry.mdc.safeStationary = true := by rw [lineAtEntry_mode]; rfl
    simp [seen]
  case isFalse other => rfl

/-- The end of a command in SAFE. -/
theorem conclude_safe (before : State) : conclude before s = s.reactSafe.lapse.drawn := by
  have once (x : State) (h : x.mdc.mode = .safe) : State.react before x = x.reactSafe := by simp [State.react, h]
  unfold conclude
  rw [show reactFor before rounds s = reactFor before 7 (State.react before s) from rfl, once s safe,
    reactFor_fixed ((once _ (reactSafe_mode safe)).trans (reactSafe_again safe))]

/-- What stands in SAFE once a command has ended, from the state `s` that the command left. -/
structure State.restsSafe (s t : State) : Prop where
  wmt : t.wmt = s.wmt
  csu : t.csu = s.csu
  glu : t.glu = s.glu
  pvt : t.pvt = s.pvt
  cpr : t.cpr = s.cpr
  mdc : t.mdc.lasting = { s.mdc.lasting with safeStationary := s.vehicleStationary || s.mdc.safeStationary }
  pad : t.pad = if s.vehicleStationary && !s.mdc.safeStationary then
    { s.pad with mdcRequest := true }.judge s.spring else s.pad
  spares : s.sparesNode t
  bus : t.sgi.bus = s.sgi.bus
  retains : ∀ k, k ≠ .declaration → s.sgi.retains k t.sgi
  lists : ∀ k, s.sgi.lists k → t.sgi.lists k

theorem reactSafe_rests (before : State) : s.restsSafe (conclude before s) := by
  rw [conclude_safe safe, reactSafe_eq safe]
  have ended (x : State) (h : x.mdc.mode = .safe) : x.lapse.drawn.hpc = x.hpc := by
    show x.lapsedTimes = x.hpc
    simp [State.lapsedTimes, h]
  cases seen : s.vehicleStationary && !s.mdc.safeStationary with
  | false =>
    refine ⟨rfl, rfl, rfl, rfl, rfl, ?_, by simp [seen], ⟨⟨rfl, congrArg Hpc.last (ended s safe), rfl⟩, rfl, id⟩, rfl,
      fun k _ => .refl k _, fun k => id⟩
    have idle : (s.vehicleStationary || s.mdc.safeStationary) = s.mdc.safeStationary := by
      cases v : s.vehicleStationary <;> simp_all
    rw [idle]
    rfl
  | true =>
    simp only [Bool.and_eq_true, Bool.not_eq_true'] at seen
    have told := lineAtEntry_signals s.seenStationary
    have spared := lineAtEntry_sparesNode s.seenStationary
    have still : s.seenStationary.lineAtEntry.mdc.mode = .safe := by rw [lineAtEntry_mode]; exact safe
    have last : s.seenStationary.lineAtEntry.lapse.drawn.hpc = s.hpc := (ended _ still).trans told.hpc
    refine ⟨told.wmt, told.csu, told.glu, told.pvt, told.cpr, ?_, ?_,
      ⟨⟨spared.result, congrArg Hpc.last last, spared.counter⟩, spared.node, spared.response⟩, lineAtEntry_bus _,
      fun k other => lineAtEntry_retains (s := s.seenStationary) other,
      fun k held => lineAtEntry_still_lists (s := s.seenStationary) held⟩
    · rw [seen.1]
      exact congrArg Mdc.lasting told.mdc
    · simp only [seen, Bool.not_false, Bool.and_self, if_true]
      exact lineAtEntry_pad s.seenStationary

end

/-! ## Entry to SAFE (R196) -/

/-- The blocks and requests with which SAFE is entered. -/
def State.safeStart (s : State) : State := s.startSafe s.holdAtSafe s.mdc.mode

theorem safeStart_mode (s : State) : s.safeStart.mdc.mode = .safe := by
  unfold State.safeStart
  rw [State.startSafe_mdc]
  rfl

theorem safeStart_spring (s : State) : s.safeStart.spring = s.spring := by
  unfold State.safeStart State.spring
  rw [State.startSafe_mdc]
  rfl

/-- The MDC requests the line for a hold; the HPC's request lapses (R127, R165). -/
theorem safeStart_requests (s : State) :
    s.safeStart.pad.hpcRequest = .lapsed ∧ s.safeStart.pad.mdcRequest = s.holdAtSafe := by
  unfold State.safeStart State.startSafe State.safeBlocks
  split
  · split <;> exact ⟨rfl, rfl⟩
  all_goals exact ⟨rfl, rfl⟩

/-- The CPR enters pass-through (R127). -/
theorem safeStart_cpr (s : State) :
    s.safeStart.cpr.regulating = false ∧ s.safeStart.cpr.valves = .passThrough := by
  unfold State.safeStart State.startSafe State.safeBlocks
  split
  · split <;> exact ⟨rfl, rfl⟩
  all_goals exact ⟨rfl, rfl⟩

/-- The state with other frames and records. -/
def State.retold (s : State) (g : Sgi) (f : Frb) (x : Free) (d : Nat) : State :=
  { s with sgi := g, frb := f, free := x, draw := d }

theorem State.signals.eq_retold (h : s.signals t) (pad : t.pad = s.pad) : t = s.retold t.sgi t.frb t.free t.draw := by
  obtain ⟨wmt, csu, glu, pvt, vir, hal, hpc, cpr, mdc, pending⟩ := h
  cases t
  simp only at *
  subst_vars
  rfl

theorem retold_startSafe (s : State) (g : Sgi) (f : Frb) (x : Free) (d : Nat) (hold : Bool) (left : Mode) :
    (s.startSafe hold left).signals ((s.retold g f x d).startSafe hold left)
      ∧ ((s.retold g f x d).startSafe hold left).pad = (s.startSafe hold left).pad := by
  cases left
  case init =>
    unfold State.startSafe State.safeBlocks
    have same : ((s.retold g f x d).safeMode hold).mdc.refStable = (s.safeMode hold).mdc.refStable := rfl
    dsimp only
    rw [same]
    split <;> exact ⟨⟨rfl, rfl, rfl, rfl, rfl, rfl, rfl, rfl, rfl, rfl⟩, rfl⟩
  all_goals exact ⟨⟨rfl, rfl, rfl, rfl, rfl, rfl, rfl, rfl, rfl, rfl⟩, rfl⟩

/-- Frames and records have no part in the entry. -/
theorem State.signals.safeStart (h : s.signals t) (pad : t.pad = s.pad) :
    s.safeStart.signals t.safeStart ∧ t.safeStart.pad = s.safeStart.pad := by
  rw [h.eq_retold pad]
  exact retold_startSafe s _ _ _ _ _ _

end

end Sys2Proof.Machine

/-! PROOF. An entry to SAFE with the report it goes with, and the end of its command (R171, R172, R183, R196, R201). -/

namespace Sys2Proof.Machine

/-! ## Frames of the entry (R171 to R173, R180, R183) -/

section
variable {s t u : State}

/-- The Alert of cause SAFE entered carries node level and own creep (R172). -/
def State.safeAlert (s : State) : List Byte :=
  encodeAlert .safeEntered s.csu.nodeLevel (if s.csu.ownValid then s.csu.own else 0)

/-- The frames placed ahead of the Alert: a Rouse on leaving WATCH, and the Declaration. -/
def State.safeDeclared (s : State) (left : Mode) : State := (if left = .watch then s.placeRouse else s).placeDeclaration

theorem safeFrames_eq (s : State) (left : Mode) : s.safeFrames left
    = ((s.safeDeclared left).placeAlert .safeEntered s.csu.nodeLevel
        (if s.csu.ownValid then s.csu.own else 0)).placeOwedReply := by
  have csu : (s.safeDeclared left).csu = s.csu := by
    unfold State.safeDeclared
    split <;> simp
  rw [← csu]
  rfl

theorem safeDeclared_mdc (s : State) (left : Mode) : (s.safeDeclared left).mdc = s.mdc := by
  unfold State.safeDeclared
  split <;> simp

theorem safeDeclared_bus (s : State) (left : Mode) : (s.safeDeclared left).sgi.bus = s.sgi.bus := by
  unfold State.safeDeclared
  split <;> simp [State.placeRouse]

theorem safeDeclared_retains (s : State) (left : Mode) : s.sgi.retains .alert (s.safeDeclared left).sgi := by
  unfold State.safeDeclared
  split
  · exact (place_retains (.inl TxKind.noConfusion) _).trans (placeDeclaration_retains TxKind.noConfusion)
  · exact placeDeclaration_retains TxKind.noConfusion

theorem placeRouse_lists {k : TxKind} (other : k ≠ .rouse) : s.placeRouse.sgi.lists k ↔ s.sgi.lists k := by
  unfold State.placeRouse State.place
  split
  · exact Sgi.lists_place.trans (or_iff_right other.symm)
  · exact .rfl

theorem safeDeclared_lists (s : State) (left : Mode) : (s.safeDeclared left).sgi.lists .alert ↔ s.sgi.lists .alert := by
  unfold State.safeDeclared
  rw [placeDeclaration_lists TxKind.noConfusion]
  split
  · exact placeRouse_lists TxKind.noConfusion
  · exact .rfl

theorem safeFrames_bus (s : State) (left : Mode) : (s.safeFrames left).sgi.bus = s.sgi.bus := by
  rw [safeFrames_eq, State.placeOwedReply_bus, State.placeAlert_bus, safeDeclared_bus]

/-- What an entry to SAFE puts on the list `g`, and what it leaves there of Alerts that do not give way. -/
structure State.alertsSafe (s : State) (g : Sgi) : Prop where
  declares : s.sgi.bus ≠ .off → g.lists .declaration
  alerts : s.sgi.bus ≠ .off → ¬ s.sgi.lists .alert → ∃ f ∈ g.list, f.kind = .alert ∧ f.data = s.safeAlert
  urgent : ∀ f ∈ s.sgi.list, f.kind = .alert → f.data.head? = some 1#8 ∨ f.data.head? = some 2#8 → f ∈ g.list

theorem safeFrames_alerts (safe : s.mdc.mode = .safe) (left : Mode) : s.alertsSafe (s.safeFrames left).sgi := by
  have mode : (s.safeDeclared left).mdc.mode = .safe := by rw [safeDeclared_mdc, safe]
  have bus := safeDeclared_bus s left
  rw [safeFrames_eq]
  refine ⟨fun on => ?_, fun on none => ?_, fun f mem kind urgent => ?_⟩
  · refine (placeOwedReply_retains _).lists ((placeAlert_retains TxKind.noConfusion _ _ _).lists ?_)
    unfold State.safeDeclared
    obtain ⟨f, mem, kind, -⟩ := placeDeclaration_mem (s := if left = .watch then s.placeRouse else s)
      (.inr (by split <;> simpa using safe)) (by split <;> simpa [State.placeRouse] using on)
    exact ⟨f, mem, kind⟩
  · obtain ⟨f, mem, kind, data⟩ := placeAlert_mem (.inr mode) (bus ▸ on)
      (fun held => none ((safeDeclared_lists s left).1 held)) .safeEntered s.csu.nodeLevel
      (if s.csu.ownValid then s.csu.own else 0)
    exact ⟨f, placeOwedReply_retains _ f mem kind, kind, data⟩
  · have held := safeDeclared_retains s left f mem kind
    rw [placeAlert_gives_way rfl held kind urgent]
    exact placeOwedReply_retains _ f held kind

/-! ## The entry and its report -/

/-- The state `u` is `s` with an entry to SAFE and its frames, and with what reports may have added. -/
structure State.entersSafe (s u : State) : Prop where
  signals : s.safeStart.signals u
  pad : u.pad = s.safeStart.pad.judge s.spring
  alerts : s.alertsSafe u.sgi
  bus : u.sgi.bus = s.sgi.bus

theorem safeStart_list (s : State) : s.safeStart.sgi.list = s.sgi.list ∧ s.safeStart.sgi.bus = s.sgi.bus := by
  unfold State.safeStart State.startSafe State.safeBlocks
  split
  · split <;> exact ⟨rfl, rfl⟩
  all_goals exact ⟨rfl, rfl⟩

theorem safeStart_csu (s : State) : s.safeStart.csu = s.csu := by simp [State.safeStart]

/-- Outside CONFIG an entry to SAFE ends no window. -/
theorem enterSafe_entersSafe (awake : s.mdc.mode ≠ .safe) (closed : s.mdc.mode ≠ .config) : s.entersSafe s.enterSafe := by
  have entered : s.enterSafe = s.safeStart.lineAtEntry.safeFrames s.mdc.mode := by
    unfold State.enterSafe
    rw [if_neg awake, endWindow_closed closed]
    rfl
  have mode : s.safeStart.lineAtEntry.mdc.mode = .safe := by rw [lineAtEntry_mode, safeStart_mode]
  have csu : s.safeStart.lineAtEntry.csu = s.csu := (lineAtEntry_signals _).csu.trans (safeStart_csu s)
  obtain ⟨list, bus⟩ := safeStart_list s
  obtain ⟨declares, alerts, urgent⟩ := safeFrames_alerts mode s.mdc.mode
  rw [lineAtEntry_bus, bus] at declares alerts
  have alert : s.safeStart.lineAtEntry.safeAlert = s.safeAlert := by unfold State.safeAlert; rw [csu]
  rw [lineAtEntry_lists TxKind.noConfusion, alert] at alerts
  rw [entered]
  refine ⟨(lineAtEntry_signals _).trans (safeFrames_signals _ _), ?_,
    ⟨declares, fun on none => alerts on (by simpa [Sgi.lists, list] using none), fun f mem kind => ?_⟩, ?_⟩
  · rw [safeFrames_pad, lineAtEntry_pad, safeStart_spring]
  · exact urgent f (lineAtEntry_retains TxKind.noConfusion f (list ▸ mem) kind) kind
  · rw [safeFrames_bus, lineAtEntry_bus, bus]

/-- A report stored ahead of the entry leaves it an entry from the state before. -/
theorem State.entersSafe.after_report {r : Report} (h : (s.storeReport r).entersSafe u) : s.entersSafe u := by
  obtain ⟨signals, pad, ⟨declares, alerts, urgent⟩, bus⟩ := h
  obtain ⟨start, requests⟩ := (storeReport_signals s r).safeStart (State.storeReport_pad s r)
  have spring : (s.storeReport r).spring = s.spring := by unfold State.spring; rw [State.storeReport_mdc]
  have alert : (s.storeReport r).safeAlert = s.safeAlert := by unfold State.safeAlert; rw [State.storeReport_csu]
  rw [State.storeReport_bus] at declares alerts bus
  rw [storeReport_lists TxKind.noConfusion, alert] at alerts
  exact ⟨start.trans signals, by rw [pad, requests, spring],
    ⟨declares, alerts, fun f mem kind => urgent f (storeReport_retains TxKind.noConfusion r f mem kind) kind⟩, bus⟩

/-- A report stored behind the entry. -/
theorem State.entersSafe.reported (h : s.entersSafe u) (r : Report) : s.entersSafe (u.storeReport r) := by
  obtain ⟨signals, pad, ⟨declares, alerts, urgent⟩, bus⟩ := h
  have retained := storeReport_retains (s := u) (k := .alert) TxKind.noConfusion r
  refine ⟨signals.trans (storeReport_signals u r), (State.storeReport_pad u r).trans pad,
    ⟨fun on => storeReport_still_lists (declares on) r, fun on none => ?_, fun f mem kind early => ?_⟩,
    (State.storeReport_bus u r).trans bus⟩
  · obtain ⟨f, mem, kind, data⟩ := alerts on none
    exact ⟨f, retained f mem kind, kind, data⟩
  · exact retained f (urgent f mem kind early) kind

/-- The SAFE cause of a second severe fault in INIT is answered by the entry to SAFE itself (R185). -/
theorem pendingSafe_enterSafe (init : s.mdc.mode = .init) :
    (s.withMdc { s.mdc with pendingSafe := true }).enterSafe = s.enterSafe := by
  unfold State.enterSafe
  have awake : s.mdc.mode ≠ .safe := by simp [init]
  have closed : s.mdc.mode ≠ .config := by simp [init]
  have closed' : (s.withMdc { s.mdc with pendingSafe := true }).mdc.mode ≠ .config := closed
  rw [if_neg awake, if_neg (show (s.withMdc { s.mdc with pendingSafe := true }).mdc.mode ≠ .safe from awake),
    endWindow_closed closed, endWindow_closed closed']
  rfl

/-- Whichever of a report and the entry to SAFE it goes with comes first, the report is stored and SAFE entered (log entry
34). -/
theorem reportAndSafe_cases (s : State) (r : Report) :
    s.reportAndSafe r = (s.storeReport r).enterSafe ∨ s.reportAndSafe r = s.enterSafe.storeReport r := by
  unfold State.reportAndSafe
  split
  · refine .inl ?_
    have again (x : State) : x.enterSafe.enterSafe = x.enterSafe := if_pos (enterSafe_mode x)
    unfold State.reportBasic State.answerCause State.safeCause
    split
    · split
      case isTrue init => exact pendingSafe_enterSafe init
      case isFalse => exact again _
    · rfl
  · exact .inr (reportBasic_safe (enterSafe_mode s) r)

theorem reportAndSafe_entersSafe (awake : s.mdc.mode ≠ .safe) (closed : s.mdc.mode ≠ .config) (r : Report) :
    s.entersSafe (s.reportAndSafe r) := by
  rcases reportAndSafe_cases s r with e | e
  · rw [e]
    have mode : (s.storeReport r).mdc.mode = s.mdc.mode := by rw [State.storeReport_mdc]
    exact (enterSafe_entersSafe (mode ▸ awake) (mode ▸ closed)).after_report
  · rw [e]
    exact (enterSafe_entersSafe awake closed).reported r

/-- What a severe NODE report that goes with an entry to SAFE leaves in the bank, in either order (R199 to R201; log entry
34). -/
theorem reportAndSafe_node (closed : s.mdc.mode ≠ .config) {r : Report} (bank : r.bank = .node)
    (severe : r.severity = .severe) :
    (∃ a, (a = s.activity ∨ a = .inMode .safe)
      ∧ (s.reportAndSafe r).frb.banks.get .node = some (overwrite (s.frb.banks.get .node) { s.complete r with activity := a }))
    ∧ (s.reportAndSafe r).frb.responseActive = true := by
  have stored (x : State) : (x.storeReport r).frb.responseActive = true := by simp [State.storeReport_frb, severe]
  rcases reportAndSafe_cases s r with e | e
  · have mode : (s.storeReport r).mdc.mode ≠ .config := by rw [State.storeReport_mdc]; exact closed
    have spared := enterSafe_sparesNode mode
    refine ⟨⟨s.activity, .inl rfl, ?_⟩, ?_⟩
    · rw [e, spared.node, storeReport_get, bank, if_pos rfl]
      rfl
    · rw [e]
      exact spared.response (stored s)
  · refine ⟨⟨.inMode .safe, .inr rfl, ?_⟩, e ▸ stored _⟩
    have completed : s.enterSafe.complete r = { s.complete r with activity := .inMode .safe } := by
      simp [State.complete, State.activity, State.reportedMark, severe, enterSafe_mode]
    rw [e, storeReport_get, bank, if_pos rfl, (enterSafe_sparesNode closed).node, completed]

/-! ## The end of the command -/

theorem Pad.judge_reading (p : Pad) (spring : Bool) : (p.judge spring).reading = p.reading := by
  unfold Pad.judge
  repeat' split
  all_goals rfl

/-- What stands in SAFE once the command that entered it from `s` has ended. -/
structure State.endsSafe (s t : State) : Prop where
  wmt : t.wmt = s.safeStart.wmt
  csu : t.csu = s.csu
  glu : t.glu = s.safeStart.glu
  cpr : t.cpr = s.safeStart.cpr
  mdc : t.mdc.lasting = { s.safeStart.mdc.lasting with safeStationary := t.vehicleStationary }
  lapsed : t.pad.hpcRequest = .lapsed
  asks : t.pad.mdcRequest = (s.holdAtSafe || t.mdc.safeStationary)
  line : t.pad.asserted = t.pad.mdcRequest
  reading : t.pad.reading = s.safeStart.pad.reading
  alerts : s.alertsSafe t.sgi

theorem State.entersSafe.mode (h : s.entersSafe u) : u.mdc.mode = .safe := by rw [h.signals.mdc, safeStart_mode]

theorem safeStart_unseen (s : State) : s.safeStart.mdc.safeStationary = false := by
  unfold State.safeStart
  rw [State.startSafe_mdc]
  rfl

theorem State.entersSafe.ends (h : s.entersSafe u) (before : State) : s.endsSafe (conclude before u) := by
  have rests := reactSafe_rests h.mode before
  obtain ⟨signals, pad, ⟨declares, alerts, urgent⟩, -⟩ := h
  obtain ⟨lapsed, asked⟩ := safeStart_requests s
  have unseen : u.mdc.safeStationary = false := by rw [signals.mdc, safeStart_unseen]
  have spring : u.spring = s.spring := by
    unfold State.spring
    rw [signals.mdc]
    exact safeStart_spring s
  have seen : (conclude before u).vehicleStationary = u.vehicleStationary := by
    unfold State.vehicleStationary State.peersStationary
    rw [rests.wmt, rests.pvt]
  have mdc : (conclude before u).mdc.lasting = { u.mdc.lasting with safeStationary := u.vehicleStationary } := by
    rw [rests.mdc, unseen, Bool.or_false]
  have found : (conclude before u).mdc.safeStationary = u.vehicleStationary := congrArg Mdc.safeStationary mdc
  have judged : (conclude before u).pad
      = if u.vehicleStationary then { u.pad with mdcRequest := true }.judge s.spring else u.pad := by
    rw [rests.pad, unseen, spring, Bool.not_false, Bool.and_true]
  have line : (conclude before u).pad.hpcRequest = .lapsed
      ∧ (conclude before u).pad.mdcRequest = (s.holdAtSafe || u.vehicleStationary)
      ∧ (conclude before u).pad.asserted = (conclude before u).pad.mdcRequest
      ∧ (conclude before u).pad.reading = s.safeStart.pad.reading := by
    rw [judged, pad]
    split
    case isTrue stationary =>
      simp [Pad.judge_hpcRequest, Pad.judge_mdcRequest, Pad.judge_asserted, Pad.asked, Pad.judge_reading, lapsed, stationary]
    case isFalse moving =>
      simp [Pad.judge_hpcRequest, Pad.judge_mdcRequest, Pad.judge_asserted, Pad.asked, Pad.judge_reading, lapsed, asked,
        moving]
  have retained := rests.retains .alert TxKind.noConfusion
  refine ⟨rests.wmt.trans signals.wmt, rests.csu.trans (signals.csu.trans (safeStart_csu s)),
    rests.glu.trans signals.glu, rests.cpr.trans signals.cpr, ?_, line.1, ?_, line.2.2.1, line.2.2.2,
    ⟨fun on => rests.lists _ (declares on), fun on none => ?_, fun f mem kind early =>
      retained f (urgent f mem kind early) kind⟩⟩
  · rw [mdc, seen, signals.mdc]
  · rw [found]
    exact line.2.1
  · obtain ⟨f, mem, kind, data⟩ := alerts on none
    exact ⟨f, retained f mem kind, kind, data⟩

end

end Sys2Proof.Machine

/-! PROOF. POWER_ON and the end of INIT (R184 to R186). -/

namespace Sys2Proof.Machine

/-! ## Power-on (R162, R184) -/

theorem conclude_apart {s : State} (before : State) (h : s.mdc.mode = .init ∨ s.mdc.mode = .restart) :
    conclude before s = s.lapse.drawn := conclude_fixed (react_apart before h)

theorem nodeNumber_eq (num0 num1 num2 : Bool) :
    nodeNumber num0 num1 num2 = num0.toNat + 2 * num1.toNat + 4 * num2.toNat + 1 := by
  cases num0 <;> cases num1 <;> cases num2 <;> rfl

theorem nodeNumber_range (num0 num1 num2 : Bool) : 1 ≤ nodeNumber num0 num1 num2 ∧ nodeNumber num0 num1 num2 ≤ 8 := by
  cases num0 <;> cases num1 <;> cases num2 <;> decide

theorem Pad.poweredOn_eq (spring : Bool) :
    Pad.poweredOn spring = { Pad.initial with drive := if spring then .withdraw else .idle } := by
  cases spring <;> rfl

/-- Settles O26: INIT acts on nothing, so that the node stands as power-on makes it. -/
theorem powerOnStartsAfresh : Obligations.PowerOnStartsAfresh := by
  intro n0 n1 n2 spring pol key s
  have run : exec (.powerOn n0 n1 n2 spring pol key) s
      = .next (s.poweredOn n0 n1 n2 spring pol key).lapse.drawn :=
    congrArg Host.Outcome.next (conclude_apart (s := s.poweredOn n0 n1 n2 spring pol key) s (.inl rfl))
  refine ⟨_, run, ?_, nodeNumber_range n0 n1 n2, ⟨rfl, rfl⟩, ⟨rfl, rfl, rfl, rfl, rfl, rfl⟩, ⟨rfl, rfl, rfl, rfl⟩,
    Pad.poweredOn_eq spring, rfl⟩
  rw [← nodeNumber_eq]
  rfl

/-! ## The line at a mode entry that withdraws it (R163) -/

section
variable {s : State}

theorem line_quiet (quiet : s.lineTimesOut = false) : s.line = s.judgeLine := by simp [State.line, quiet]

/-- Nothing times out where the line is not asked for (R153). -/
theorem lineTimesOut_unasked (unasked : s.pad.asked = false) : s.lineTimesOut = false := by
  simp [State.lineTimesOut, Pad.timesOut, unasked]

theorem setRequests_withdraw_asked (s : State) : (s.setRequests false).pad.asked = false := rfl

/-- With both requests withdrawn the line is judged alone (R163). -/
theorem runRequests_withdraws (s : State) : s.runRequests false = (s.setRequests false).judgeLine :=
  line_quiet (lineTimesOut_unasked (setRequests_withdraw_asked s))

theorem setRequests_withdraws_line (s : State) : (s.setRequests false).judgeLine.pad.asserted = false
    ∧ (s.setRequests false).judgeLine.pad.hpcRequest = .withdraw
    ∧ (s.setRequests false).judgeLine.pad.mdcRequest = false :=
  ⟨Pad.judge_asserted _ _, Pad.judge_hpcRequest _ _, Pad.judge_mdcRequest _ _⟩

/-! ## The end of INIT (R184 to R186) -/

theorem starting_init (starting : s.starting = true) : s.mdc.mode = .init := by
  simp only [State.starting, Bool.and_eq_true, beq_iff_eq] at starting
  exact starting.1

theorem exec_initEnd (starting : s.starting = true) (time : ms 25 ≤ s.mdc.initTime) :
    exec .initEnd s = .next (conclude s s.endInit) := next_conclude s (if_pos (by simp [starting, time]))

theorem exec_clockFailure (starting : s.starting = true) (time : ms 50 ≤ s.mdc.initTime)
    (unstable : s.mdc.refStable = false) : exec .clockFailure s = .next (conclude s (s.reportAndSafe clockReport)) :=
  next_conclude s (if_pos (by simp [starting, time, unstable]))

/-- CONFIG as INIT leaves it: the blocks started, both requests withdrawn. -/
def State.configStart (s : State) : State := (s.stable.startConfig.setRequests false).judgeLine

theorem endInit_config (quiet : s.mdc.pendingSafe = false) : s.endInit = s.configStart := by
  unfold State.endInit
  rw [if_neg (by simp [quiet])]
  exact runRequests_withdraws s.stable.startConfig

theorem configStart_keeps (s : State) : s.keeps s.configStart [.wmt, .glu, .hpc, .cpr, .pad, .mdc] := by
  intro b other
  cases b
  case csu | pvt | vir | hal | sgi | frb | queue => rfl
  all_goals simp at other

/-- Entered from INIT with the oscillator stable, SAFE starts the blocks (R185). -/
theorem safeStart_stable (init : s.mdc.mode = .init) :
    s.stable.safeStart.wmt.sampling = true ∧ s.stable.safeStart.glu.reading = true
      ∧ s.stable.safeStart.cpr.reading = true ∧ s.stable.safeStart.pad.reading = true := by
  unfold State.safeStart State.startSafe State.safeBlocks
  rw [show s.stable.mdc.mode = .init from init]
  exact ⟨rfl, rfl, rfl, rfl⟩

/-- Entered from INIT without it, SAFE leaves them stopped (R184). -/
theorem safeStart_unstable (init : s.mdc.mode = .init) (unstable : s.mdc.refStable = false) :
    s.safeStart.wmt = s.wmt ∧ s.safeStart.glu = s.glu ∧ s.safeStart.cpr.reading = s.cpr.reading
      ∧ s.safeStart.pad.reading = s.pad.reading := by
  unfold State.safeStart State.startSafe State.safeBlocks
  rw [init]
  dsimp only
  rw [if_neg (show ¬ (s.safeMode s.holdAtSafe).mdc.refStable = true by simp [State.safeMode, unstable])]
  exact ⟨rfl, rfl, rfl, rfl⟩

theorem safeStart_mdc (s : State) : s.safeStart.mdc = (s.safeMode s.holdAtSafe).mdc := State.startSafe_mdc _ _ _

theorem State.endsSafe.mode {t : State} (h : s.endsSafe t) : t.mdc.mode = .safe :=
  (congrArg Mdc.mode h.mdc).trans (safeStart_mode s)

theorem State.endsSafe.dwellTime {t : State} (h : s.endsSafe t) : t.mdc.dwellTime = 0 :=
  (congrArg Mdc.dwellTime h.mdc).trans (congrArg Mdc.dwellTime (safeStart_mdc s))

theorem State.endsSafe.pendingSafe {t : State} (h : s.endsSafe t) : t.mdc.pendingSafe = false :=
  (congrArg Mdc.pendingSafe h.mdc).trans (congrArg Mdc.pendingSafe (safeStart_mdc s))

theorem State.endsSafe.restartCounter {t : State} (h : s.endsSafe t) : t.mdc.restartCounter = s.mdc.restartCounter := by
  have ended := congrArg Mdc.restartCounter h.mdc
  have start := congrArg Mdc.restartCounter (safeStart_mdc s)
  exact ended.trans start

/-- The end of a command that enters SAFE with a severe NODE report, on an empty bank (R184, R192, R196, R199). -/
theorem conclude_reportAndSafe {before : State} (awake : s.mdc.mode ≠ .safe) (closed : s.mdc.mode ≠ .config) {r : Report}
    (bank : r.bank = .node) (severe : r.severity = .severe) :
    s.endsSafe (conclude before (s.reportAndSafe r)) ∧ (conclude before (s.reportAndSafe r)).frb.responseActive = true
      ∧ ∃ a, (a = s.activity ∨ a = .inMode .safe) ∧ (conclude before (s.reportAndSafe r)).frb.banks.node
        = some (overwrite s.frb.banks.node { s.complete r with activity := a }) := by
  have entered := reportAndSafe_entersSafe awake closed r
  obtain ⟨⟨a, activity, node⟩, active⟩ := reportAndSafe_node closed bank severe
  have spares := (reactSafe_rests entered.mode before).spares
  exact ⟨entered.ends before, spares.response active, a, activity, spares.node.trans node⟩

end

/-- Settles O27: CONFIG is a steady state, and SAFE acts on the vehicle seen stationary alone; the clock record is stored
ahead of the entry to SAFE or behind it. -/
theorem initEndsInConfigOrSafe : Obligations.InitEndsInConfigOrSafe := by
  refine ⟨fun s starting time quiet => ?_, fun s starting time pending => ?_,
    fun s starting time unstable empty => ?_⟩
  · have ended : conclude s s.configStart = s.configStart.lapse.drawn := conclude_fixed (react_steady s (.inl rfl))
    rw [exec_initEnd starting time, endInit_config quiet, ended]
    obtain ⟨withdrawn, request, -⟩ := setRequests_withdraws_line s.stable.startConfig
    exact ⟨_, rfl, ⟨rfl, rfl, rfl⟩, rfl, ⟨rfl, rfl, Pad.judge_reading _ _⟩, ⟨withdrawn, request⟩,
      (configStart_keeps s).ended⟩
  · have init := starting_init starting
    have stable : s.stable.mdc.mode = .init := init
    have entered : s.endInit = s.stable.enterSafe := if_pos pending
    have ends := (enterSafe_entersSafe (s := s.stable) (by simp [stable]) (by simp [stable])).ends s
    obtain ⟨wmt, glu, cpr, pad⟩ := safeStart_stable init
    rw [exec_initEnd starting time, entered]
    exact ⟨_, rfl, ⟨ends.mode, ends.dwellTime, ends.pendingSafe⟩, by rw [ends.wmt, wmt], by rw [ends.glu, glu],
      by rw [ends.cpr, cpr], by rw [ends.reading, pad]⟩
  · have init := starting_init starting
    obtain ⟨ends, active, a, activity, node⟩ := conclude_reportAndSafe (s := s) (before := s)
      (r := clockReport) (by simp [init]) (by simp [init]) rfl rfl
    obtain ⟨wmt, glu, cpr, pad⟩ := safeStart_unstable init unstable
    have inInit : s.activity = .inMode .init := by simp [State.activity, init]
    rw [exec_clockFailure starting time unstable]
    refine ⟨_, rfl, ⟨ends.mode, ends.wmt.trans wmt, ends.glu.trans glu, by rw [ends.cpr, cpr], ends.reading.trans pad⟩,
      active, ?_⟩
    rw [inInit] at activity
    rw [empty] at node
    rcases activity with rfl | rfl
    · exact ⟨.init, .inl rfl, node⟩
    · exact ⟨.safe, .inr rfl, node⟩

end Sys2Proof.Machine

/-! PROOF. Configure frames in the open window and outside it (R56, R187, R188). -/

namespace Sys2Proof.Machine

section
variable {s : State} {m g b2 b3 b4 b5 b6 b7 : Byte}

/-! ## Reports in CONFIG -/

/-- The FRB replaced. -/
def State.withFrb (s : State) (f : Frb) : State := { s with frb := f }

theorem withFrb_keeps (s : State) (f : Frb) : s.keeps (s.withFrb f) [.frb] := by
  intro b other
  cases b
  case frb => simp at other
  all_goals rfl

/-- CONFIG acts on nothing at the end of a command. -/
theorem conclude_config (before : State) (config : s.mdc.mode = .config) : conclude before s = s.lapse.drawn :=
  conclude_fixed (react_steady before (.inl config))

/-- A report stored where no Declaration may be placed is its record alone (R175). -/
theorem storeReport_mute (mute : s.mayPlace .declaration = false) {r : Report} (mild : r.severity ≠ .severe) :
    s.storeReport r = s.withFrb { s.frb with banks := s.frb.banks.store r.bank (s.complete r) } := by
  have refused (b : Banks) : (s.withFrb { s.frb with banks := b }).placeDeclaration
      = s.withFrb { s.frb with banks := b } := placeDeclaration_refused mute
  unfold State.storeReport
  rw [if_neg mild]
  unfold State.writeRecord State.changeBanks
  dsimp only
  split
  · exact refused _
  · rfl

/-- A report that is not severe, made where the lanes do not run, is its record alone. -/
theorem report_idle (idle : s.mdc.mode ≠ .run) {r : Report} (mild : r.severity ≠ .severe) :
    s.report r = s.storeReport r := by
  rw [report_eq_handCompromise mild, State.handCompromise,
    halRecompute_idle (s := s.storeReport r) (.inl (by rwa [State.storeReport_mdc])), ite_self]

/-- Where no Declaration may be placed either, a report is its record and nothing else. -/
theorem report_mute (mute : s.mayPlace .declaration = false) (idle : s.mdc.mode ≠ .run) {r : Report}
    (mild : r.severity ≠ .severe) :
    s.report r = s.withFrb { s.frb with banks := s.frb.banks.store r.bank (s.complete r) } :=
  (report_idle idle mild).trans (storeReport_mute mute mild)

/-- No Declaration is placed outside RUN and SAFE (R175). -/
theorem mayPlace_declaration_off (run : s.mdc.mode ≠ .run) (safe : s.mdc.mode ≠ .safe) :
    s.mayPlace .declaration = false := by
  rw [← Bool.not_eq_true, mayPlace_declaration]
  exact fun may => may.2.elim run safe

theorem storeReport_config (config : s.mdc.mode = .config) {r : Report} (mild : r.severity ≠ .severe) :
    s.storeReport r = s.withFrb { s.frb with banks := s.frb.banks.store r.bank (s.complete r) } :=
  storeReport_mute (mayPlace_declaration_off (by simp [config]) (by simp [config])) mild

theorem report_config (config : s.mdc.mode = .config) {r : Report} (mild : r.severity ≠ .severe) :
    s.report r = s.withFrb { s.frb with banks := s.frb.banks.store r.bank (s.complete r) } :=
  report_mute (mayPlace_declaration_off (by simp [config]) (by simp [config])) (by simp [config]) mild

/-! ## Frames addressed to the node (R167, R187) -/

theorem configured_eq {row : Byte → Bool} {late : State} {inConfig : List Byte → State} (receives : s.receives = true)
    (addressed : m = 0 ∨ m.toNat = s.number) (taken : row g = true) :
    s.configured [m, g, b2, b3, b4, b5, b6, b7] row late inConfig
      = if s.windowOpen then inConfig [g, b2, b3, b4, b5, b6, b7] else late := by
  have target : (m.toNat == 0 || m.toNat == s.number) = true := by
    rcases addressed with rfl | number
    · rfl
    · simp [number]
  simp [State.configured, receives, target, taken]

theorem windowOpen_config (opened : s.windowOpen = true) : s.mdc.mode = .config := by
  simp only [State.windowOpen, Bool.and_eq_true, beq_iff_eq] at opened
  exact opened.1

/-! ## A group in the open window -/

/-- The mass is formed anew in CONFIG without a recomputation of the HAL (R56, R78). -/
theorem massRecompute_config (config : s.mdc.mode = .config) : s.massRecompute = s.withGlu { s.glu with
    mass := if s.glu.reading then massOf s.glu s.mdc.settings s.pvt.entries else s.glu.mass } := by
  unfold State.massRecompute
  split
  case isTrue reading =>
    dsimp only
    rw [halRecompute_idle (.inl (by simp [config])), ite_self]
    rfl
  case isFalse => rfl

/-- The GLU with the mass of groups 1 and 5 taken (R56). -/
def State.gluConfigured (s : State) (g : Nat) (c : Settings) : Glu :=
  { s.glu with mass := if (g = 1 ∨ g = 5) ∧ s.glu.reading = true then massOf s.glu c s.pvt.entries else s.glu.mass }

theorem takeGroupFrame_taken (opened : s.windowOpen = true) (fresh : s.mdc.written.of g.toNat = false) :
    s.takeGroupFrame [g, b2, b3, b4, b5, b6, b7] = (s.takeSettings g.toNat b2 b3 b4 b5 b6 b7).withGlu
      (s.gluConfigured g.toNat (takeGroup g.toNat b2 b3 b4 b5 b6 b7 s.mdc.settings)) := by
  unfold State.takeGroupFrame State.gluConfigured
  dsimp only
  rw [if_neg (by simp [fresh])]
  split
  case isTrue weighs =>
    rw [massRecompute_config (s := s.takeSettings g.toNat b2 b3 b4 b5 b6 b7) (windowOpen_config opened)]
    simp only [weighs, true_and]
    rfl
  case isFalse other =>
    simp only [other, false_and, if_false]
    rfl

theorem withGlu_takeSettings_keeps (s : State) (g : Nat) (b2 b3 b4 b5 b6 b7 : Byte) (u : Glu) :
    s.keeps ((s.takeSettings g b2 b3 b4 b5 b6 b7).withGlu u) [.mdc, .glu] := by
  intro b other
  cases b
  case mdc | glu => simp at other
  all_goals rfl

/-- In the open window a frame that makes a report alone ends with its record. -/
theorem conclude_report_config (config : s.mdc.mode = .config) {r : Report} (mild : r.severity ≠ .severe) :
    ∃ t, conclude s (s.report r) = t
      ∧ t.frb = { s.frb with banks := s.frb.banks.store r.bank (s.complete r) } ∧ s.keeps t [.frb] := by
  rw [report_config config mild]
  exact ⟨_, conclude_config s config, rfl, (withFrb_keeps s _).ended⟩

/-- A report made outside a hold in a steady state ends with its record and what follows from it. -/
theorem conclude_report_steady (steady : s.steady) {r : Report} (mild : r.severity ≠ .severe) :
    ∃ t, conclude s (s.report r) = t
      ∧ t.frb = { s.frb with banks := s.frb.banks.store r.bank (s.complete r) }
      ∧ s.keeps t [.hal, .hpc, .sgi, .frb] := by
  obtain ⟨told, frb⟩ := report_touches (r := r) steady.calm (secondSevere_mild mild)
  exact ⟨_, told.conclude steady (by decide), frb.trans (storeReport_mild mild), told.keeps_ended⟩

end

/-- Settles O28: a frame takes its group or is reported, and CONFIG or the steady state acts on nothing more. -/
theorem configureFramesInTheWindow : Obligations.ConfigureFramesInTheWindow := by
  refine ⟨fun s m g b2 b3 b4 b5 b6 b7 receives opened addressed ⟨low, high⟩ fresh => ?_,
    fun s m g b2 b3 b4 b5 b6 b7 receives opened addressed ⟨low, high⟩ rewritten => ?_,
    fun s m g b2 b3 b4 b5 b6 b7 receives opened addressed undefined => ?_,
    fun s c m g b2 b3 b4 b5 b6 b7 steady receives closed addressed row => ?_,
    fun s m b2 b3 b4 b5 b6 b7 steady receives closed addressed expired => ?_⟩
  · have config := windowOpen_config opened
    have run : exec (.configureGroup [m, g, b2, b3, b4, b5, b6, b7]) s = .next (conclude s
        ((s.takeSettings g.toNat b2 b3 b4 b5 b6 b7).withGlu
          (s.gluConfigured g.toNat (takeGroup g.toNat b2 b3 b4 b5 b6 b7 s.mdc.settings)))) :=
      next_conclude s (by rw [configured_eq receives addressed (by simp [low, high]), if_pos opened,
        takeGroupFrame_taken opened fresh])
    exact ⟨_, run.trans (congrArg _ (conclude_config s config)), rfl, takeGroup_ok _ _ _ _ _ _ _, rfl,
      (withGlu_takeSettings_keeps _ _ _ _ _ _ _ _ _).ended⟩
  · have run : exec (.configureGroup [m, g, b2, b3, b4, b5, b6, b7]) s
        = .next (conclude s (s.report (rewriteReport g.toNat))) :=
      next_conclude s (by rw [configured_eq receives addressed (by simp [low, high]), if_pos opened]; exact if_pos rewritten)
    obtain ⟨t, ended, frb, keeps⟩ := conclude_report_config (windowOpen_config opened) (r := rewriteReport g.toNat)
      Severity.noConfusion
    exact ⟨t, run.trans (congrArg _ ended), frb, keeps⟩
  · have run : exec (.undefinedConfigureGroup [m, g, b2, b3, b4, b5, b6, b7]) s
        = .next (conclude s (s.report (malformedReport .serviceTool))) :=
      next_conclude s (by rw [configured_eq receives addressed (by simp [undefined]), if_pos opened])
    obtain ⟨t, ended, frb, keeps⟩ := conclude_report_config (windowOpen_config opened)
      (r := malformedReport .serviceTool) Severity.noConfusion
    exact ⟨t, run.trans (congrArg _ ended), frb, keeps⟩
  · have late : ¬ s.windowOpen = true := by simp [closed]
    have run : exec c s = .next (conclude s (s.report lateConfigureReport)) := by
      rcases row with ⟨low, high, rfl⟩ | ⟨rfl, current, rfl⟩ | ⟨undefined, rfl⟩
      · exact next_conclude s (by rw [configured_eq receives addressed (by simp [low, high]), if_neg late]; rfl)
      · exact next_conclude s (by
          rw [configured_eq receives addressed rfl, if_neg late]
          exact if_neg (by simp [current]))
      · exact next_conclude s (by rw [configured_eq receives addressed (by simp [undefined]), if_neg late]; rfl)
    obtain ⟨t, ended, frb, keeps⟩ := conclude_report_steady steady (r := lateConfigureReport) Severity.noConfusion
    exact ⟨t, run.trans (congrArg _ ended), frb, keeps⟩
  · have late : ¬ s.windowOpen = true := by simp [closed]
    have run : exec (.configureClose [m, 0, b2, b3, b4, b5, b6, b7]) s
        = .next (conclude s (s.withMdc { s.mdc with windowExpired := false })) :=
      next_conclude s (by
        rw [configured_eq receives addressed rfl, if_neg late]
        exact if_pos expired)
    exact mdc_alone (.inl steady) run rfl rfl rfl

end Sys2Proof.Machine

/-! PROOF. The end of the configuration window (R71, R99, R188, R189). -/

namespace Sys2Proof.Machine

/-! ## What an entry to RUN sets off (R78, R171) -/

section
variable {s : State}

theorem placeDeclaration_touches (s : State) : s.touches s.placeDeclaration [.sgi] := by
  refine ⟨fun b other => ?_, by simp, by simp, by simp⟩
  cases b
  case sgi => simp at other
  all_goals simp [Block.same]

/-- What the handings of an entry to RUN leave outside a hold: all but HAL, HPC and list, with margin and lane status. -/
structure State.begins (s t : State) : Prop where
  touches : s.touches t [.hal, .hpc, .sgi]
  margin : t.hal.margin = s.hal.margin
  lanes : t.hal.lanes = s.hal.lanes

theorem State.begins.trans {t u : State} (h : s.begins t) (k : t.begins u) : s.begins u :=
  ⟨h.touches.within k.touches, k.margin.trans h.margin, k.lanes.trans h.lanes⟩

theorem ordered_begins (s : State) (n : Nat) : s.begins (s.ordered n) := ⟨(ordered_touches s n).mono (by simp), rfl, rfl⟩

theorem placeDeclaration_begins (s : State) : s.begins s.placeDeclaration :=
  ⟨(placeDeclaration_touches s).mono (by simp), by simp, by simp⟩

theorem halRecompute_begins (calm : s.calm) : s.begins s.halRecompute := by
  refine ⟨(halRecompute_touches calm).mono (by simp), ?_, ?_⟩ <;>
    rcases halRecompute_calm calm with e | ⟨r, e⟩ <;> rw [e] <;> rfl

theorem placeDeclaration_resultCurrent (h : s.resultCurrent) : s.placeDeclaration.resultCurrent := by
  unfold State.resultCurrent
  rw [placeDeclaration_laneResult]
  simpa [State.resultCurrent, State.inPhase] using h

/-- The handings of an entry to RUN outside a hold (R78, R171). -/
theorem runEntered_begins (calm : s.calm) : s.begins s.runEntered := by
  refine handAll_keeps (I := s.begins) (l := [State.halRecompute, State.placeDeclaration]) ?_ (ordered_begins s 2)
  simp only [List.mem_cons, List.not_mem_nil, or_false, forall_eq_or_imp, forall_eq]
  exact ⟨fun t ht => ht.trans (halRecompute_begins (ht.touches.calm calm)),
    fun t ht => ht.trans (placeDeclaration_begins t)⟩

/-- The lanes' result is that of the inputs as they stand, in whichever order the handings are taken (R78). -/
theorem runEntered_resultCurrent (calm : s.calm) : s.runEntered.resultCurrent := by
  rcases handAll_two State.halRecompute State.placeDeclaration s with e | e
  · exact (congrArg State.resultCurrent e).mpr
      (placeDeclaration_resultCurrent (halRecompute_resultCurrent ((ordered_begins s 2).touches.calm calm)))
  · exact (congrArg State.resultCurrent e).mpr (halRecompute_resultCurrent
      (((ordered_begins s 2).trans (placeDeclaration_begins _)).touches.calm calm))

theorem State.touches.inPhase {t : State} {l : List Block} (h : s.touches t l) (p : Phase) : t.inPhase p = s.inPhase p := by
  simp only [State.inPhase, h.mdc, h.phase]

theorem halRecompute_sgi (lane : s.free.laneFault = none) : s.halRecompute.sgi = s.sgi := by
  by_cases run : s.mdc.mode = .run
  · rcases halRecompute_cases run lane with ⟨-, e⟩ | ⟨-, e⟩ <;> rw [e]
    exact deliver_sgi
  · rw [halRecompute_idle (.inl run)]

/-- An entry to RUN places a Declaration alone (R171). -/
theorem runEntered_lists {k : TxKind} (other : k ≠ .declaration) (lane : s.free.laneFault = none) :
    s.runEntered.sgi.lists k ↔ s.sgi.lists k := by
  have first := halRecompute_sgi (s := s.ordered 2) lane
  have last := halRecompute_sgi (s := (s.ordered 2).placeDeclaration)
    ((congrArg Free.laneFault (State.placeDeclaration_free _)).trans lane)
  unfold State.runEntered
  rcases handAll_two State.halRecompute State.placeDeclaration s with e | e
  · rw [e, placeDeclaration_lists other, first]
    exact .rfl
  · rw [e, last, placeDeclaration_lists other]
    exact .rfl

/-- A Declaration waits at an entry to RUN, unless the bus is off (R171, R175). -/
theorem runEntered_declares (run : s.mdc.mode = .run) (lane : s.free.laneFault = none) (bus : s.sgi.bus ≠ .off) :
    ∃ f ∈ s.runEntered.sgi.list, f.kind = .declaration ∧ f.id = frameId s.number .declaration := by
  rcases handAll_two State.halRecompute State.placeDeclaration s with e | e
  · have made := halRecompute_delivers (s := s.ordered 2) lane
    have placed := placeDeclaration_mem (s := (s.ordered 2).halRecompute) (.inl (made.mode.trans run))
      (by rw [made.bus]; exact bus)
    rw [State.number_of_straps (s := s) (by rw [made.mdc]; rfl)] at placed
    exact (congrArg (fun t : State => ∃ f ∈ t.sgi.list, f.kind = .declaration ∧ f.id = _) e).mpr placed
  · have placed := placeDeclaration_mem (s := s.ordered 2) (.inl run) bus
    rw [← halRecompute_sgi (s := (s.ordered 2).placeDeclaration)
      ((congrArg Free.laneFault (State.placeDeclaration_free _)).trans lane)] at placed
    exact (congrArg (fun t : State => ∃ f ∈ t.sgi.list, f.kind = .declaration ∧ f.id = _) e).mpr placed

end

/-! ## The end of the window (R71, R188) -/

section
variable {s : State}

/-- A node beyond the expected count is due its report (R71). -/
def State.countDue (s : State) : Bool := s.exceedsExpected && !s.pvt.expectedReported

/-- The record of the expected-count check, with the mark that the mask in force gives it (R71, R199). -/
def State.expectedRecord (s : State) (mark : Bool) : FaultRecord :=
  { s.complete (expectedReport s.pvt.highest) with reported := mark }

/-- Table and banks as the expected-count check leaves them in CONFIG (R71). -/
def State.countChecked (s : State) (mark : Bool) : State :=
  if s.countDue then
    (s.withPvt { s.pvt with expectedReported := true }).withFrb
      { s.frb with banks := s.frb.banks.store .node (s.expectedRecord mark) }
  else s

theorem expectedCheck_config (config : s.mdc.mode = .config) : ∃ mark, s.expectedCheck = s.countChecked mark := by
  refine ⟨s.reportedMark (expectedReport s.pvt.highest), ?_⟩
  unfold State.expectedCheck State.countChecked
  split
  · exact (storeReport_config (s := s.withPvt { s.pvt with expectedReported := true }) config
      Severity.noConfusion).trans (if_pos ‹_›).symm
  · exact (if_neg ‹_›).symm

theorem Settings.reconciled_nExp (c : Settings) : c.reconciled.nExp = c.nExp := by
  unfold Settings.reconciled
  split <;> rfl

/-- The settings as the end of the window leaves them, with what is formed from them (R80, R188). -/
def State.windowSettled (s : State) : State := s.reconcile.formMargin.freeze

theorem windowSettled_countDue (s : State) : s.windowSettled.countDue = s.countDue := by
  simp [State.countDue, State.exceedsExpected, State.windowSettled, State.freeze, State.reconcile, Settings.reconciled_nExp]

/-- The end of the window, whichever mask the check's report meets (R188, R199; log entries 34 and 44). -/
theorem endWindow_eq (config : s.mdc.mode = .config) : ∃ mark, s.endWindow = s.windowSettled.countChecked mark := by
  unfold State.endWindow
  rw [if_pos config]
  split
  · obtain ⟨mark, checked⟩ := expectedCheck_config (s := s.reconcile.formMargin) config
    refine ⟨mark, ?_⟩
    have commutes (t : State) : (t.countChecked mark).freeze = t.freeze.countChecked mark := by
      unfold State.countChecked
      rw [show t.freeze.countDue = t.countDue from rfl]
      split <;> rfl
    rw [checked, commutes]
    rfl
  · exact expectedCheck_config config

theorem countChecked_keeps (s : State) (mark : Bool) : s.keeps (s.countChecked mark) [.pvt, .frb] := by
  unfold State.countChecked
  split
  · exact (withPvt_touches s _).keeps.trans (withFrb_keeps _ _)
  · exact fun b _ => by cases b <;> rfl

theorem countChecked_mdc (s : State) (mark : Bool) : (s.countChecked mark).mdc = s.mdc := by
  unfold State.countChecked
  split <;> rfl

theorem windowSettled_keeps (s : State) : s.keeps s.windowSettled [.csu, .hal, .mdc] := by
  intro b other
  cases b
  case csu | hal | mdc => simp at other
  all_goals rfl

/-! ## RUN entered in RELEASED (R99, R163, R189) -/

/-- RUN as the window's end leaves it, before the handings. -/
def State.firstRun (s : State) : State := (s.startFirstRun.setRequests false).judgeLine

theorem enterRun_eq (s : State) : s.enterRun = s.endWindow.firstRun.runEntered :=
  congrArg State.runEntered (runRequests_withdraws _)

theorem firstRun_keeps (s : State) : s.keeps s.firstRun [.hpc, .cpr, .pad, .mdc] := by
  intro b other
  cases b
  case hpc | cpr | pad | mdc => simp at other
  all_goals rfl

/-- RUN in RELEASED, after the count is checked or not. -/
def State.firstRunChecked (s : State) (mark : Bool) : State := (s.windowSettled.countChecked mark).firstRun

theorem enterRun_checked (config : s.mdc.mode = .config) :
    ∃ mark, s.enterRun = (s.firstRunChecked mark).runEntered := by
  obtain ⟨mark, ended⟩ := endWindow_eq config
  exact ⟨mark, (enterRun_eq s).trans (congrArg (fun t => t.firstRun.runEntered) ended)⟩

theorem firstRunChecked_mdc (s : State) (mark : Bool) : (s.firstRunChecked mark).mdc
    = { s.mdc with settings := s.mdc.settings.reconciled, frozen := true, mode := .run, reliefTime := 0 } := by
  show ({ (s.windowSettled.countChecked mark).mdc with mode := .run, reliefTime := 0 } : Mdc) = _
  rw [countChecked_mdc]
  rfl

theorem windowSettled_hal (s : State) : s.windowSettled.hal
    = { s.hal with margin := effectiveMargin s.mdc.settings.reconciled s.drumCounts } := rfl

theorem firstRun_cpr (s : State) : s.firstRun.cpr = s.cpr.enterPassThrough := rfl

theorem firstRunChecked_blocks (s : State) (mark : Bool) :
    (s.firstRunChecked mark).csu = { s.csu with nextPoint := s.mdc.settings.reconciled.firstPoint }
      ∧ (s.firstRunChecked mark).hal = { s.hal with margin := effectiveMargin s.mdc.settings.reconciled s.drumCounts }
      ∧ (s.firstRunChecked mark).cpr = s.cpr.enterPassThrough ∧ (s.firstRunChecked mark).pad.asserted = false
      ∧ (s.firstRunChecked mark).sgi = s.sgi := by
  have kept := countChecked_keeps s.windowSettled mark
  unfold State.firstRunChecked
  refine ⟨Eq.trans (firstRun_keeps _ .csu (by decide)) (kept .csu (by decide)),
    (Eq.trans (firstRun_keeps _ .hal (by decide)) (kept .hal (by decide))).trans (windowSettled_hal s),
    (firstRun_cpr _).trans (congrArg Cpr.enterPassThrough (kept .cpr (by decide))),
    (setRequests_withdraws_line _).1, Eq.trans (firstRun_keeps _ .sgi (by decide)) (kept .sgi (by decide))⟩

theorem firstRunChecked_keeps (s : State) (mark : Bool) :
    s.keeps (s.firstRunChecked mark) [.csu, .hal, .mdc, .pvt, .frb, .hpc, .cpr, .pad] :=
  (((windowSettled_keeps s).trans (countChecked_keeps _ mark)).trans (firstRun_keeps _)).mono (by decide)

theorem firstRunChecked_inPhase (s : State) (mark : Bool) : (s.firstRunChecked mark).inPhase .released = true := by
  simp [State.inPhase, firstRunChecked_mdc]
  rfl

/-- With the count in order the check does nothing (R71). -/
theorem firstRunChecked_within {mark : Bool} (within : s.pvt.expectedReported = true
    ∨ s.pvt.entries.length ≤ s.mdc.settings.nExp - 1) :
    (s.firstRunChecked mark).frb = s.frb ∧ (s.firstRunChecked mark).pvt = s.pvt := by
  have quiet : ¬ s.windowSettled.countDue = true := by
    rw [windowSettled_countDue]
    rcases within with reported | few <;> simp [State.countDue, State.exceedsExpected, *]
  unfold State.firstRunChecked State.countChecked
  rw [if_neg quiet]
  exact ⟨rfl, rfl⟩

/-- With the count exceeded the check makes its record (R71). -/
theorem firstRunChecked_beyond {mark : Bool} (unreported : s.pvt.expectedReported = false)
    (many : s.mdc.settings.nExp - 1 < s.pvt.entries.length) :
    (s.firstRunChecked mark).frb = { s.frb with banks := s.frb.banks.store .node (s.expectedRecord mark) }
      ∧ (s.firstRunChecked mark).pvt = { s.pvt with expectedReported := true } := by
  have due : s.windowSettled.countDue = true := by
    rw [windowSettled_countDue]
    simp [State.countDue, State.exceedsExpected, unreported, many]
  unfold State.firstRunChecked State.countChecked
  rw [if_pos due]
  exact ⟨rfl, rfl⟩

/-- The table's last entry has the highest node number of it. -/
theorem Pvt.highest_max {p : Pvt} (order : p.entries.Pairwise (fun e f => e.node < f.node)) (some : p.entries ≠ []) :
    ∃ e ∈ p.entries, e.node = p.highest ∧ ∀ f ∈ p.entries, f.node ≤ e.node := by
  refine ⟨p.entries.getLast some, List.getLast_mem some, ?_, fun f hf => ?_⟩
  · simp [Pvt.highest, List.getLast?_eq_some_getLast some]
  · exact (order.imp Nat.le_of_lt).rel_getLast_of_rel_getLast_getLast hf le_rfl

theorem markExpired_keeps (s : State) (b : Bool) : s.keeps (s.markExpired b) [.mdc] := by
  intro b other
  cases b
  case mdc => simp at other
  all_goals rfl

theorem countChecked_free (s : State) (mark : Bool) : (s.countChecked mark).free = s.free := by
  unfold State.countChecked
  split <;> rfl

theorem firstRun_free (s : State) : s.firstRun.free = s.free := rfl

theorem firstRunChecked_free (s : State) (mark : Bool) : (s.firstRunChecked mark).free = s.free :=
  (firstRun_free _).trans (countChecked_free _ mark)

theorem firstRunChecked_lane (lane : s.free.laneFault = none) (mark : Bool) :
    (s.firstRunChecked mark).free.laneFault = none :=
  (congrArg Free.laneFault (firstRunChecked_free s mark)).trans lane

/-- Under drive demand nothing more is acted on in the RELEASED that the window ends in (R99, R102). -/
theorem firstRunChecked_steady (demand : s.demand.isSome = true) (lane : s.free.laneFault = none) (mark : Bool) :
    (s.firstRunChecked mark).steady := by
  have records : (s.firstRunChecked mark).vir = s.vir := firstRunChecked_keeps s mark .vir (by decide)
  refine .inr (.inr ⟨firstRunChecked_inPhase s mark, ?_, firstRunChecked_lane lane mark⟩)
  rw [State.demand, records]
  exact demand

/-- What the mask in force leaves open of the check's record is its reported mark alone (R71, R200). -/
theorem expectedRecord_stored (config : s.mdc.mode = .config) (empty : s.frb.banks.node = none) (mark : Bool) :
    (s.frb.banks.store .node (s.expectedRecord mark)).node.map
        (fun r => (r.severity, r.cls, r.element, r.activity, r.overflow))
      = some (.advisory, .consistency, some (.peer s.pvt.highest), .inMode .config, false) := by
  simp [Banks.store, Banks.put, Banks.get, empty, overwrite, State.expectedRecord, State.complete, expectedReport,
    plainReport, State.activity, config]

theorem firstRunChecked_number (s : State) (mark : Bool) : (s.firstRunChecked mark).number = s.number :=
  State.number_of_straps (by rw [firstRunChecked_mdc])

/-- What the end of the window leaves at the end of its command. -/
structure State.windowEnds (s t : State) : Prop where
  released : t.inPhase .released = true
  mdc : t.mdc.lasting = { s.mdc.lasting with
    settings := s.mdc.settings.reconciled, frozen := true, mode := .run, reliefTime := 0 }
  csu : t.csu = { s.csu with nextPoint := s.mdc.settings.reconciled.firstPoint }
  margin : t.hal.margin = effectiveMargin s.mdc.settings.reconciled s.drumCounts
  lanes : t.hal.lanes = s.hal.lanes
  current : t.resultCurrent
  cpr : t.cpr = s.cpr.enterPassThrough
  line : t.pad.asserted = false
  declares : s.sgi.bus ≠ .off → ∃ f ∈ t.sgi.list, f.kind = .declaration ∧ f.id = frameId s.number .declaration
  within : s.pvt.expectedReported = true ∨ s.pvt.entries.length ≤ s.mdc.settings.nExp - 1 →
    t.frb = s.frb ∧ t.pvt = s.pvt
  beyond : s.pvt.expectedReported = false → s.mdc.settings.nExp - 1 < s.pvt.entries.length →
    t.pvt = { s.pvt with expectedReported := true }
      ∧ ∃ mark, t.frb = { s.frb with banks := s.frb.banks.store .node (s.expectedRecord mark) }
  keeps : s.keeps t [.csu, .pvt, .hal, .hpc, .cpr, .pad, .sgi, .mdc, .frb]

theorem enterRun_windowEnds (config : s.mdc.mode = .config) (demand : s.demand.isSome = true)
    (lane : s.free.laneFault = none) (before : State) : ∃ t, conclude before s.enterRun = t ∧ s.windowEnds t := by
  obtain ⟨mark, entered⟩ := enterRun_checked config
  have steady := firstRunChecked_steady demand lane mark
  have begun := runEntered_begins steady.calm
  have ended := conclude_fixed (react_steady before (begun.touches.steady steady (by decide)))
  have keeps := begun.touches.keeps_ended
  have mdc := firstRunChecked_mdc s mark
  obtain ⟨csu, hal, cpr, line, sgi⟩ := firstRunChecked_blocks s mark
  have pvt := keeps .pvt (by decide)
  have frb := keeps .frb (by decide)
  refine ⟨_, (congrArg _ entered).trans ended,
    ?released, ?mdc, ?csu, ?margin, ?lanes, ?current, ?cpr, ?line, ?declares, ?within, ?beyond, ?keeps⟩
  case released =>
    exact ((ended_inPhase _ _).trans (begun.touches.inPhase .released)).trans (firstRunChecked_inPhase s mark)
  case mdc => exact Eq.trans (keeps .mdc (by decide)) (congrArg Mdc.lasting mdc)
  case csu => exact Eq.trans (keeps .csu (by decide)) csu
  case margin => exact begun.margin.trans (congrArg Hal.margin hal)
  case lanes => exact begun.lanes.trans (by rw [hal])
  case current => exact ended_resultCurrent (runEntered_resultCurrent steady.calm)
  case cpr => exact Eq.trans (keeps .cpr (by decide)) cpr
  case line => exact (congrArg Pad.asserted (keeps .pad (by decide))).trans line
  case declares =>
    intro bus
    have placed := runEntered_declares (congrArg Mdc.mode mdc) (firstRunChecked_lane lane mark) (sgi ▸ bus)
    rwa [firstRunChecked_number] at placed
  case within =>
    intro few
    obtain ⟨banks, table⟩ := firstRunChecked_within (mark := mark) few
    exact ⟨Eq.trans frb banks, Eq.trans pvt table⟩
  case beyond =>
    intro unreported many
    obtain ⟨banks, table⟩ := firstRunChecked_beyond (mark := mark) unreported many
    exact ⟨Eq.trans pvt table, mark, Eq.trans frb banks⟩
  case keeps => exact ((firstRunChecked_keeps s mark).trans keeps).mono (by decide)

end

/-- Settles O29: the window is settled, RUN begun in RELEASED, and under drive demand nothing more is acted on. -/
theorem windowEndsInRun : Obligations.WindowEndsInRun := by
  intro s c m b2 b3 b4 b5 b6 b7 config demand lane row
  obtain ⟨expired, marked, run⟩ : ∃ b, b = (c == .windowExpiry || s.mdc.windowExpired)
      ∧ exec c s = .next (conclude s (s.markExpired b).enterRun) := by
    rcases row with ⟨rfl, receives, opened, addressed⟩ | ⟨rfl, time⟩
    · exact ⟨s.mdc.windowExpired, rfl,
        next_conclude s (by rw [configured_eq receives addressed rfl, if_pos opened]; rfl)⟩
    · exact ⟨true, rfl, next_conclude s (if_pos (by simp [config, time]))⟩
  obtain ⟨t, ended, h⟩ := enterRun_windowEnds (s := s.markExpired expired) config demand lane s
  have settings : t.mdc.settings = s.mdc.settings.reconciled := congrArg Mdc.settings h.mdc
  refine ⟨t, run.trans (congrArg _ ended),
    ⟨h.released, congrArg Mdc.frozen h.mdc, settings, congrArg Mdc.reliefTime h.mdc⟩,
    (congrArg Mdc.windowExpired h.mdc).trans marked, ?_, ?_, ?_, h.line,
    fun agreed => h.current h.released (h.lanes.trans agreed),
    h.declares, fun _ ok => ?_, h.within, fun unreported many => ?_, fun unreported many table empty => ?_, ?_⟩
  · rw [settings]
    exact h.csu
  · rw [settings]
    exact h.margin
  · rw [h.cpr]
    exact ⟨rfl, rfl, rfl⟩
  · rw [settings]
    exact Settings.reconciled_ordered ok
  · obtain ⟨pvt, mark, frb⟩ := h.beyond unreported many
    exact ⟨pvt, by rw [frb]; rfl⟩
  · obtain ⟨pvt, mark, frb⟩ := h.beyond unreported many
    obtain ⟨e, mem, highest, greatest⟩ := Pvt.highest_max table.1 (List.ne_nil_of_length_pos (by omega))
    refine ⟨e, mem, greatest, ?_⟩
    rw [frb, highest]
    exact expectedRecord_stored (s := s.markExpired expired) config empty mark
  · exact ((markExpired_keeps s expired).trans h.keeps).mono (by decide)

end Sys2Proof.Machine

/-! PROOF. What handings, reports and frames leave in a hold with sound lanes (R78, R89, R122, R171, R202). -/

namespace Sys2Proof.Machine

/-! ## Targets handed to the CPR (R137) -/

theorem Cpr.bandTest_reads (k : Cpr) : k.bandTest.reading = k.reading := by
  unfold Cpr.bandTest
  repeat' split
  all_goals rfl

theorem Cpr.placeTarget_reads (k : Cpr) (o : Operation) : (k.placeTarget o).reading = k.reading := by
  unfold Cpr.placeTarget
  repeat' split
  all_goals rfl

theorem Cpr.take_reads (k : Cpr) (pMax v : Nat) (anew : Bool) : (k.take pMax v anew).reading = k.reading := by
  unfold Cpr.take
  dsimp only
  split
  · rfl
  · split
    · rfl
    · split
      · exact Cpr.placeTarget_reads _ _
      · exact Cpr.bandTest_reads _

/-! ## Targets of HOLDING and SECURED -/

/-- The target is the one that the phase holds by: P_hold in HOLDING, the retained target in SECURED (R90, R122). -/
def State.onTarget (s : State) : Prop :=
  (s.hpc.phase = .holding → s.cpr.target = min s.mdc.settings.pMax s.hpc.pHold)
    ∧ (s.hpc.phase = .secured → ∀ p, s.hpc.retained = some p → s.cpr.target = min s.mdc.settings.pMax p)

/-- SECURED with nothing that a delivery can raise: no retained target, or P_max (R88, R122). -/
def State.topped (s : State) : Prop :=
  s.hpc.phase = .secured ∧ (s.hpc.retained = none ∨ s.hpc.retained = some s.mdc.settings.pMax)

/-- What deliveries, reports and frames leave in RUN: the phase and its line, targets that rise alone, and frames in the
list. -/
structure State.upholds (s t : State) : Prop extends s.sustains t where
  csu : t.csu = s.csu
  apart : t.hpc.apart = s.hpc.apart
  margin : t.hal.margin = s.hal.margin
  regulating : t.cpr.regulating = s.cpr.regulating
  reading : t.cpr.reading = s.cpr.reading
  pHold : s.hpc.pHold ≤ t.hpc.pHold
  fixed : s.hpc.phase ≠ .capturing → s.hpc.phase ≠ .holding → t.hpc.pHold = s.hpc.pHold
  rises : s.hpc.phase = .secured → ∀ p, s.hpc.retained = some p → ∃ q, t.hpc.retained = some q ∧ p ≤ q
  onTarget : s.onTarget → t.onTarget
  topped : s.topped → t.cpr = s.cpr ∧ t.hpc.retained = s.hpc.retained
  retains : ∀ k, k ≠ .declaration → s.sgi.retains k t.sgi
  lists : ∀ k, s.sgi.lists k → t.sgi.lists k

section
variable {s t u : State}

/-- A change of banks and frames alone. -/
theorem State.upholds.of_frames (h : s.sustains t) (csu : t.csu = s.csu) (hal : t.hal = s.hal) (hpc : t.hpc = s.hpc)
    (cpr : t.cpr = s.cpr) (retains : ∀ k, k ≠ .declaration → s.sgi.retains k t.sgi)
    (lists : ∀ k, s.sgi.lists k → t.sgi.lists k) : s.upholds t where
  tosustains := h
  csu := csu
  apart := by rw [hpc]
  margin := by rw [hal]
  regulating := by rw [cpr]
  reading := by rw [cpr]
  pHold := by rw [hpc]
  fixed := fun _ _ => by rw [hpc]
  rises := fun _ p retained => ⟨p, by rw [hpc, retained], le_rfl⟩
  onTarget := by simp only [State.onTarget, cpr, hpc, h.mdc, imp_self]
  topped := fun _ => ⟨cpr, by rw [hpc]⟩
  retains := retains
  lists := lists

theorem State.upholds.refl (s : State) : s.upholds s :=
  .of_frames (.refl s) rfl rfl rfl rfl (fun k _ => .refl k _) (fun _ => id)

theorem State.upholds.trans (h : s.upholds t) (k : t.upholds u) : s.upholds u where
  tosustains := h.tosustains.trans k.tosustains
  csu := k.csu.trans h.csu
  apart := k.apart.trans h.apart
  margin := k.margin.trans h.margin
  regulating := k.regulating.trans h.regulating
  reading := k.reading.trans h.reading
  pHold := h.pHold.trans k.pHold
  fixed := fun capturing holding => (k.fixed (h.phase ▸ capturing) (h.phase ▸ holding)).trans (h.fixed capturing holding)
  rises := fun phase p retained => by
    obtain ⟨q, raised, above⟩ := h.rises phase p retained
    obtain ⟨x, again, higher⟩ := k.rises (h.phase.trans phase) q raised
    exact ⟨x, again, above.trans higher⟩
  onTarget := fun on => k.onTarget (h.onTarget on)
  topped := fun top => by
    obtain ⟨cpr, retained⟩ := h.topped top
    obtain ⟨cpr', retained'⟩ := k.topped (by
      unfold State.topped
      rw [h.phase, retained, h.mdc]
      exact top)
    exact ⟨cpr'.trans cpr, retained'.trans retained⟩
  retains := fun kind other => (h.retains kind other).trans (k.retains kind other)
  lists := fun kind held => k.lists kind (h.lists kind held)

theorem State.upholds.keeps (h : s.upholds t) : s.keeps t [.hal, .hpc, .cpr, .sgi, .frb] :=
  h.tosustains.touches.keeps.without .csu h.csu

/-- Another line, and handings that take their order: what is upheld reads neither. -/
def State.relined (s : State) (p : Pad) (n : Nat) : State := (s.ordered n).withPad p

theorem State.upholds.relined (h : s.upholds t) (p : Pad) (n : Nat) : (s.relined p n).upholds (t.relined p n) where
  wmt := h.wmt
  glu := h.glu
  pvt := h.pvt
  vir := h.vir
  mdc := h.mdc
  pending := h.pending
  free := congrArg (fun f : Free => { f with order := restOfOrder n f.order }) h.free
  bus := h.bus
  pad := rfl
  phase := h.phase
  handover := h.handover
  failed := h.failed
  retained := h.retained
  csu := h.csu
  apart := h.apart
  margin := h.margin
  regulating := h.regulating
  reading := h.reading
  pHold := h.pHold
  fixed := h.fixed
  rises := h.rises
  onTarget := h.onTarget
  topped := h.topped
  retains := h.retains
  lists := h.lists

theorem State.upholds.ordered (h : s.upholds t) (n : Nat) : (s.ordered n).upholds (t.ordered n) := by
  have moved := h.relined s.pad n
  unfold State.relined State.withPad at moved
  rwa [show ({ t.ordered n with pad := s.pad } : State) = t.ordered n by rw [← h.pad]; rfl] at moved

/-! ## Deliveries -/

theorem deliver_reading (s : State) (r : HalResult) : (s.deliver r).cpr.reading = s.cpr.reading := by
  rcases deliver_cpr s r with e | ⟨v, e⟩ <;> rw [e]
  exact Cpr.take_reads _ _ _ _

theorem deliver_least_pHold (s : State) (r : HalResult) : s.hpc.pHold ≤ (s.deliver r).hpc.pHold := by
  by_cases held : s.hpc.phase = .capturing ∨ s.hpc.phase = .holding
  · rw [deliver_held_pHold held]
    exact le_max_left _ _
  · rw [deliver_pHold (fun h => held (.inl h)) (fun h => held (.inr h))]

theorem deliver_secured_raises {r : HalResult} {p : Nat} (phase : s.hpc.phase = .secured)
    (retained : s.hpc.retained = some p)
    (less : p < r.pCalc) :
    (s.deliver r).cpr = s.cpr.take s.mdc.settings.pMax r.pCalc false := by
  rw [deliver_secured phase]
  show ((s.keepDelivery r).raiseRetained r.pCalc).cpr = _
  unfold State.raiseRetained
  rw [show (s.keepDelivery r).hpc.retained = some p from retained]
  dsimp only
  rw [if_pos less]
  rfl

theorem deliver_secured_cpr {r : HalResult} (phase : s.hpc.phase = .secured)
    (top : ∀ p, s.hpc.retained = some p → r.pCalc ≤ p) : (s.deliver r).cpr = s.cpr := by
  rw [deliver_secured phase]
  unfold State.raiseRetained
  split
  case h_1 p retained => rw [if_neg (Nat.not_lt.2 (top p retained))]; rfl
  case h_2 => rfl

theorem deliver_onTarget {r : HalResult} (on : s.onTarget) : (s.deliver r).onTarget := by
  have kept := deliver_delivers s r
  refine ⟨fun phase => ?_, fun phase p retained => ?_⟩
  · have phase' := kept.phase.symm.trans phase
    rw [kept.mdc, deliver_held_pHold (.inr phase')]
    rcases Nat.lt_or_ge s.hpc.pHold r.pCalc with less | least
    · rw [deliver_held_target (.inr phase') less, max_eq_right less.le]
    · rw [deliver_held_cpr (.inr phase') least, max_eq_left least]
      exact on.1 phase'
  · have phase' := kept.phase.symm.trans phase
    rw [deliver_secured_retained phase', Option.map_eq_some_iff] at retained
    obtain ⟨q, retained, rfl⟩ := retained
    rw [kept.mdc]
    rcases Nat.lt_or_ge q r.pCalc with less | least
    · rw [deliver_secured_raises phase' retained less, Cpr.take_target, max_eq_right less.le]
    · rw [deliver_secured_cpr phase' (fun x hx => by obtain rfl := Option.some.inj (retained.symm.trans hx); exact least),
        max_eq_left least]
      exact on.2 phase' q retained

theorem deliver_topped {r : HalResult} (low : r.pCalc ≤ s.mdc.settings.pMax) (top : s.topped) :
    (s.deliver r).cpr = s.cpr ∧ (s.deliver r).hpc.retained = s.hpc.retained := by
  obtain ⟨phase, retained⟩ := top
  rw [deliver_secured_retained phase]
  rcases retained with none | most
  · exact ⟨deliver_secured_cpr phase (by simp [none]), by simp [none]⟩
  · exact ⟨deliver_secured_cpr phase (by simp [most, low]), by simp [most, low]⟩

theorem deliver_rises {r : HalResult} {p : Nat} (phase : s.hpc.phase = .secured) (retained : s.hpc.retained = some p) :
    ∃ q, (s.deliver r).hpc.retained = some q ∧ p ≤ q :=
  ⟨_, by rw [deliver_secured_retained phase, retained]; rfl, le_max_left _ _⟩

theorem deliver_upholds {r : HalResult} (low : r.pCalc ≤ s.mdc.settings.pMax) : s.upholds (s.deliver r) where
  tosustains := (deliver_delivers s r).tosustains
  csu := (deliver_delivers s r).csu
  apart := deliver_apart s r
  margin := deliver_margin
  regulating := deliver_regulating s r
  reading := deliver_reading s r
  pHold := deliver_least_pHold s r
  fixed := deliver_pHold
  rises := fun phase _ => deliver_rises phase
  onTarget := deliver_onTarget
  topped := deliver_topped low
  retains := fun k _ => (congrArg (Sgi.retains k s.sgi) deliver_sgi).mpr (.refl k _)
  lists := fun k => (congrArg (Sgi.lists · k) deliver_sgi).mpr

/-- With no lane going wrong (R78, R88). -/
theorem halRecompute_upholds (lane : s.free.laneFault = none) : s.upholds s.halRecompute := by
  by_cases run : s.mdc.mode = .run
  · rcases halRecompute_cases run lane with ⟨-, e⟩ | ⟨-, e⟩ <;> rw [e]
    · exact deliver_upholds (pCalc_le_pMax s)
    · exact .refl s
  · rw [halRecompute_idle (.inl run)]
    exact .refl s

/-! ## Frames, reports and handings -/

theorem placeDeclaration_still_lists (s : State) {k : TxKind} (held : s.sgi.lists k) : s.placeDeclaration.sgi.lists k := by
  rcases placeDeclaration_sgi s with same | ⟨-, data, placed⟩
  · rwa [same]
  · rw [placed]
    exact Sgi.lists_place.2 (.inr held)

theorem placeDeclaration_upholds (s : State) : s.upholds s.placeDeclaration :=
  .of_frames (placeDeclaration_delivers s).tosustains (by simp) (by simp) (by simp) (by simp)
    (fun _ other => placeDeclaration_retains other) (fun _ held => placeDeclaration_still_lists s held)

theorem storeReport_upholds (s : State) (r : Report) : s.upholds (s.storeReport r) :=
  .of_frames (storeReport_sustains s r) (by simp) (by simp) (by simp) (by simp)
    (fun _ other => storeReport_retains other r) (fun _ held => storeReport_still_lists held r)

/-- A report that is no second severe one (R199 to R202). -/
theorem report_upholds {r : Report} (lane : s.free.laneFault = none) (first : s.secondSevere r = false) :
    s.upholds (s.report r) := by
  have stored := storeReport_upholds s r
  unfold State.report State.answerCause
  rw [first, if_neg (by decide)]
  unfold State.handCompromise
  split
  · exact stored
  · exact stored.trans (halRecompute_upholds (stored.lane lane))

/-- What an entry to RUN sets off in a hold (R78, R171). -/
theorem runEntered_upholds (lane : s.free.laneFault = none) : (s.ordered 2).upholds s.runEntered := by
  refine handAll_keeps (I := (s.ordered 2).upholds) (l := [State.halRecompute, State.placeDeclaration]) ?_ (.refl _)
  simp only [List.mem_cons, List.not_mem_nil, or_false, forall_eq_or_imp, forall_eq]
  exact ⟨fun t ht => ht.trans (halRecompute_upholds (ht.lane lane)), fun t ht => ht.trans (placeDeclaration_upholds t)⟩

theorem runEntered_delivers (lane : s.free.laneFault = none) : (s.ordered 2).delivers s.runEntered := by
  refine handAll_keeps (I := (s.ordered 2).delivers) (l := [State.halRecompute, State.placeDeclaration]) ?_ (.refl _)
  simp only [List.mem_cons, List.not_mem_nil, or_false, forall_eq_or_imp, forall_eq]
  exact ⟨fun t ht => ht.trans (halRecompute_delivers (ht.lane lane)), fun t ht => ht.trans (placeDeclaration_delivers t)⟩

end

end Sys2Proof.Machine

/-! PROOF. The WATCH request and the wake from WATCH (R20, R29, R39, R124, R148, R193 to R195). -/

namespace Sys2Proof.Machine

/-! ## The request granted (R193, R194) -/

section
variable {s : State}

theorem exec_wakeHoldExpiry (elapsed : s.wakeHoldOver = true) (requests : s.requestsWatch = true) :
    exec .wakeHoldExpiry s = .next (conclude s s.answerWatch) := next_conclude s (if_pos (by simp [elapsed, requests]))

theorem State.requestsWatch_iff (s : State) :
    s.requestsWatch = true ↔ s.inPhase .secured = true ∧ s.hpc.retained = none ∧ s.ignition = false := by
  simp [State.requestsWatch, and_assoc]

/-- A line that stands as it is asked for is left by a judgement. -/
theorem Pad.judge_settled {p : Pad} (settled : p.asserted = p.asked) (spring : Bool) : p.judge spring = p :=
  if_pos settled.symm

theorem enterWatch_pad (settled : s.lineOk) (idle : s.pad.mdcRequest = false) :
    s.enterWatch.pad = s.pad.enterWatch := by
  have same : ({ s.pad with mdcRequest := false } : Pad) = s.pad := by rw [← idle]
  show (({ s.pad with mdcRequest := false } : Pad).judge s.spring).enterWatch = _
  rw [same, Pad.judge_settled settled]

theorem enterWatch_keeps (s : State) : s.keeps s.enterWatch [.wmt, .glu, .hpc, .cpr, .pad, .sgi, .mdc] := by
  intro b other
  cases b
  case csu | pvt | vir | hal | frb | queue => rfl
  all_goals simp at other

/-- WATCH below the Notice point acts on nothing. -/
theorem conclude_enterWatch (quiet : s.csu.noticeReached s.mdc.settings = false) (before : State) :
    conclude before s.enterWatch = s.enterWatch.lapse.drawn :=
  conclude_fixed (react_dormant before (.inr ⟨rfl, quiet⟩))

/-! ## The request refused (R193) -/

/-- The request pending after its first refusal. -/
def State.asking (s : State) : State := s.withMdc { s.mdc with watchRequest := some true }

/-- The request answered where it stands, as a round in SECURED does (R193). -/
def State.answered (s : State) : State := if s.requestsWatch then s.answerWatch else s

theorem answerWatch_pending (refused : s.watchRefused = true) (pending : s.mdc.watchRequest = some true) :
    s.answerWatch = s := by
  simp [State.answerWatch, refused, pending]

theorem answerWatch_first (refused : s.watchRefused = true) (first : s.mdc.watchRequest ≠ some true) :
    s.answerWatch = s.asking.report watchRefusedReport := by
  unfold State.answerWatch
  rw [if_pos refused]
  split
  · exact absurd ‹_› first
  · rfl

/-- What a refused request leaves: the hold as it stands, the request pending, and the advisory at the first refusal. -/
theorem answerWatch_refused (lane : s.free.laneFault = none) (refused : s.watchRefused = true) :
    s.asking.upholds s.answerWatch
      ∧ s.answerWatch.frb = if s.mdc.watchRequest = some true then s.frb
        else { s.frb with banks := s.frb.banks.store .node (s.complete watchRefusedReport) } := by
  by_cases pending : s.mdc.watchRequest = some true
  · have same : s.asking = s := by
      show ({ s with mdc := { s.mdc with watchRequest := some true } } : State) = s
      rw [← pending]
    rw [answerWatch_pending refused pending, if_pos pending, same]
    exact ⟨.refl s, rfl⟩
  · rw [answerWatch_first refused pending, if_neg pending]
    have mild : s.asking.secondSevere watchRefusedReport = false := secondSevere_mild Severity.noConfusion
    exact ⟨report_upholds lane mild,
      (report_sustains (s := s.asking) lane mild).2.2.trans (storeReport_mild Severity.noConfusion)⟩

/-- A round in SECURED without a drive-away answers the request (R123, R193). -/
theorem react_secured (before : State) (phase : s.inPhase .secured = true) (away : s.driveAway = false) :
    State.react before s = s.answered := by
  obtain ⟨run, secured⟩ := (inPhase_iff s _).1 phase
  simp [State.react, run, State.reactRun, secured, away, State.answered]

/-- Ignition off is no drive-away (R120, R193). -/
theorem driveAway_of_requests (requests : s.requestsWatch = true) : s.driveAway = false := by
  obtain ⟨-, -, ignition⟩ := (State.requestsWatch_iff s).1 requests
  simp [State.driveAway, ignition]

/-- Ground and refusal of a request read nothing that a refusal changes (R193). -/
theorem State.sustains.requests {t : State} (h : s.sustains t) :
    t.requestsWatch = s.requestsWatch ∧ (t.csu = s.csu → t.watchRefused = s.watchRefused) := by
  have key := congrArg Mdc.key h.mdc
  have grounds : t.ignition = s.ignition := by simp only [State.ignition, h.vir, key]
  have retained : t.hpc.retained.isNone = s.hpc.retained.isNone := by
    rw [← Option.not_isSome, ← Option.not_isSome, h.retained]
  exact ⟨by simp only [State.requestsWatch, h.inPhase, retained, grounds],
    fun csu => by simp only [State.watchRefused, h.wmt, csu, h.mdc]⟩

/-- A refused request rests until its next judgement: a second round changes nothing (R193). -/
theorem react_refused (before : State) (lane : s.free.laneFault = none) (requests : s.requestsWatch = true)
    (refused : s.watchRefused = true) : State.react before s.answerWatch = s.answerWatch := by
  have upheld := (answerWatch_refused lane refused).1
  have requests' : s.answerWatch.requestsWatch = true := upheld.requests.1.trans requests
  have refused' : s.answerWatch.watchRefused = true := (upheld.requests.2 upheld.csu).trans refused
  have pending : s.answerWatch.mdc.watchRequest = some true := congrArg Mdc.watchRequest upheld.mdc
  rw [react_secured before ((State.requestsWatch_iff _).1 requests').1 (driveAway_of_requests requests'), State.answered,
    if_pos requests', answerWatch_pending refused' pending]

end

/-- Settles O46: a request that nothing refuses enters WATCH, which rests; a refused one rests in SECURED. -/
theorem watchRequestIsAnswered : Obligations.WatchRequestIsAnswered := by
  refine ⟨fun s elapsed requests position notice below settled idle => ?_,
    fun s elapsed requests refusal lane => ?_⟩
  · have hold : s.mdc.woken = true ∧ sec 1 ≤ s.mdc.wakeHold := by simpa [State.wakeHoldOver] using elapsed
    have granted : s.answerWatch = s.enterWatch := if_neg (by simp [State.watchRefused, position, notice, hold.2])
    obtain ⟨phase, -, -⟩ := (State.requestsWatch_iff s).1 requests
    have pad : s.enterWatch.lapse.drawn.pad = s.pad.enterWatch := enterWatch_pad settled idle
    refine ⟨_, (exec_wakeHoldExpiry elapsed requests).trans
      (congrArg _ ((congrArg _ granted).trans (conclude_enterWatch below s))),
      ⟨rfl, ((inPhase_iff s _).1 phase).2, ite_self (c := s.enterWatch.requestsWatch = true) none⟩,
      ⟨rfl, rfl, rfl, rfl, rfl, position⟩, ⟨rfl, rfl, rfl, rfl, rfl⟩, ⟨rfl, rfl, rfl, rfl, rfl⟩,
      ⟨by rw [pad]; rfl, by rw [pad]; rfl, by rw [pad]; rfl⟩, ⟨rfl, rfl, rfl, rfl, rfl⟩,
      (enterWatch_keeps s).ended⟩
  · have refused : s.watchRefused = true := by
      rcases refusal with position | notice <;> simp [State.watchRefused, *]
    obtain ⟨upheld, frb⟩ := answerWatch_refused lane refused
    obtain ⟨phase, -, -⟩ := (State.requestsWatch_iff s).1 requests
    refine ⟨_, (exec_wakeHoldExpiry elapsed requests).trans
      (congrArg _ (conclude_fixed (react_refused s lane requests refused))),
      ⟨(ended_inPhase _ _).trans ((upheld.inPhase _).trans phase), ?_⟩, fun pending => frb.trans (if_pos pending),
      fun first => frb.trans (if_neg first), ((withMdc_keeps s _).trans upheld.keeps.ended).mono (by decide)⟩
    show (if s.answerWatch.requestsWatch then s.answerWatch.mdc.watchRequest else none) = some true
    rw [if_pos (upheld.requests.1.trans requests), upheld.mdc]
    rfl

end Sys2Proof.Machine

/-! PROOF. The return from WATCH to SECURED (R20, R29, R39, R124, R148, R179, R180, R195). -/

namespace Sys2Proof.Machine

/-! ## SECURED at the end of a command (R123, R193) -/

section
variable {s t u : State}

/-- SECURED in which nothing but a refused request is acted on ends as it stands, with the request pending. -/
theorem conclude_secured (before : State) (phase : s.inPhase .secured = true) (away : s.driveAway = false)
    (lane : s.free.laneFault = none) (held : s.requestsWatch = true → s.watchRefused = true) :
    ∃ w u, conclude before s = u.lapse.drawn ∧ (s.withMdc { s.mdc with watchRequest := w }).upholds u
      ∧ (u.frb = s.frb ∨ u.frb = { s.frb with banks := s.frb.banks.store .node (s.complete watchRefusedReport) }) := by
  have first := react_secured before phase away
  unfold State.answered at first
  by_cases requests : s.requestsWatch = true
  · rw [if_pos requests] at first
    obtain ⟨upheld, frb⟩ := answerWatch_refused lane (held requests)
    refine ⟨_, _, conclude_settled first (react_refused before lane requests (held requests)), upheld, ?_⟩
    rw [frb]
    split
    · exact .inl rfl
    · exact .inr rfl
  · rw [if_neg requests] at first
    exact ⟨s.mdc.watchRequest, s, conclude_fixed first, .refl s, .inl rfl⟩

/-! ## The blocks at the return (R20, R124, R148) -/

/-- WATCH over a hold whose line stands as it is asked for. -/
structure State.sleeps (s : State) : Prop where
  watch : s.mdc.mode = .watch
  phase : s.hpc.phase = .secured
  settled : s.lineOk
  idle : s.pad.mdcRequest = false

/-- The blocks and the target of SECURED with the margin formed anew, the line left as it stands. -/
def State.woken (s : State) (parked : Bool) : State := (s.wakeTarget parked).formMargin

theorem line_settled (settled : s.lineOk) : s.line = s := by
  have quiet : s.lineTimesOut = false := by
    have same : s.pad.asked = s.pad.asserted := settled.symm
    unfold State.lineTimesOut Pad.timesOut
    rw [same]
    cases s.pad.asserted <;> simp
  rw [line_quiet quiet, State.judgeLine, Pad.judge_settled settled]

theorem woken_pad (idle : s.pad.mdcRequest = false) (parked : Bool) :
    (s.wakeTarget parked).pad = { s.pad with reading := true } := by
  show ({ s.pad with reading := true, mdcRequest := false } : Pad) = _
  rw [← idle]

theorem wakeBlocks_eq (sleeps : s.sleeps) (parked : Bool) : s.wakeBlocks parked = s.woken parked := by
  unfold State.wakeBlocks
  rw [line_settled]
  · rfl
  · show (s.wakeTarget parked).pad.asserted = (s.wakeTarget parked).pad.asked
    rw [woken_pad sleeps.idle]
    exact sleeps.settled

/-- RUN as the return begins it, with the Rouse placed (R180). -/
def State.roused (s : State) (parked : Bool) : State := (s.woken parked).placeRouse

/-- What a return to SECURED leaves of a node in WATCH. -/
structure State.wakesUp (s t : State) : Prop where
  inPhase : t.inPhase .secured = true
  mdc : t.mdc.lasting = { s.mdc.lasting with mode := .run, reliefTime := 0, wakeHold := 0, woken := true }
  wmt : t.wmt = s.wmt.leaveWatch
  glu : t.glu.reading = true
  pad : t.pad = { s.pad with reading := true }
  keeps : s.keeps t [.wmt, .csu, .glu, .hal, .hpc, .cpr, .pad, .sgi, .mdc, .frb]

theorem State.wakesUp.requested {w : Option Bool} (h : s.wakesUp t)
    (k : (t.withMdc { t.mdc with watchRequest := w }).sustains u) : s.wakesUp u where
  inPhase := (k.inPhase _).trans h.inPhase
  mdc := (congrArg Mdc.lasting k.mdc).trans h.mdc
  wmt := k.wmt.trans h.wmt
  glu := (congrArg Glu.reading k.glu).trans h.glu
  pad := k.pad.trans h.pad
  keeps := ((h.keeps.trans (withMdc_keeps t _)).trans k.touches.keeps).mono (by decide)

theorem State.wakesUp.sustained (h : s.wakesUp t) (k : t.sustains u) : s.wakesUp u :=
  h.requested (w := t.mdc.watchRequest) k

theorem State.wakesUp.ended (h : s.wakesUp t) : s.wakesUp t.lapse.drawn :=
  ⟨(ended_inPhase t _).trans h.inPhase, h.mdc, h.wmt, h.glu, h.pad, h.keeps.ended⟩

theorem roused_wakesUp (sleeps : s.sleeps) (parked : Bool) : s.wakesUp ((s.roused parked).ordered 2) where
  inPhase := (inPhase_iff _ _).2 ⟨congrArg Mdc.mode (State.placeRouse_mdc (s.woken parked)),
    (congrArg Hpc.phase (State.placeRouse_hpc (s.woken parked))).trans sleeps.phase⟩
  mdc := congrArg Mdc.lasting (State.placeRouse_mdc (s.woken parked))
  wmt := State.placeRouse_wmt (s.woken parked)
  glu := (congrArg Glu.reading (State.placeRouse_glu (s.woken parked))).trans (chooseGrade_reading _ _)
  pad := (State.placeRouse_pad (s.woken parked)).trans (woken_pad sleeps.idle parked)
  keeps := by
    intro b other
    cases b
    case pvt => exact State.placeRouse_pvt (s.woken parked)
    case vir => exact State.placeRouse_vir (s.woken parked)
    case queue => exact State.placeRouse_pending (s.woken parked)
    all_goals simp at other

/-- The CPR as the return leaves it, with the target of SECURED (R124, R130, R148). -/
theorem woken_cpr (s : State) (parked : Bool) : (s.woken parked).cpr.regulating = true
    ∧ (s.woken parked).cpr.reading = true
    ∧ (s.woken parked).cpr.target
      = min s.mdc.settings.pMax ((if parked then some s.mdc.settings.pMax else s.hpc.retained).getD s.mdc.settings.pPush) :=
  ⟨take_regulating _ _ _ _, Cpr.take_reads _ _ _ _, Cpr.take_target _ _ _ _⟩

/-! ## The end of the return (R29, R193, R195) -/

theorem driveAway_of_key (vir : t.vir = s.vir) (key : t.mdc.key = s.mdc.key) : t.driveAway = s.driveAway := by
  unfold State.driveAway State.driverAbsent State.ignition State.demand
  rw [vir, key]

theorem State.wakesUp.away (h : s.wakesUp t) (away : s.driveAway = false) : t.driveAway = false :=
  (driveAway_of_key (h.keeps .vir (by decide)) (congrArg Mdc.key h.mdc :)).trans away

/-- A WATCH request made at the return waits for the wake hold (R193). -/
theorem State.wakesUp.conclude (h : s.wakesUp t) (away : s.driveAway = false) (lane : t.free.laneFault = none)
    (before : State) :
    ∃ w u, Machine.conclude before t = u.lapse.drawn ∧ (t.withMdc { t.mdc with watchRequest := w }).upholds u
      ∧ (u.frb = t.frb ∨ u.frb = { t.frb with banks := t.frb.banks.store .node (t.complete watchRefusedReport) }) := by
  have woken : t.mdc.woken = true := congrArg Mdc.woken h.mdc
  have hold : t.mdc.wakeHold = 0 := congrArg Mdc.wakeHold h.mdc
  exact conclude_secured before h.inPhase (h.away away) lane fun _ => by simp [State.watchRefused, woken, hold]

theorem drumCounts_of_same (vir : t.vir = s.vir) : t.drumCounts = s.drumCounts := by
  unfold State.drumCounts
  rw [vir]

theorem roused_lane (lane : s.free.laneFault = none) (parked : Bool) : (s.roused parked).free.laneFault = none :=
  (congrArg Free.laneFault (State.placeRouse_free (s.woken parked))).trans lane

/-- RUN entered at the return, with its recomputation and its Declaration. -/
theorem wake_entered (lane : s.free.laneFault = none) (parked : Bool) :
    ((s.roused parked).ordered 2).upholds (s.roused parked).runEntered := runEntered_upholds (roused_lane lane parked)

theorem wake_eq (sleeps : s.sleeps) : s.wake false = (s.roused false).runEntered.blindAtReturn := by
  unfold State.wake
  rw [wakeBlocks_eq sleeps]
  rfl

theorem blindAtReturn_sighted (value : s.csu.effective.isSome = true) : s.blindAtReturn = s := by
  unfold State.blindAtReturn
  rw [if_neg]
  rw [Option.isSome_iff_ne_none] at value
  simp [value]

theorem roused_csu (s : State) (parked : Bool) : (s.roused parked).csu = s.csu := State.placeRouse_csu (s.woken parked)

/-- A return that finds a value of effective creep is no more than the entry to RUN. -/
theorem wake_sighted (sleeps : s.sleeps) (lane : s.free.laneFault = none) (value : s.csu.effective.isSome = true) :
    s.wake false = (s.roused false).runEntered := by
  rw [wake_eq sleeps, blindAtReturn_sighted]
  rw [(wake_entered lane false).csu]
  exact (congrArg (fun u : Csu => u.effective.isSome) (roused_csu s false)).trans value

/-- The Rouse of a return (R180). -/
theorem roused_rouse (bus : s.sgi.bus ≠ .off) (parked : Bool) :
    ∃ f ∈ (s.roused parked).sgi.list, f.kind = .rouse ∧ f.id = 0 ∧ f.data = List.replicate 8 0#8 := by
  have may : (s.woken parked).mayPlace .rouse = true := mayPlace_awake (s := s.woken parked) (.inl rfl) bus _
  have placed : (s.roused parked).sgi = (s.woken parked).sgi.place
      { kind := .rouse, id := 0, data := List.replicate 8 0#8 } :=
    congrArg State.sgi (if_pos may)
  rw [placed]
  exact ⟨_, Sgi.mem_place _ _, rfl, rfl, rfl⟩

theorem wake_declares (bus : s.sgi.bus ≠ .off) (lane : s.free.laneFault = none) (parked : Bool) :
    (s.roused parked).runEntered.sgi.lists .declaration := by
  have run : (s.roused parked).mdc.mode = .run := congrArg Mdc.mode (State.placeRouse_mdc (s.woken parked))
  have same : (s.roused parked).sgi.bus = s.sgi.bus := State.place_bus (s.woken parked) .rouse _
  obtain ⟨f, mem, kind, -⟩ := runEntered_declares run (roused_lane lane parked) (same ▸ bus)
  exact ⟨f, mem, kind⟩

/-! ## Wake causes (R179, R195) -/

/-- A state that differs from the one that WATCH stood in by the rouse detector or the key line alone. -/
structure State.stirs (s x : State) : Prop where
  keeps : s.keeps x [.sgi, .mdc]
  hpc : x.hpc = s.hpc
  mdc : x.mdc = { s.mdc with key := x.mdc.key }
  bus : x.sgi.bus = s.sgi.bus
  free : x.free = s.free
  away : s.driveAway = false → x.driveAway = false

/-- A key line that rises makes no drive-away: it counts only where no cab frame says that the driver is present (R73). -/
theorem driveAway_setKey (away : s.driveAway = false) (k : Bool) : (s.setKey k).driveAway = false := by
  unfold State.driveAway State.driverAbsent State.ignition at away ⊢
  cases cab : s.vir.cab with
  | none => simp [cab]
  | some c =>
    simp only [cab] at away
    simpa [show (s.setKey k).vir = s.vir from rfl, show (s.setKey k).demand = s.demand from rfl, cab] using away

/-- A rising key line and the third qualifying dominant phase return from WATCH. -/
theorem wakeRow_stirs {c : Instr} (watch : s.mdc.mode = .watch)
    (row : c = .keyLineEdge ∨ (c = .qualifyingDominantPhase ∧ 2 ≤ s.sgi.rouseCount)) :
    ∃ x, exec c s = .next (conclude s (x.wake false)) ∧ s.stirs x := by
  rcases row with rfl | ⟨rfl, third⟩
  · refine ⟨s.setKey true, next_conclude s (by simp [State.keyRises, watch]), ?_⟩
    exact ⟨(withMdc_keeps s _).mono (by decide), rfl, rfl, rfl, rfl, fun away => driveAway_setKey away true⟩
  · refine ⟨s.withSgi { s.sgi with rouseCount := 0, rouseWindow := 0 },
      next_conclude s (by simp [State.dominant, watch, third, State.withSgi]), ?_⟩
    exact ⟨(withSgi_keeps s _).mono (by decide), rfl, rfl, rfl, rfl, fun away => (driveAway_of_key rfl rfl).trans away⟩

theorem State.stirs.sleeps {x : State} (h : s.stirs x) (sleeps : s.sleeps) : x.sleeps := by
  have pad : x.pad = s.pad := h.keeps .pad (by decide)
  refine ⟨(congrArg Mdc.mode h.mdc).trans sleeps.watch, (congrArg Hpc.phase h.hpc).trans sleeps.phase, ?_,
    (congrArg Pad.mdcRequest pad).trans sleeps.idle⟩
  rw [State.lineOk, pad]
  exact sleeps.settled

/-- The parts that a return without an onset or parked creep leaves in SECURED. -/
structure State.wakesTo (s t : State) : Prop extends s.wakesUp t where
  csu : t.csu = s.csu
  cpr : t.cpr.regulating = true ∧ t.cpr.reading = true
  target : s.hpc.retained = none → t.cpr.target = min s.mdc.settings.pMax s.mdc.settings.pPush
  margin : t.hal.margin = effectiveMargin s.mdc.settings s.drumCounts
  rouse : s.sgi.bus ≠ .off → ∃ f ∈ t.sgi.list, f.kind = .rouse ∧ f.id = 0 ∧ f.data = List.replicate 8 0#8
  declares : s.sgi.bus ≠ .off → t.sgi.lists .declaration

theorem wake_wakesTo (sleeps : s.sleeps) (lane : s.free.laneFault = none) (value : s.csu.effective.isSome = true)
    (away : s.driveAway = false) (before : State) : ∃ t, conclude before (s.wake false) = t ∧ s.wakesTo t := by
  have entry := wake_entered lane false
  have back := (roused_wakesUp sleeps false).sustained entry.tosustains
  obtain ⟨w, u, ended, rests, -⟩ := back.conclude away (entry.lane (roused_lane lane false)) before
  obtain ⟨regulating, reading, target⟩ := woken_cpr s false
  have cpr : (s.roused false).cpr = (s.woken false).cpr := State.placeRouse_cpr _
  have hal : (s.roused false).hal = (s.woken false).hal := State.placeRouse_hal _
  have hpc : (s.roused false).hpc = (s.woken false).hpc := State.placeRouse_hpc _
  refine ⟨_, (congrArg _ (wake_sighted sleeps lane value)).trans ended,
    { (back.requested rests.tosustains).ended with
      csu := rests.csu.trans (entry.csu.trans (roused_csu s false))
      cpr := ⟨rests.regulating.trans (entry.regulating.trans ((congrArg Cpr.regulating cpr).trans regulating)),
        rests.reading.trans (entry.reading.trans ((congrArg Cpr.reading cpr).trans reading))⟩
      target := fun none => ?_
      margin := rests.margin.trans (entry.margin.trans (congrArg Hal.margin hal))
      rouse := fun bus => ?_
      declares := fun bus => rests.lists _ (wake_declares bus lane false) }⟩
  · have free : (s.roused false).hpc.retained = .none := (congrArg Hpc.retained hpc).trans none
    have secured : (s.roused false).hpc.phase = .secured := (congrArg Hpc.phase hpc).trans sleeps.phase
    obtain ⟨same, still⟩ := entry.topped ⟨secured, .inl free⟩
    obtain ⟨again, -⟩ := rests.topped ⟨entry.phase.trans secured, .inl (still.trans free)⟩
    rw [none] at target
    exact (congrArg Cpr.target (again.trans (same.trans cpr))).trans target
  · obtain ⟨f, mem, kind, rest⟩ := roused_rouse bus false
    exact ⟨f, rests.retains .rouse (by decide) f (entry.retains .rouse (by decide) f mem kind) kind, kind, rest⟩

/-! ## A return that finds effective creep blind (R29) -/

/-- RUN as a blind return enters it, before the onset. -/
theorem wake_blind (sleeps : s.sleeps) (lane : s.free.laneFault = none) (anchor : s.csu.anchor ≠ .absent)
    (blind : s.csu.effective = none) : s.wake false = (s.roused false).runEntered.blindOnset := by
  have entry := wake_entered lane false
  have csu : (s.roused false).runEntered.csu = s.csu := entry.csu.trans (roused_csu s false)
  have secured := (entry.inPhase _).trans (roused_wakesUp sleeps false).inPhase
  rw [wake_eq sleeps]
  unfold State.blindAtReturn
  rw [if_pos]
  simp [csu, blind, Csu.anchored, anchor, inHold_of_inPhase secured rfl]

/-- What the onset at a blind return leaves: both levels at 4, and the severe SENSE record (R29; log entry 23). -/
structure State.wakesBlind (s t : State) : Prop extends s.wakesUp t where
  csu : t.csu = { s.csu with blind := true, ownLevel := 4, nodeLevel := 4 }
  active : t.frb.responseActive = true
  sense : s.frb.banks.sense = none → t.frb.banks.sense.map (fun r => (r.severity, r.cls, r.element, r.activity))
    = some (.severe, .signal, some .creep, .inPhase .secured)

/-- The record of blind creep, completed in SECURED (R29, R199). -/
theorem blindRecord_stored (secured : s.inPhase .secured = true) {b : Banks} (empty : b.sense = none) :
    (b.store .sense (s.complete blindReport)).sense.map (fun r => (r.severity, r.cls, r.element, r.activity))
      = some (.severe, .signal, some .creep, .inPhase .secured) := by
  obtain ⟨run, phase⟩ := (inPhase_iff s _).1 secured
  simp [Banks.store, Banks.put, Banks.get, empty, overwrite, State.complete, blindReport, plainReport, State.activity, run,
    phase]

theorem wake_wakesBlind (sleeps : s.sleeps) (lane : s.free.laneFault = none) (away : s.driveAway = false)
    (anchor : s.csu.anchor ≠ .absent) (blind : s.csu.effective = none) (clear : s.frb.responseActive = false)
    (before : State) : ∃ t, conclude before (s.wake false) = t ∧ s.wakesBlind t := by
  have entry := wake_entered lane false
  have up := (roused_wakesUp sleeps false).sustained entry.tosustains
  have frb : (s.roused false).runEntered.frb = s.frb :=
    (runEntered_delivers (roused_lane lane false)).frb.trans (State.placeRouse_frb (s.woken false))
  have lane' := entry.lane (roused_lane lane false)
  obtain ⟨onset, csu, banks⟩ := blindOnset_stays (s := (s.roused false).runEntered) lane' (by rw [frb, clear])
    (.inr (.inr ((inPhase_iff _ _).1 up.inPhase).2))
  obtain ⟨w, u, ended, rests, told⟩ := (up.sustained onset).conclude away (onset.lane lane') before
  refine ⟨_, (congrArg _ (wake_blind sleeps lane anchor blind)).trans ended,
    { ((up.sustained onset).requested rests.tosustains).ended with csu := ?_, active := ?_, sense := fun empty => ?_ }⟩
  · refine rests.csu.trans (csu.trans ?_)
    rw [show (s.roused false).runEntered.csu = s.csu from entry.csu.trans (roused_csu s false)]
  · show u.frb.responseActive = true
    rcases told with same | stored
    · rw [same, banks]
    · rw [stored, banks]
  · have record := blindRecord_stored (s := (s.roused false).runEntered) up.inPhase (b := s.frb.banks) empty
    show u.frb.banks.sense.map _ = _
    rcases told with same | stored
    · rw [same, banks, frb, record]
    · rw [stored, banks, frb]
      exact record

end

end Sys2Proof.Machine

/-! PROOF. Parked creep: a wheel sample in WATCH that returns the node to SECURED (R39, R172, R195). -/

namespace Sys2Proof.Machine

/-! ## A sample in WATCH -/

/-- The handings of a list of which all but one leave the states in question as they are. -/
theorem handAll_alone {I : State → Prop} {f : State → State} {l : List (State → State)} {s : State}
    (idle : ∀ g ∈ l, ∀ t, I t → g t = t) (start : I (s.ordered (l.length + 1)))
    (after : I (f (s.ordered (l.length + 1)))) :
    handAll (f :: l) s = f (s.ordered (l.length + 1)) := by
  have still {m : List (State → State)} (hm : ∀ g ∈ m, g ∈ l) {t : State} (ht : I t) : inOrder m t = t := by
    induction m with
    | nil => rfl
    | cons g m ih =>
      rw [inOrder, idle g (hm g List.mem_cons_self) t ht]
      exact ih fun x hx => hm x (List.mem_cons_of_mem g hx)
  have perm := permute_perm s.free.order (f :: l)
  obtain ⟨a, b, split⟩ := List.append_of_mem (perm.mem_iff.2 List.mem_cons_self)
  have rest : (a ++ b).Perm l := by
    rw [split] at perm
    exact (List.perm_middle.symm.trans perm).cons_inv
  have joined (m : List (State → State)) (t : State) : inOrder (m ++ f :: b) t = inOrder b (f (inOrder m t)) := by
    induction m generalizing t with
    | nil => rfl
    | cons g m ih => exact ih (g t)
  show inOrder (permute s.free.order (f :: l)) (s.ordered (l.length + 1)) = _
  rw [split, joined, still (fun g hg => rest.mem_iff.1 (List.mem_append_left b hg)) start,
    still (fun g hg => rest.mem_iff.1 (List.mem_append_right a hg)) after]

section
variable {s : State}

/-- The tracker, the CSU and the banks replaced, as a sample in WATCH does. -/
def State.withSample (s : State) (w : Wmt) (u : Csu) (f : Frb) (n : Nat) : State :=
  { s.ordered n with wmt := w, csu := u, frb := f }

theorem watch_calm (watch : s.mdc.mode = .watch) : s.calm := by simp [State.calm, State.inHold, watch]

theorem velocityTest_off (off : s.inHold = false) : s.velocityTest = s := by simp [State.velocityTest, off]

/-- In WATCH the CSU takes its sample, with at most the creep-gap record (R25 to R28). -/
theorem csuSample_watch (watch : s.mdc.mode = .watch) (anchor : s.csu.anchor ≠ .absent) (valid : s.wmt.positionValid = true)
    (gap : Bool) : ∃ f, s.csuSample gap = { s with
      csu := (s.csu.sampleCreep s.wmt s.glu s.mdc.settings gap).recompute s.pvt.entries, frb := f } := by
  have own := (sampleCreep_anchored s.glu s.mdc.settings gap (by simpa [Csu.anchored] using anchor) valid).2
  have told (t : State) (mode : t.mdc.mode = .watch) : ∃ f, t.gapReport s.csu.creepGap = t.withFrb f := by
    unfold State.gapReport
    split
    · exact ⟨_, report_mute (mayPlace_declaration_off (by simp [mode]) (by simp [mode])) (by simp [mode])
        Severity.noConfusion⟩
    · exact ⟨t.frb, rfl⟩
  obtain ⟨f, reported⟩ := told { s with csu := s.csu.sampleCreep s.wmt s.glu s.mdc.settings gap } watch
  refine ⟨f, ?_⟩
  unfold State.csuSample
  dsimp only
  rw [own, Bool.true_or, if_pos rfl, reported, creepRecompute_calm]
  · exact velocityTest_off (by simp [State.inHold, State.withFrb, watch])
  · simp [State.inHold, State.withFrb, watch]

/-- In WATCH with the GLU stopped a sample reaches tracker, CSU and banks alone (log entry 10). -/
theorem takeSample_watch (watch : s.mdc.mode = .watch) (stopped : s.glu.reading = false) (anchor : s.csu.anchor ≠ .absent)
    {w : Wmt} {e : SampleEvents} (valid : w.positionValid = true) (quiet : e.reports = []) :
    ∃ f n, s.takeSample w e
      = s.withSample w ((s.csu.sampleCreep w s.glu s.mdc.settings e.gap).recompute s.pvt.entries) f n := by
  let x : State := { s with wmt := w }
  obtain ⟨f, sampled⟩ := csuSample_watch (s := x.ordered (sampleHandings e).length) watch anchor valid e.gap
  have one (t : State) (mode : t.mdc.mode = .watch) : t.hpcSample = t := hpcSample_calm (watch_calm mode)
  have two (t : State) (glu : t.glu.reading = false) : t.gluMoved = t := if_neg (by simp [glu])
  have alone : handAll (sampleHandings e) x = (x.ordered (sampleHandings e).length).csuSample e.gap := by
    refine handAll_alone (I := fun t => t.mdc.mode = .watch ∧ t.glu.reading = false) (fun g hg t ht => ?_)
      ⟨watch, stopped⟩ ?_
    · rcases List.mem_cons.1 hg with rfl | lost
      · exact one t ht.1
      · split at lost
        · rw [List.mem_singleton.1 lost, two t ht.2]
        · simp at lost
    · exact (congrArg (fun t : State => t.mdc.mode = .watch ∧ t.glu.reading = false) sampled).mpr ⟨watch, stopped⟩
  refine ⟨f, (sampleHandings e).length, ?_⟩
  unfold State.takeSample
  rw [quiet]
  exact alone.trans sampled

/-! ## Parked creep (R39, R195) -/

/-- Notice latched and both levels at 4 (R39). -/
def Csu.parked (u : Csu) : Csu := { u with notice := true, ownLevel := 4, nodeLevel := 4 }

/-- The CSU as parked creep leaves it, before the return. -/
def State.parks (s : State) : State := s.withCsu s.csu.parked

theorem react_parked (before : State) (watch : s.mdc.mode = .watch) (anchor : s.csu.anchored = true)
    (reached : s.csu.noticeReached s.mdc.settings = true) : State.react before s = s.parks.wake true := by
  simp only [State.react, watch, State.reactWatch, anchor, reached, Bool.and_self, if_true]
  rfl

theorem Csu.noticeReached_effective {u : Csu} {c : Settings} (reached : u.noticeReached c = true) :
    u.effective.isSome = true := by
  unfold Csu.noticeReached at reached
  split at reached
  · simp at reached
  · simp [*]

/-- The return for parked creep: the entry to RUN, then the Alert (R172, R195). -/
theorem wake_parked (sleeps : s.sleeps) (lane : s.free.laneFault = none) (value : s.csu.effective.isSome = true) :
    s.wake true = (s.roused true).runEntered.placeAlert .parkedCreep 4 s.csu.alertCreep := by
  have entry := wake_entered lane true
  have csu : (s.roused true).runEntered.csu = s.csu := entry.csu.trans (roused_csu s true)
  have run : (s.roused true).runEntered.mdc.mode = .run :=
    (congrArg Mdc.mode ((roused_wakesUp sleeps true).sustained entry.tosustains).mdc :)
  have alerted : (s.roused true).runEntered.parkedAlert
      = (s.roused true).runEntered.placeAlert .parkedCreep 4 s.csu.alertCreep := by
    unfold State.parkedAlert
    rw [if_pos run, csu]
  unfold State.wake
  rw [wakeBlocks_eq sleeps]
  show (s.roused true).runEntered.parkedAlert.blindAtReturn = _
  rw [alerted, blindAtReturn_sighted]
  rw [State.placeAlert_csu, csu, value]

/-- What the return for parked creep leaves: SECURED with P_max retained, and its frames on a list that stood empty. -/
structure State.parksAt (s t : State) : Prop extends s.wakesUp t where
  csu : t.csu = s.csu
  retained : t.hpc.retained = some s.mdc.settings.pMax
  cpr : t.cpr.target = s.mdc.settings.pMax ∧ t.cpr.regulating = true ∧ t.cpr.reading = true
  frames : s.sgi.bus ≠ .off → s.sgi.list = [] → (∃ f ∈ t.sgi.list, f.kind = .rouse)
    ∧ (∃ f ∈ t.sgi.list, f.kind = .declaration)
    ∧ ∃ f ∈ t.sgi.list, f.kind = .alert ∧ f.data = encodeAlert .parkedCreep 4 s.csu.alertCreep

theorem roused_hpc (s : State) (parked : Bool) : (s.roused parked).hpc = (s.woken parked).hpc := State.placeRouse_hpc _

theorem roused_cpr (s : State) (parked : Bool) : (s.roused parked).cpr = (s.woken parked).cpr := State.placeRouse_cpr _

/-- Parked creep retains P_max, above which no delivery goes (R88, R122, R195). -/
theorem roused_parked (sleeps : s.sleeps) :
    (s.roused true).hpc.retained = some s.mdc.settings.pMax ∧ (s.roused true).topped := by
  have hpc := roused_hpc s true
  have most : (s.roused true).hpc.retained = some s.mdc.settings.pMax := congrArg Hpc.retained hpc
  have mdc : (s.roused true).mdc = (s.woken true).mdc := State.placeRouse_mdc _
  refine ⟨most, (congrArg Hpc.phase hpc).trans sleeps.phase, .inr ?_⟩
  rw [most, mdc]
  rfl

theorem wake_parksAt (sleeps : s.sleeps) (lane : s.free.laneFault = none) (value : s.csu.effective.isSome = true)
    (away : s.driveAway = false) : (s.wake true).retaining ∧ s.parksAt (s.wake true).lapse.drawn := by
  rw [wake_parked sleeps lane value]
  have entry := wake_entered lane true
  have lane' := entry.lane (roused_lane lane true)
  have up := (roused_wakesUp sleeps true).sustained entry.tosustains
  have csu := entry.csu.trans (roused_csu s true)
  obtain ⟨most, top⟩ := roused_parked sleeps
  obtain ⟨same, retained⟩ := entry.topped top
  obtain ⟨regulating, reading, target⟩ := woken_cpr s true
  have cpr := same.trans (roused_cpr s true)
  rw [← cpr] at regulating reading target
  have kept := retained.trans most
  have listed (k : TxKind) (other : k ≠ .declaration) := runEntered_lists other (roused_lane lane true)
  have declares (bus) := wake_declares (s := s) bus lane true
  generalize (s.roused true).runEntered = r at *
  have placed := placeAlert_delivers r .parkedCreep 4 s.csu.alertCreep
  have back := up.sustained placed.tosustains
  refine ⟨⟨back.inPhase, ?_, back.away away, placed.lane lane'⟩,
    { back.ended with csu := placed.csu.trans csu, retained := ?_, cpr := ?_, frames := fun bus empty => ⟨?_, ?_, ?_⟩ }⟩
  · rw [State.placeAlert_hpc, kept]
    rfl
  · have rest : (r.placeAlert .parkedCreep 4 s.csu.alertCreep).lapse.drawn.hpc.retained
        = (r.placeAlert .parkedCreep 4 s.csu.alertCreep).hpc.retained := (congrArg Hpc.retained (ended_same _ .hpc) :)
    rw [rest, State.placeAlert_hpc, kept]
  · have rest : (r.placeAlert .parkedCreep 4 s.csu.alertCreep).lapse.drawn.cpr = r.cpr := State.placeAlert_cpr ..
    rw [rest]
    exact ⟨target.trans (min_self _), regulating, reading⟩
  · obtain ⟨f, mem, kind, -⟩ := roused_rouse bus true
    exact ⟨f, placeAlert_retains (by decide) _ _ _ f (entry.retains .rouse (by decide) f mem kind) kind, kind⟩
  · obtain ⟨f, mem, kind⟩ := declares bus
    exact ⟨f, placeAlert_retains (by decide) _ _ _ f mem kind, kind⟩
  · refine placeAlert_mem (.inl (inPhase_iff r _ |>.1 up.inPhase).1) ?_ ?_ _ _ _
    · rw [entry.bus]
      exact (State.place_bus (s.woken true) .rouse _).symm ▸ bus
    · rw [listed .alert (by decide), State.roused, placeRouse_lists (by decide)]
      rintro ⟨f, mem, -⟩
      exact absurd (show f ∈ s.sgi.list from mem) (by simp [empty])

end

/-- Settles O55: the return enters RUN in SECURED, where a WATCH request waits for the wake hold, a blind effective creep is
an onset, and parked creep retains P_max. -/
theorem wakeReturnsToSecured : Obligations.WakeReturnsToSecured := by
  refine ⟨fun s c wakes row => ?_, ?_,
    fun s c watch phase settled idle away lane anchor blind clear row => ?_⟩
  · obtain ⟨watch, phase, settled, idle, value, below, lane, away⟩ := wakes
    obtain ⟨x, run, stirs⟩ := wakeRow_stirs watch row
    have csu : x.csu = s.csu := stirs.keeps .csu (by decide)
    have pad : x.pad = s.pad := stirs.keeps .pad (by decide)
    have wmt : x.wmt = s.wmt := stirs.keeps .wmt (by decide)
    have settings : x.mdc.settings = s.mdc.settings := by rw [stirs.mdc]
    obtain ⟨t, ended, h⟩ := wake_wakesTo (stirs.sleeps ⟨watch, phase, settled, idle⟩) (by rw [stirs.free, lane])
      (by rw [csu, value]) (stirs.away away) s
    refine ⟨t, run.trans (congrArg _ ended), ⟨h.inPhase, congrArg Mdc.wakeHold h.mdc,
      congrArg Mdc.woken h.mdc, congrArg Mdc.reliefTime h.mdc⟩, ?_, ⟨h.cpr.1, h.cpr.2, h.glu, ?_, ?_, ?_⟩,
      fun none => ?_, ?_,
      fun bus => ⟨?_, ?_⟩, (stirs.keeps.trans (h.keeps.without .csu h.csu)).mono (by decide)⟩
    · rw [h.wmt, wmt]
      rfl
    · rw [h.pad]
    · rw [h.pad, pad]
    · rw [h.pad, pad]
    · rw [h.target (by rw [stirs.hpc, none]), settings]
    · rw [h.margin, settings, drumCounts_of_same (stirs.keeps .vir (by decide))]
    · exact h.rouse (by rw [stirs.bus]; exact bus)
    · exact h.declares (by rw [stirs.bus]; exact bus)
  · intro s a b u watch phase settled idle away lane ok stopped sampling anchor quiet valid reached
    obtain ⟨f, n, sampled⟩ := takeSample_watch watch stopped anchor valid quiet
    have run : exec (.wheelSample a b) s = .next (conclude s (s.withSample (s.wheel a b).1 u f n)) :=
      (exec_sampleRow (happens := true) sampling (by simp)).trans (congrArg _ (congrArg _ sampled))
    have set : s.csu.anchored = true := by simpa [Csu.anchored] using anchor
    have anchored : u.anchored = true := by
      have held := (sampleCreep_anchored s.glu s.mdc.settings (s.wheel a b).2.gap set valid).1
      exact (congrArg Prod.fst ((recompute_velocityPart _ s.pvt.entries).trans held) :).trans set
    have value : u.effective.isSome = true := Csu.noticeReached_effective reached
    have keeps : s.keeps (s.withSample (s.wheel a b).1 u f n).parks [.wmt, .csu, .frb] := by
      intro b other
      cases b
      case wmt | csu | frb => simp at other
      all_goals rfl
    have first := react_parked (s := s.withSample (s.wheel a b).1 u f n) s watch anchored reached
    obtain ⟨retaining, h⟩ := wake_parksAt (s := (s.withSample (s.wheel a b).1 u f n).parks) ⟨watch, phase, settled, idle⟩
      lane value away
    refine ⟨_, run.trans (congrArg _ (conclude_settled first (react_retaining s retaining))), ?_⟩
    generalize ((s.withSample (s.wheel a b).1 u f n).parks.wake true).lapse.drawn = t at h
    refine ⟨⟨h.inPhase, h.retained, h.cpr.1, h.cpr.2.1, congrArg Mdc.wakeHold h.mdc, congrArg Mdc.woken h.mdc,
        congrArg Mdc.reliefTime h.mdc⟩, h.csu, ⟨h.wmt, h.cpr.2.2, h.glu, congrArg Pad.reading h.pad, ?_⟩, h.frames, ?_⟩
    · rw [h.pad]
      rfl
    · exact (keeps.trans h.keeps).mono (by decide)
  · obtain ⟨x, run, stirs⟩ := wakeRow_stirs watch row
    have csu : x.csu = s.csu := stirs.keeps .csu (by decide)
    have frb : x.frb = s.frb := stirs.keeps .frb (by decide)
    obtain ⟨t, ended, h⟩ := wake_wakesBlind (stirs.sleeps ⟨watch, phase, settled, idle⟩) (by rw [stirs.free, lane])
      (stirs.away away) (by rw [csu]; exact anchor) (by rw [csu, blind]) (by rw [frb, clear]) s
    refine ⟨t, run.trans (congrArg _ ended), ⟨h.inPhase, congrArg Mdc.wakeHold h.mdc, congrArg Mdc.woken h.mdc, ?_⟩, ?_,
      h.active, fun empty => h.sense (by rw [frb, empty]), (stirs.keeps.trans h.keeps).mono (by decide)⟩
    · rw [h.pad, show x.pad = s.pad from stirs.keeps .pad (by decide)]
    · rw [h.csu, csu]

end Sys2Proof.Machine

/-! PROOF. The entries to RESTART and a brown-out (R125, R164, R165, R183, R190, R191, R196, R197). -/

namespace Sys2Proof.Machine

/-! ## The entry to RESTART (R125, R164, R191) -/

section
variable {s t : State}

/-- The state as an entry to RESTART leaves it where no assertion times out at once (R153). -/
def State.restartEntered (s : State) : State := (s.startRestart s.resumeRecord s.pad.asserted).judgeLine

theorem startRestart_asked (s : State) (resume : Option Resume) (asserted : Bool) :
    (s.startRestart resume asserted).pad.asked = (resume.isSome || asserted) := rfl

/-- No assertion times out at once where the line is driven in range, or with no hold to resume, which leaves the line as it
stands (R153, R164). -/
theorem restartNow_enters (quiet : s.resumeRecord = none ∨ s.drivesLine) : s.restartNow = s.restartEntered := by
  have still : (s.startRestart s.resumeRecord s.pad.asserted).lineTimesOut = false := by
    rcases quiet with none | drives
    · rw [none]
      unfold State.lineTimesOut Pad.timesOut
      rw [startRestart_asked]
      show (_ && (Option.isSome (α := Resume) .none || s.pad.asserted) && !s.pad.asserted && _) = false
      cases s.pad.asserted <;> simp
    · exact lineTimesOut_eq_false (s := s.startRestart s.resumeRecord s.pad.asserted) drives
  unfold State.restartNow
  dsimp only
  rw [still, Bool.false_and, if_neg (by decide), lineAtEntry_quiet still]
  rfl

/-- What an entry to RESTART leaves at the end of its command (R22, R76, R96, R125, R164, R177, R191). -/
structure State.restarts (s t : State) : Prop where
  mode : t.mdc.mode = .restart
  resume : t.hpc.resume = s.resumeRecord
  line : t.pad.asserted = (s.resumeRecord.isSome || s.pad.asserted)
  counter : t.mdc.restartCounter = s.mdc.restartCounter
  supply : t.mdc.brownOut = s.mdc.brownOut
  key : t.mdc.key = s.mdc.key
  rest : t.mdc.settings = s.mdc.settings ∧ t.mdc.straps = s.mdc.straps ∧ t.hpc.pHold = s.hpc.pHold
  frb : t.frb = s.frb
  owed : t.sgi.restartOwed = s.sgi.restartOwed
  blocks : t.wmt = .initial ∧ t.csu = .initial s.mdc.settings.firstPoint ∧ t.pvt.entries = [] ∧ t.vir = .initial
    ∧ t.sgi.list = [] ∧ t.sgi.bus = .stopped ∧ t.sgi.txErrors = 0 ∧ t.sgi.rxErrors = 0 ∧ t.cpr.regulating = false
      ∧ t.cpr.valves = .passThrough ∧ t.cpr.target = 0 ∧ t.glu.reading = false ∧ t.mdc.reinitTime = 0
        ∧ t.mdc.restartTimer = 0
  keeps : s.keeps t [.wmt, .csu, .glu, .pvt, .vir, .hal, .hpc, .cpr, .pad, .sgi, .mdc]

/-- RESTART acts on nothing, so that the command ends with its entry. -/
theorem restartNow_restarts (quiet : s.resumeRecord = none ∨ s.drivesLine) (before : State) :
    s.restarts (conclude before s.restartNow) := by
  rw [restartNow_enters quiet, conclude_apart (s := s.restartEntered) before (.inr rfl)]
  exact {
    mode := rfl
    resume := rfl
    line := Pad.judge_asserted _ _
    counter := rfl
    supply := rfl
    key := rfl
    rest := ⟨rfl, rfl, rfl⟩
    frb := rfl
    owed := rfl
    blocks := ⟨rfl, rfl, rfl, rfl, rfl, rfl, rfl, rfl, rfl, rfl, rfl, rfl, rfl, rfl⟩
    keeps := fun b other => by
      cases b
      case frb | queue => rfl
      all_goals simp at other }

/-! ## A brown-out and its record (R190) -/

/-- Brown-out standing. -/
def State.browned (s : State) : State := s.withMdc { s.mdc with brownOut := true }

/-- Brown-out standing with its record stored. -/
def State.brownRecorded (s : State) : State := s.browned.storeReport brownOutReport

theorem brownRecorded_frb (s : State) :
    s.brownRecorded.frb = { s.frb with banks := s.frb.banks.store .node (s.complete brownOutReport) } :=
  storeReport_mild (s := s.browned) (r := brownOutReport) Severity.noConfusion

theorem brownRecorded_touches (s : State) : s.browned.touches s.brownRecorded [.sgi, .frb] := storeReport_touches _ _

/-- On an empty NODE bank the record leaves hold-compromised as it was, so that no recomputation follows (R202). -/
theorem report_brownOut (empty : s.frb.banks.node = none ∨ s.mdc.mode ≠ .run) :
    s.browned.report brownOutReport = s.brownRecorded := by
  rcases empty with empty | idle
  · exact report_stored (s := s.browned) empty rfl Severity.noConfusion
  · exact report_idle (s := s.browned) idle Severity.noConfusion

theorem exec_brownOut (empty : s.frb.banks.node = none ∨ s.mdc.mode ≠ .run) :
    exec .brownOut s = .next (conclude s s.brownRecorded.countedCause) :=
  next_conclude s (congrArg State.countedCause (report_brownOut empty))

theorem brownRecorded_mdc (s : State) : s.brownRecorded.mdc = { s.mdc with brownOut := true } :=
  (brownRecorded_touches s).mdc

theorem brownCounted_mdc (s : State) : s.brownRecorded.countUp.mdc
    = { s.mdc with brownOut := true, restartCounter := s.mdc.restartCounter + 1 } := by
  show ({ s.brownRecorded.mdc with restartCounter := s.brownRecorded.mdc.restartCounter + 1 } : Mdc) = _
  rw [brownRecorded_mdc]

theorem brownRecorded_keeps (s : State) : s.keeps s.brownRecorded [.mdc, .sgi, .frb] :=
  (withMdc_keeps s _).trans (brownRecorded_touches s).keeps

theorem brownRecorded_hpc (s : State) : s.brownRecorded.hpc = s.hpc := State.storeReport_hpc _ _

/-! ### Counted below the limit (R190) -/

/-- Below the limit a cause in RUN or WATCH is counted, and RESTART entered. -/
theorem countedCause_counts (active : s.mdc.mode = .run ∨ s.mdc.mode = .watch)
    (below : s.mdc.restartCounter < s.mdc.settings.restartLimit) : s.countedCause = s.countUp.restartNow := by
  rcases active with mode | mode <;> simp [State.countedCause, mode, below, endWindow_closed]

theorem countedCause_limit (active : s.mdc.mode = .run ∨ s.mdc.mode = .watch)
    (limit : s.mdc.settings.restartLimit ≤ s.mdc.restartCounter) :
    s.countedCause = s.reportAndSafe restartLimitReport := by
  rcases active with mode | mode <;> simp [State.countedCause, mode, Nat.not_lt.2 limit]

/-- A hold is stored but for RELEASED and RELEASING (R125). -/
theorem resumeRecord_active (active : s.mdc.mode = .run ∨ s.mdc.mode = .watch) :
    s.resumeRecord = if s.hpc.phase = .released ∨ s.hpc.phase = .releasing then none
      else some { phase := s.hpc.phase, level := s.csu.nodeLevel, pressure := max s.hpc.pHold s.cpr.target
                  creep := s.csu.lastValidOwn } := by
  have awake : (s.mdc.mode == .run || s.mdc.mode == .watch) = true := by simpa using active
  unfold State.resumeRecord
  rw [awake]
  cases s.hpc.phase <;> rfl

/-- Outside RUN and WATCH, and in RELEASED, no hold is stored (R125). -/
theorem resumeRecord_none (idle : s.mdc.mode = .safe ∨ s.hpc.phase = .released) : s.resumeRecord = none := by
  rcases idle with h | h <;> simp [State.resumeRecord, h, Phase.resumes]

theorem brownRecorded_resumeRecord (active : s.mdc.mode = .run ∨ s.mdc.mode = .watch) :
    s.brownRecorded.countUp.resumeRecord = if s.hpc.phase = .released ∨ s.hpc.phase = .releasing then none
      else some { phase := s.hpc.phase, level := s.csu.nodeLevel, pressure := max s.hpc.pHold s.cpr.target
                  creep := s.csu.lastValidOwn } := by
  have hpc : s.brownRecorded.countUp.hpc = s.hpc := brownRecorded_hpc s
  have csu : s.brownRecorded.countUp.csu = s.csu := brownRecorded_keeps s .csu (by decide)
  have cpr : s.brownRecorded.countUp.cpr = s.cpr := brownRecorded_keeps s .cpr (by decide)
  have mode : s.brownRecorded.countUp.mdc.mode = s.mdc.mode := by rw [brownCounted_mdc]
  rw [resumeRecord_active (mode ▸ active), hpc, csu, cpr]

/-- A counted brown-out stores its record and begins RESTART. -/
theorem brownOut_restarts (active : s.mdc.mode = .run ∨ s.mdc.mode = .watch)
    (below : s.mdc.restartCounter < s.mdc.settings.restartLimit) (empty : s.frb.banks.node = none)
    (drives : s.drivesLine) :
    ∃ t, exec .brownOut s = .next t ∧ s.brownRecorded.countUp.restarts t := by
  have mdc := brownRecorded_mdc s
  have counted := countedCause_counts (s := s.brownRecorded) (by rw [mdc]; exact active) (by rw [mdc]; exact below)
  have drives' : s.brownRecorded.countUp.drivesLine := by
    have spring : s.brownRecorded.spring = s.spring := by rw [State.spring, mdc, State.spring]
    rw [State.drivesLine, show s.brownRecorded.countUp.spring = s.spring from spring,
      show s.brownRecorded.countUp.pad = s.pad from brownRecorded_keeps s .pad (by decide)]
    exact drives
  exact ⟨_, (exec_brownOut (.inl empty)).trans (congrArg _ (congrArg _ counted)), restartNow_restarts (.inr drives') s⟩

/-! ### At the limit (R190, R196) -/

/-- What a brown-out at the restart limit leaves: SAFE, the severe record in place of the brown-out's own. -/
theorem brownOut_endsSafe (active : s.mdc.mode = .run ∨ s.mdc.mode = .watch)
    (limit : s.mdc.settings.restartLimit ≤ s.mdc.restartCounter) (empty : s.frb.banks.node = none) :
    ∃ t, exec .brownOut s = .next t ∧ s.brownRecorded.endsSafe t
      ∧ t.frb.banks.node.map (fun r => (r.severity, r.cls, r.element, r.overflow))
        = some (.severe, .consistency, none, true) := by
  have mdc := brownRecorded_mdc s
  have active' : s.brownRecorded.mdc.mode = .run ∨ s.brownRecorded.mdc.mode = .watch := by rw [mdc]; exact active
  have reached := countedCause_limit active' (by rw [mdc]; exact limit)
  obtain ⟨ends, -, a, -, node⟩ := conclude_reportAndSafe (s := s.brownRecorded) (before := s) (r := restartLimitReport)
    (by rcases active' with h | h <;> simp [h]) (by rcases active' with h | h <;> simp [h]) rfl rfl
  have held : s.brownRecorded.frb.banks.node = some (s.complete brownOutReport) := by
    rw [brownRecorded_frb]
    simp [Banks.store, Banks.put, Banks.get, empty, overwrite]
    rfl
  refine ⟨_, (exec_brownOut (.inl empty)).trans (congrArg _ (congrArg _ reached)), ends, ?_⟩
  rw [node, held, overwrite_displaces Severity.noConfusion rfl]
  rfl

theorem holdAtSafe_active (active : s.mdc.mode = .run ∨ s.mdc.mode = .watch) : s.holdAtSafe = s.hpc.phase.isHold := by
  rcases active with mode | mode <;> simp [State.holdAtSafe, mode]

/-- The frames of the entry, from the list that the brown-out found (R172, R173). -/
theorem brownRecorded_alertsSafe {g : Sgi} (h : s.brownRecorded.alertsSafe g) : s.alertsSafe g := by
  have bus : s.brownRecorded.sgi.bus = s.sgi.bus := State.storeReport_bus _ _
  have alert : s.brownRecorded.safeAlert = s.safeAlert := by
    unfold State.safeAlert
    rw [show s.brownRecorded.csu = s.csu from brownRecorded_keeps s .csu (by decide)]
  have lists : s.brownRecorded.sgi.lists .alert ↔ s.sgi.lists .alert := storeReport_lists (s := s.browned) (by decide) _
  obtain ⟨declares, alerts, urgent⟩ := h
  rw [bus] at declares alerts
  rw [alert, lists] at alerts
  exact ⟨declares, alerts, fun f mem kind early =>
    urgent f (storeReport_retains (s := s.browned) (by decide) _ f mem kind) kind early⟩

/-! ### In INIT and SAFE (R190) -/

theorem countedCause_idle (idle : s.mdc.mode = .init ∨ s.mdc.mode = .safe) : s.countedCause = s := by
  rcases idle with mode | mode <;> simp [State.countedCause, mode]

/-! ## The first stationary moment of SAFE (R165, R196) -/

/-- The WMT replaced. -/
def State.withWmt (s : State) (w : Wmt) : State := { s with wmt := w }

/-- A sample without reports in SAFE, before the vehicle is found stationary. -/
theorem sample_restsSafe {a b : Code} (safe : s.mdc.mode = .safe) (unseen : s.mdc.safeStationary = false)
    (sampling : s.wmt.sampling = true) (quiet : (s.wheel a b).2.reports = []) :
    ∃ t, exec (.wheelSample a b) s = .next t ∧ t.mdc.mode = .safe
      ∧ t.mdc.safeStationary = (s.withWmt (s.wheel a b).1).vehicleStationary
      ∧ t.pad = if (s.withWmt (s.wheel a b).1).vehicleStationary then { s.pad with mdcRequest := true }.judge s.spring
        else s.pad := by
  have calm : s.calm := by simp [State.calm, State.inHold, safe]
  obtain ⟨⟨wmt, pvt, -, -, pad, mdc, -, -, -⟩, -⟩ :=
    takeSample_calm (w := (s.wheel a b).1) (e := (s.wheel a b).2) calm (by simp [quiet])
  have run : exec (.wheelSample a b) s = .next (conclude s (s.takeSample (s.wheel a b).1 (s.wheel a b).2)) :=
    exec_sampleRow (happens := true) sampling (by simp)
  have mode : (s.takeSample (s.wheel a b).1 (s.wheel a b).2).mdc.mode = .safe := by rw [mdc]; exact safe
  have spring : (s.takeSample (s.wheel a b).1 (s.wheel a b).2).spring = s.spring := by rw [State.spring, mdc]; rfl
  have seen : (s.takeSample (s.wheel a b).1 (s.wheel a b).2).vehicleStationary
      = (s.withWmt (s.wheel a b).1).vehicleStationary := by
    unfold State.vehicleStationary State.peersStationary
    rw [wmt, pvt]
    rfl
  have rests := reactSafe_rests mode s
  have still : (s.takeSample (s.wheel a b).1 (s.wheel a b).2).mdc.safeStationary = false := by rw [mdc]; exact unseen
  have ended := rests.mdc
  have line := rests.pad
  rw [seen, still, Bool.or_false] at ended
  rw [seen, still, spring, pad, Bool.not_false, Bool.and_true] at line
  exact ⟨_, run, (congrArg Mdc.mode ended).trans mode, congrArg Mdc.safeStationary ended, line⟩

/-- The line asked for in SAFE once the vehicle is found stationary. -/
theorem seen_drives {p : Pad} (off : p.asserted = false) (sensor : p.sensor ≠ .outOfRange) :
    ({ p with mdcRequest := true }.judge true).drive = .apply ∧ ({ p with mdcRequest := true }.judge true).driveTime = 0
      ∧ ({ p with mdcRequest := true }.judge true).watch = .waiting
      ∧ ({ p with mdcRequest := true }.judge true).confirmTime = 0 := by
  simp [Pad.judge, Pad.asked, off, Pad.assertLine, sensor]

end

/-- Settles O58: each cause that reaches RESTART enters it alike, SAFE is entered at the limit and asks for the line once
stationary, and elsewhere a brown-out is its record. -/
theorem restartIsEntered : Obligations.RestartIsEntered := by
  refine ⟨fun s a released stationary receives room => ?_, fun s a steady receives room busy => ?_,
    fun s active below empty drives => ?_, fun s active limit empty => ?_, fun s idle => ?_,
    fun s safe dwelt mild => ?_, ?_⟩
  · obtain ⟨run, phase⟩ := (inPhase_iff s _).1 released
    have none : (s.withSgi { s.sgi with restartOwed := some a }).resumeRecord = none := resumeRecord_none (.inr phase)
    have row : exec (.restart s.number [6, a]) s
        = .next (conclude s (s.withSgi { s.sgi with restartOwed := some a }).restartNow) := next_conclude s (by
      rw [service_answered receives room rfl]
      unfold State.serviceRestart
      rw [if_pos (by simp [released, stationary])]
      exact congrArg State.restartNow (endWindow_closed (by simp [run])))
    have h := restartNow_restarts (.inl none) s
    refine ⟨_, row, ⟨h.mode, h.resume.trans none, h.owed, h.counter, h.frb, ?_⟩, h.blocks,
      h.rest, ((withSgi_keeps s _).trans h.keeps).mono (by decide)⟩
    rw [h.line, none]
    rfl
  · refine reply_alone (r := .busy) (payload := zeroPayload) steady receives room (row := (· == 6#8))
      (answer := s.serviceRestart) rfl rfl ?_
    exact if_neg (by rcases busy with h | h <;> simp [h])
  · obtain ⟨t, run, h⟩ := brownOut_restarts active below empty drives
    have resume := h.resume.trans (brownRecorded_resumeRecord active)
    have settings : s.brownRecorded.countUp.mdc.settings = s.mdc.settings := by rw [brownCounted_mdc]
    have blocks := h.blocks
    obtain ⟨kept, straps, pHold⟩ := h.rest
    rw [settings] at blocks
    refine ⟨t, run, ⟨h.mode, h.counter.trans ?_, h.supply.trans ?_⟩, resume, ?_, h.frb.trans (brownRecorded_frb s),
      blocks, kept.trans settings, straps.trans ?_, pHold.trans (congrArg Hpc.pHold (brownRecorded_hpc s))⟩
    · rw [brownCounted_mdc]
    · rw [brownCounted_mdc]
    · rw [h.line, h.resume]
      exact congrArg (fun p : Pad => _ || p.asserted) (brownRecorded_keeps s .pad (by decide))
    · rw [brownCounted_mdc]
  · obtain ⟨t, run, ends, node⟩ := brownOut_endsSafe active limit empty
    have mdc := brownRecorded_mdc s
    have hold : s.brownRecorded.holdAtSafe = s.hpc.phase.isHold := by
      rw [holdAtSafe_active (by rw [mdc]; exact active), brownRecorded_hpc]
    have asks := ends.asks
    rw [hold] at asks
    obtain ⟨declares, alerts, urgent⟩ := brownRecorded_alertsSafe ends.alerts
    refine ⟨t, run, ⟨ends.mode, ends.restartCounter.trans (by rw [mdc]), ?_⟩, node, fun hold => ?_,
      ⟨ends.lapsed, asks, ends.line, congrArg Mdc.safeStationary ends.mdc, ends.dwellTime⟩,
      ends.csu.trans (brownRecorded_keeps s .csu (by decide)), declares, fun bus none => alerts bus ?_, urgent⟩
    · rw [ends.cpr]
      exact (safeStart_cpr _).2
    · rw [asks, hold, Bool.true_or]
    · rintro ⟨f, mem, kind⟩
      exact none f mem kind
  · have mode : s.mdc.mode = .init ∨ s.mdc.mode = .safe := idle.imp_right And.left
    have still : s.brownRecorded.countedCause = s.brownRecorded :=
      countedCause_idle (by rw [brownRecorded_mdc]; exact mode)
    have ended : conclude s s.brownRecorded = s.brownRecorded.lapse.drawn := by
      rcases idle with init | ⟨safe, seen⟩
      · exact conclude_apart s (.inl (by rw [brownRecorded_mdc]; exact init))
      · exact conclude_fixed (react_steady s (.inr (.inl (by rw [brownRecorded_mdc]; exact ⟨safe, seen⟩))))
    have run : exec .brownOut s = .next (conclude s s.brownRecorded) := by
      rw [exec_brownOut (.inr (by rcases mode with h | h <;> simp [h])), still]
    exact ⟨_, run.trans (congrArg _ ended), congrArg Mdc.lasting (brownRecorded_mdc s), brownRecorded_frb s,
      (brownRecorded_keeps s).ended⟩
  · have none : (s.setKey true).resumeRecord = none := resumeRecord_none (.inl safe)
    have row : exec .keyLineEdge s = .next (conclude s (s.setKey true).restartNow) := next_conclude s (by
      simp only [State.keyRises, safe, dwelt, mild, Bool.not_false, Bool.and_self, if_true]
      exact congrArg State.restartNow (endWindow_closed (s := s.setKey true)
        (show s.mdc.mode ≠ .config by simp [safe])))
    have h := restartNow_restarts (.inl none) s
    refine ⟨_, row, ⟨h.mode, h.key, h.resume.trans none, h.counter, h.frb, ?_⟩,
      h.blocks, h.rest⟩
    rw [h.line, none]
    rfl
  · intro s a b w found safe unseen lapsed settled drives sampling quiet
    obtain ⟨t, run, mode, seen, pad⟩ := sample_restsSafe (b := b) safe unseen sampling quiet
    have judged : found = (s.withWmt w).vehicleStationary := rfl
    rw [← judged] at seen pad
    have unasked : s.pad.asked = s.pad.mdcRequest := by simp [Pad.asked, lapsed]
    refine ⟨t, run, ⟨mode, seen, ?_⟩, fun moved fitted off => ?_, fun moving => ?_⟩
    · rw [pad]
      cases found with
      | true => simp [Pad.judge_mdcRequest, Pad.judge_asserted, Pad.asked]
      | false => simpa using settled.trans unasked
    · rw [pad, if_pos moved, fitted]
      exact seen_drives off (drives.resolve_left (by simp [fitted]))
    · rw [pad, if_neg (by simp [moving])]

end Sys2Proof.Machine

/-! PROOF. The end of re-initialisation (R42, R121, R126, R163, R183, R192, R196). -/

namespace Sys2Proof.Machine

/-! ## The owed reply (R183) -/

section
variable {s t : State} {g h k : Sgi}

/-- Bus state and error counts, as READ STATUS gives them, and the reply owed stand. -/
def Sgi.sameCounts (g h : Sgi) : Prop :=
  h.bus = g.bus ∧ h.txErrors = g.txErrors ∧ h.rxErrors = g.rxErrors ∧ h.restartOwed = g.restartOwed

theorem Sgi.sameCounts.trans (a : g.sameCounts h) (b : h.sameCounts k) : g.sameCounts k :=
  ⟨b.1.trans a.1, b.2.1.trans a.2.1, b.2.2.1.trans a.2.2.1, b.2.2.2.trans a.2.2.2⟩

theorem Sgi.place_sameCounts (g : Sgi) (f : TxFrame) : g.sameCounts (g.place f) := by
  unfold Sgi.place
  split <;> exact ⟨rfl, rfl, rfl, rfl⟩

theorem placeDeclaration_sameCounts (s : State) : s.sgi.sameCounts s.placeDeclaration.sgi := by
  rcases placeDeclaration_sgi s with same | ⟨-, data, placed⟩
  · rw [same]
    exact ⟨rfl, rfl, rfl, rfl⟩
  · rw [placed]
    exact Sgi.place_sameCounts _ _

/-- An entry to RUN leaves the counts and the reply owed (R171). -/
theorem runEntered_sameCounts (lane : s.free.laneFault = none) : s.sgi.sameCounts s.runEntered.sgi := by
  have first := halRecompute_sgi (s := s.ordered 2) lane
  have last := halRecompute_sgi (s := (s.ordered 2).placeDeclaration)
    ((congrArg Free.laneFault (State.placeDeclaration_free _)).trans lane)
  unfold State.runEntered
  rcases handAll_two State.halRecompute State.placeDeclaration s with e | e
  · rw [e]
    refine Sgi.sameCounts.trans ?_ (placeDeclaration_sameCounts _)
    rw [first]
    exact ⟨rfl, rfl, rfl, rfl⟩
  · rw [e, last]
    exact placeDeclaration_sameCounts (s.ordered 2)

theorem statusPayload_of_same (mdc : t.mdc.lasting = s.mdc.lasting) (phase : t.hpc.phase = s.hpc.phase) (csu : t.csu = s.csu)
    (frb : t.frb = s.frb) (bus : t.sgi.bus = s.sgi.bus) (tx : t.sgi.txErrors = s.sgi.txErrors)
    (rx : t.sgi.rxErrors = s.sgi.rxErrors) : t.statusPayload = s.statusPayload := by
  have mode : t.mdc.mode = s.mdc.mode := (congrArg Mdc.mode mdc :)
  have counter : t.mdc.restartCounter = s.mdc.restartCounter := (congrArg Mdc.restartCounter mdc :)
  simp only [State.statusPayload, State.statusPhase, mode, counter, phase, csu, frb, bus, tx, rx]

theorem place_sameCounts (s : State) (k : TxKind) (data : List Byte) : s.sgi.sameCounts (s.place k data).sgi := by
  unfold State.place
  split
  · exact Sgi.place_sameCounts _ _
  · exact ⟨rfl, rfl, rfl, rfl⟩

/-- The reply is owed no longer, and the counts stand. -/
theorem placeOwedReply_counts (s : State) : s.placeOwedReply.sgi.restartOwed = none
    ∧ s.placeOwedReply.sgi.bus = s.sgi.bus ∧ s.placeOwedReply.sgi.txErrors = s.sgi.txErrors
    ∧ s.placeOwedReply.sgi.rxErrors = s.sgi.rxErrors := by
  unfold State.placeOwedReply
  split
  case h_1 none => exact ⟨none, rfl, rfl, rfl⟩
  case h_2 a owed =>
    obtain ⟨bus, tx, rx, -⟩ := place_sameCounts s .reply (byte (replyNumber .ok) :: 6 :: a :: s.statusPayload)
    exact ⟨rfl, bus, tx, rx⟩

/-- The reply owed is placed at the entry, with the status at it (R181, R183). -/
theorem placeOwedReply_mem {a : Byte} (on : s.mdc.mode = .run ∨ s.mdc.mode = .safe) (bus : s.sgi.bus ≠ .off)
    (owed : s.sgi.restartOwed = some a) :
    ∃ f ∈ s.placeOwedReply.sgi.list, f.kind = .reply ∧ f.data = 0 :: 6 :: a :: s.statusPayload := by
  have placed : s.placeOwedReply.sgi.list = (s.sgi.place
      { kind := .reply, id := frameId s.number .reply, data := 0 :: 6 :: a :: s.statusPayload }).list := by
    unfold State.placeOwedReply
    rw [owed]
    show (s.place .reply _).sgi.list = _
    unfold State.place
    rw [if_pos (mayPlace_awake on bus .reply)]
    rfl
  rw [placed]
  exact ⟨_, Sgi.mem_place _ _, rfl, rfl⟩

/-! ## A resume of no hold (R126) -/

/-- Oscillator and supply as REINITIALISATION_COMPLETE says (log entry 45). -/
def State.supplied (s : State) : State := s.withMdc { s.mdc with refStable := true, brownOut := false }

theorem exec_reinitialisationComplete (restart : s.mdc.mode = .restart) (time : ms 50 ≤ s.mdc.reinitTime) :
    exec .reinitialisationComplete s = .next (conclude s s.supplied.resumeRun) :=
  next_conclude s (if_pos (by simp [restart, time]))

/-- RUN in RELEASED as a resume of no hold begins it, before the handings. -/
def State.afresh (s : State) : State := (s.restarted.startAfresh.setRequests false).judgeLine

theorem resumeRun_afresh (none : s.hpc.resume = none) : s.resumeRun = s.afresh.placeOwedReply.runEntered := by
  unfold State.resumeRun
  dsimp only
  rw [none]
  exact congrArg (fun t : State => t.placeOwedReply.runEntered) (runRequests_withdraws _)

theorem afresh_keeps (s : State) : s.keeps s.afresh [.wmt, .glu, .hpc, .cpr, .pad, .mdc] := by
  intro b other
  cases b
  case csu | pvt | vir | hal | sgi | frb | queue => rfl
  all_goals simp at other

/-- In RELEASED with the view empty there is no hold to follow (R102, R103). -/
theorem react_released_alone (before : State) (released : s.inPhase .released = true) (empty : s.pvt.entries = []) :
    State.react before s = s := by
  obtain ⟨run, phase⟩ := (inPhase_iff s _).1 released
  simp [State.react, run, State.reactRun, phase, State.anyFreshHold, State.anyLastAlert, empty]

theorem placeOwedReply_still_lists (s : State) {k : TxKind} (held : s.sgi.lists k) : s.placeOwedReply.sgi.lists k := by
  unfold State.placeOwedReply
  split
  · exact held
  · unfold State.placeReply State.place
    split
    · exact Sgi.lists_place.2 (.inr held)
    · exact held

theorem placeOwedReply_upholds (s : State) : s.upholds s.placeOwedReply :=
  .of_frames (by constructor <;> [constructor; skip; skip; skip; skip; skip] <;> simp) (by simp) (by simp) (by simp) (by simp)
    (fun k _ => placeOwedReply_retains k)
    (fun _ held => placeOwedReply_still_lists s held)

theorem placeOwedReply_keeps (s : State) : s.keeps s.placeOwedReply [.sgi] := by
  intro b other
  cases b
  case sgi => simp at other
  all_goals simp [Block.same]

/-- What a resume of no hold leaves at the end of its command. -/
structure State.resumesNone (s t : State) : Prop where
  released : t.inPhase .released = true
  current : t.resultCurrent
  keeps : s.afresh.keeps t [.hal, .hpc, .sgi]
  hpc : t.hpc.resume = none ∧ t.hpc.pCap = none ∧ t.hpc.pHold = 0
  owed : t.sgi.restartOwed = none
  reply : ∀ a, s.sgi.restartOwed = some a → s.sgi.bus ≠ .off →
    ∃ f ∈ t.sgi.list, f.kind = .reply ∧ f.data = 0 :: 6 :: a :: t.statusPayload

theorem resumeRun_resumesNone (lane : s.free.laneFault = none) (empty : s.pvt.entries = []) (none : s.hpc.resume = none)
    (before : State) : ∃ t, conclude before s.resumeRun = t ∧ s.resumesNone t := by
  have replied := placeOwedReply_upholds s.afresh
  have lane' : s.afresh.placeOwedReply.free.laneFault = .none := replied.lane lane
  have whole := (replied.ordered 2).trans (runEntered_upholds lane')
  have calm : s.afresh.placeOwedReply.calm := ⟨replied.inHold, fun _ => lane'⟩
  have released : s.afresh.placeOwedReply.runEntered.inPhase .released = true := whole.inPhase _
  have table : s.afresh.placeOwedReply.runEntered.pvt = s.pvt := whole.pvt
  have ended := conclude_fixed (react_released_alone before released (by rw [table, empty]))
  have frb := (runEntered_delivers lane').frb.trans (State.placeOwedReply_frb s.afresh)
  obtain ⟨paid, bus, tx, rx⟩ := placeOwedReply_counts s.afresh
  obtain ⟨bus', tx', rx', paid'⟩ := runEntered_sameCounts lane'
  have hpc : s.afresh.placeOwedReply.runEntered.lapse.drawn.hpc.lasting = s.afresh.placeOwedReply.runEntered.hpc.lasting :=
    ended_same _ .hpc
  refine ⟨_, (congrArg _ (resumeRun_afresh none)).trans ended, (ended_inPhase _ _).trans released,
    ended_resultCurrent (runEntered_resultCurrent calm), ?_, ⟨?_, ?_, ?_⟩, paid'.trans paid, fun a owed on => ?_⟩
  · exact ((placeOwedReply_keeps _).trans (runEntered_begins calm).touches.keeps_ended).mono (by decide)
  · exact (congrArg Hpc.resume hpc :).trans (congrArg Hpc.resume whole.apart :)
  · exact (congrArg Hpc.pCap hpc :).trans (congrArg Hpc.pCap whole.apart :)
  · exact (congrArg Hpc.pHold hpc :).trans (whole.fixed Phase.noConfusion Phase.noConfusion)
  · obtain ⟨f, mem, kind, data⟩ := placeOwedReply_mem (s := s.afresh) (.inl rfl) on owed
    refine ⟨f, (runEntered_upholds lane').retains .reply (by decide) f mem kind, kind, ?_⟩
    have status : s.afresh.placeOwedReply.runEntered.lapse.drawn.statusPayload = s.afresh.statusPayload :=
      statusPayload_of_same (congrArg Mdc.lasting whole.mdc :) ((congrArg Hpc.phase hpc :).trans whole.phase) whole.csu frb
        (bus'.trans bus) (tx'.trans tx) (rx'.trans rx)
    rw [data, status]

/-! ## A resume with a hold (R42, R121, R126, R163) -/

/-- RUN with the hold resumed, before its report, its requests and its handings. -/
def State.resumeStart (s : State) (r : Resume) : State := s.restarted.startResumed r

/-- The line asked for by the HPC alone. -/
def Pad.askedByHpc (p : Pad) : Pad := { p with hpcRequest := .assert, mdcRequest := false }

/-- RUN with the hold resumed and the line standing as the HPC asks for it. -/
def State.resumeStanding (s : State) (r : Resume) : State := (s.resumeStart r).relined s.pad.askedByHpc 2

theorem resumeHold_request (h : Hpc) (r : Resume) : (h.resumeHold r).request = true := by
  unfold Hpc.resumeHold
  split <;> rfl

/-- The requests replaced where the HPC holds its request already (R163). -/
theorem setRequests_standing {p : Pad} (pad : s.pad = p) (request : s.hpc.request = true) :
    s.setRequests true = s.withPad p.askedByHpc := by
  show ({ s with pad := s.pad.askedByHpc, hpc := { s.hpc with request := true } } : State) = _
  rw [← request, ← pad]
  rfl

/-- A resume whose line stands is its report, its reply and its handings. -/
theorem resumeRun_upholds {r : Resume} (lane : s.free.laneFault = none) (standing : s.pad.asserted = true)
    (resume : s.hpc.resume = some r) : (s.resumeStanding r).upholds s.resumeRun := by
  have told : (s.resumeStart r).upholds ((s.resumeStart r).report creepGapReport) :=
    report_upholds lane (secondSevere_mild Severity.noConfusion)
  have request : ((s.resumeStart r).report creepGapReport).hpc.request = true :=
    (congrArg Hpc.request told.apart :).trans (resumeHold_request _ _)
  have asked := setRequests_standing (p := s.pad) told.pad request
  have settled : (((s.resumeStart r).report creepGapReport).withPad s.pad.askedByHpc).lineOk := standing
  have resumed : s.resumeRun
      = (((s.resumeStart r).report creepGapReport).withPad s.pad.askedByHpc).placeOwedReply.runEntered := by
    have reported : (s.resumeStart r).gapReport false = (s.resumeStart r).report creepGapReport := if_pos rfl
    unfold State.resumeRun
    dsimp only
    rw [resume]
    show (((s.resumeStart r).gapReport false).runRequests true).placeOwedReply.runEntered = _
    rw [reported, State.runRequests, asked, line_settled settled]
  rw [resumed]
  have replied := placeOwedReply_upholds (((s.resumeStart r).report creepGapReport).withPad s.pad.askedByHpc)
  exact ((told.relined s.pad.askedByHpc 2).trans (replied.ordered 2)).trans
    (runEntered_upholds (replied.lane (told.lane lane)))

theorem resumeStanding_keeps (s : State) (r : Resume) :
    s.keeps (s.resumeStanding r) [.wmt, .csu, .glu, .hpc, .cpr, .pad, .mdc] := by
  intro b other
  cases b
  case pvt | vir | hal | sgi | frb | queue => rfl
  all_goals simp at other

/-- The CPR regulates at once at the pressure resumed (R121, R130). -/
theorem resumeStanding_cpr (s : State) (r : Resume) : (s.resumeStanding r).cpr.regulating = true
    ∧ (s.resumeStanding r).cpr.target = min s.mdc.settings.pMax (s.resumeStanding r).hpc.pHold :=
  ⟨take_regulating _ _ _ _, Cpr.take_target _ _ _ _⟩

theorem resumeStanding_holding {r : Resume} (holds : r.phase.resumesSecured = false) : (s.resumeStanding r).hpc
    = { s.hpc.afresh with phase := .holding, pCap := some r.pressure, pHold := max r.pressure s.hpc.last.pCalc
                          request := true, withdrawalPending := true } :=
  if_neg (by simp [holds])

theorem resumeStanding_secured {r : Resume} (secured : r.phase.resumesSecured = true) : (s.resumeStanding r).hpc
    = { s.hpc.afresh with phase := .secured, pCap := some r.pressure, pHold := r.pressure, retained := some r.pressure
                          request := true } :=
  if_pos secured

theorem pointAbove_above {c : Settings} (ok : c.ok) (creep : Int) : creep < pointAbove c creep := by
  have interval : (0 : Int) < c.escalateInterval := by
    simp only [Settings.ok] at ok
    omega
  unfold pointAbove
  split
  · assumption
  · have rest := Int.emod_lt_of_pos (creep - c.firstPoint) interval
    have whole := Int.emod_add_mul_ediv (creep - c.firstPoint) c.escalateInterval
    rw [Int.add_mul, Int.one_mul]
    linarith [mul_comm (c.escalateInterval : Int) ((creep - c.firstPoint) / c.escalateInterval)]

/-! ### The hold at the end of the command (R107, R113, R122) -/

/-- Without cab record and drive record, and with the key on, neither a trigger of R113 nor a drive-away stands. -/
theorem unattended_quiet (vir : s.vir = .initial) (key : s.mdc.key = true) (time : s.hpc.driverAbsentTime = 0) :
    s.standingTrigger = false ∧ s.driveAway = false := by
  have ignition : s.ignition = true := by simp [State.ignition, vir, Vir.initial, key]
  have demand : s.demand = none := by simp [State.demand, vir, Vir.initial]
  exact ⟨by simp [State.standingTrigger, ignition, time, sec], by simp [State.driveAway, demand]⟩

section
variable {r : Resume} (lane : s.free.laneFault = none) (standing : s.pad.asserted = true) (resume : s.hpc.resume = some r)
include lane standing resume

/-- Nothing is acted on at the end of a resume with a hold while the key is on. -/
theorem conclude_resumed (vir : s.vir = .initial) (key : s.mdc.key = true) (before : State) :
    conclude before s.resumeRun = s.resumeRun.lapse.drawn := by
  have upheld := resumeRun_upholds lane standing resume
  have inPhase (p : Phase) (phase : (s.resumeStanding r).hpc.phase = p) : s.resumeRun.inPhase p = true :=
    (inPhase_iff _ _).2 ⟨(congrArg Mdc.mode upheld.mdc :), upheld.phase.trans phase⟩
  have quiet := unattended_quiet (s := s.resumeRun) (upheld.vir.trans vir) ((congrArg Mdc.key upheld.mdc :).trans key)
  cases secured : r.phase.resumesSecured with
  | true =>
    have hpc := resumeStanding_secured (s := s) secured
    have still := quiet ((congrArg Hpc.driverAbsentTime upheld.apart :).trans (congrArg Hpc.driverAbsentTime hpc :))
    have retained : s.resumeRun.hpc.retained.isSome = true :=
      upheld.retained.trans (congrArg (fun h : Hpc => h.retained.isSome) hpc :)
    exact conclude_fixed (react_retaining before
      ⟨inPhase .secured (congrArg Hpc.phase hpc :), retained, still.2, upheld.lane lane⟩)
  | false =>
    have hpc := resumeStanding_holding (s := s) secured
    have still := quiet ((congrArg Hpc.driverAbsentTime upheld.apart :).trans (congrArg Hpc.driverAbsentTime hpc :))
    have pending : s.resumeRun.hpc.withdrawalPending = true :=
      (congrArg Hpc.withdrawalPending upheld.apart :).trans (congrArg Hpc.withdrawalPending hpc :)
    have armed : s.resumeRun.hpc.releaseArmed = true :=
      (congrArg Hpc.releaseArmed upheld.apart :).trans (congrArg Hpc.releaseArmed hpc :)
    have same : s.resumeRun.setArmed (s.resumeRun.hpc.releaseArmed || s.resumeRun.demand.isNone) = s.resumeRun := by
      rw [armed, Bool.true_or, State.setArmed, ← armed]
    rw [conclude_holding before (inPhase .holding (congrArg Hpc.phase hpc :)) still.1 (.inr (.inr pending)), same]

end

/-- What a resume with a hold leaves at the end of its command. -/
structure State.resumesHold (s : State) (r : Resume) (t : State) : Prop where
  mode : t.mdc.mode = .run
  phase : t.hpc.phase = (s.resumeStanding r).hpc.phase
  apart : t.hpc.lasting.apart = (s.resumeStanding r).hpc.lasting.apart
  regulating : t.cpr.regulating = true
  onTarget : t.onTarget
  pad : t.pad = s.pad.askedByHpc
  csu : t.csu = s.csu.resume s.mdc.settings r r.phase.resumesSecured
  settings : t.mdc.settings = s.mdc.settings
  pHold : (s.resumeStanding r).hpc.pHold ≤ t.hpc.pHold
  fixed : r.phase.resumesSecured = true → t.hpc.pHold = r.pressure
  retained : t.hpc.retained.isSome = r.phase.resumesSecured
  rises : r.phase.resumesSecured = true → ∃ x, t.hpc.retained = some x ∧ r.pressure ≤ x
  keeps : s.keeps t [.wmt, .csu, .glu, .hal, .hpc, .cpr, .pad, .sgi, .mdc, .frb]

theorem resumeStanding_onTarget (s : State) (r : Resume) : (s.resumeStanding r).onTarget := by
  refine ⟨fun _ => (resumeStanding_cpr s r).2, fun phase p retained => ?_⟩
  rw [(resumeStanding_cpr s r).2]
  cases secured : r.phase.resumesSecured with
  | true =>
    rw [resumeStanding_secured secured] at retained ⊢
    rw [← Option.some.inj retained]
    rfl
  | false =>
    rw [resumeStanding_holding secured] at phase
    exact absurd phase Phase.noConfusion

theorem resumeRun_resumesHold {r : Resume} (lane : s.free.laneFault = none) (standing : s.pad.asserted = true)
    (resume : s.hpc.resume = some r) : s.resumesHold r s.resumeRun.lapse.drawn := by
  have upheld := resumeRun_upholds lane standing resume
  have hpc : s.resumeRun.lapse.drawn.hpc.lasting = s.resumeRun.hpc.lasting := ended_same _ .hpc
  have phase : s.resumeRun.lapse.drawn.hpc.phase = s.resumeRun.hpc.phase := (congrArg Hpc.phase hpc :)
  have pHold : s.resumeRun.lapse.drawn.hpc.pHold = s.resumeRun.hpc.pHold := (congrArg Hpc.pHold hpc :)
  have retained : s.resumeRun.lapse.drawn.hpc.retained = s.resumeRun.hpc.retained := (congrArg Hpc.retained hpc :)
  have onTarget := upheld.onTarget (resumeStanding_onTarget s r)
  refine ⟨(congrArg Mdc.mode upheld.mdc :), phase.trans upheld.phase, ?_,
    upheld.regulating.trans (resumeStanding_cpr s r).1, ?_, upheld.pad, upheld.csu,
    (congrArg Mdc.settings upheld.mdc :), ?_, fun secured => ?_, ?_, fun secured => ?_, ?_⟩
  · rw [hpc]
    exact (congrArg Hpc.lasting upheld.apart :)
  · unfold State.onTarget
    rw [phase, pHold, retained]
    exact onTarget
  · rw [pHold]
    exact upheld.pHold
  · have hpc := resumeStanding_secured (s := s) secured
    have held : (s.resumeStanding r).hpc.phase = .secured := (congrArg Hpc.phase hpc :)
    rw [pHold, upheld.fixed (by simp [held]) (by simp [held]), hpc]
  · rw [retained, upheld.retained]
    cases secured : r.phase.resumesSecured with
    | true => rw [resumeStanding_secured secured]; rfl
    | false => rw [resumeStanding_holding secured]; rfl
  · have hpc := resumeStanding_secured (s := s) secured
    rw [retained]
    exact upheld.rises (congrArg Hpc.phase hpc :) _ (congrArg Hpc.retained hpc :)
  · exact ((resumeStanding_keeps s r).trans upheld.keeps.ended).mono (by decide)

/-- Entered from RESTART, SAFE starts the WMT and the GLU (R22, R59, log entry 78). -/
theorem safeStart_restarted (restart : s.mdc.mode = .restart) :
    s.safeStart.wmt = s.wmt.start ∧ s.safeStart.glu = { s.glu with reading := true } := by
  unfold State.safeStart State.startSafe State.safeBlocks
  rw [restart]
  exact ⟨rfl, rfl⟩

end

/-- Settles O59: the entries to RUN end with their handings, and the timeout with SAFE. -/
theorem restartEndsInRunOrSafe : Obligations.RestartEndsInRunOrSafe := by
  refine ⟨fun s restart time lane vir empty position none => ?_,
    fun s r restart time lane vir empty position resume key standing phase => ?_,
    fun s r restart time lane vir empty position resume key standing phase => ?_, fun s restart time empty => ?_⟩
  · obtain ⟨t, ended, h⟩ := resumeRun_resumesNone (s := s.supplied) lane empty none s
    have mdc := h.keeps .mdc (by decide)
    have cpr := h.keeps .cpr (by decide)
    have pad := h.keeps .pad (by decide)
    have line := setRequests_withdraws_line s.supplied.restarted.startAfresh
    exact ⟨t, (exec_reinitialisationComplete restart time).trans (congrArg _ ended),
      ⟨h.released, h.hpc.1, h.hpc.2.1, h.hpc.2.2, (congrArg Mdc.reliefTime mdc :), (congrArg Mdc.brownOut mdc :)⟩,
      ⟨(congrArg Cpr.regulating cpr :), (congrArg Cpr.valves cpr :), (congrArg Cpr.target cpr :),
        (congrArg Pad.asserted pad :).trans line.1, (congrArg Pad.mdcRequest pad :).trans line.2.2⟩,
      ⟨h.keeps .wmt (by decide), (congrArg Glu.reading (h.keeps .glu (by decide)) :), h.current⟩, h.owed, h.reply,
      (((withMdc_keeps s _).trans (afresh_keeps s.supplied)).trans h.keeps).mono (by decide)⟩
  · have holds : r.phase.resumesSecured = false := by rcases phase with e | e <;> rw [e] <;> rfl
    have ended := conclude_resumed (s := s.supplied) lane standing resume vir key s
    have h := resumeRun_resumesHold (s := s.supplied) lane standing resume
    refine ⟨_, (exec_reinitialisationComplete restart time).trans (congrArg _ ended), ?_⟩
    generalize s.supplied.resumeRun.lapse.drawn = t at h
    have start := resumeStanding_holding (s := s.supplied) holds
    have apart := h.apart
    have pHold := h.pHold
    have held := h.phase
    have retained := h.retained
    have csu := h.csu
    rw [start] at apart pHold held
    rw [holds] at retained csu
    refine ⟨⟨(inPhase_iff _ _).2 ⟨h.mode, held⟩, (congrArg Hpc.resume apart :), (congrArg Hpc.pCap apart :), pHold, ?_,
      h.regulating⟩,
      ⟨(congrArg Hpc.withdrawalPending apart :), (congrArg Hpc.request apart :), ?_, ?_, by simpa using retained⟩,
      ⟨by rw [csu]; rfl, by rw [csu]; rfl, by rw [csu]; rfl, by rw [csu]; rfl, by rw [csu]; rfl⟩,
      ⟨by rw [csu]; rfl, by rw [csu]; exact Bool.true_and _⟩, fun ok => ?_,
      ((withMdc_keeps s _).trans h.keeps).mono (by decide)⟩
    · rw [h.onTarget.1 held, h.settings]
      rfl
    · rw [h.pad]
      exact standing
    · rw [h.pad]
      rfl
    · rw [csu]
      exact pointAbove_above ok r.creep
  · have secured : r.phase.resumesSecured = true := by rcases phase with e | e <;> rw [e] <;> rfl
    have ended := conclude_resumed (s := s.supplied) lane standing resume vir key s
    have h := resumeRun_resumesHold (s := s.supplied) lane standing resume
    refine ⟨_, (exec_reinitialisationComplete restart time).trans (congrArg _ ended), ?_⟩
    generalize s.supplied.resumeRun.lapse.drawn = t at h
    have start := resumeStanding_secured (s := s.supplied) secured
    have apart := h.apart
    have held := h.phase
    have csu := h.csu
    rw [start] at apart held
    rw [secured] at csu
    obtain ⟨x, retained, above⟩ := h.rises secured
    refine ⟨⟨(inPhase_iff _ _).2 ⟨h.mode, held⟩, (congrArg Hpc.resume apart :), h.fixed secured, x, retained, above, ?_⟩,
      ⟨(congrArg Hpc.withdrawalPending apart :), (congrArg Hpc.request apart :), ?_, h.regulating⟩,
      ⟨by rw [csu]; rfl, by rw [csu]; rfl, by rw [csu]; rfl, by rw [csu]; rfl, by rw [csu]; rfl, by rw [csu]; rfl,
        by rw [csu]; rfl⟩, ((withMdc_keeps s _).trans h.keeps).mono (by decide)⟩
    · rw [h.onTarget.2 held x retained, h.settings]
      rfl
    · rw [h.pad]
      exact standing
  · have run : exec .restartTimeout s = .next (conclude s (s.reportAndSafe restartTimeoutReport)) :=
      next_conclude s (if_pos (by simp [restart, time]))
    obtain ⟨ends, active, a, -, node⟩ := conclude_reportAndSafe (s := s) (before := s) (r := restartTimeoutReport)
      (by simp [restart]) (by simp [restart]) rfl rfl
    obtain ⟨regulating, valves⟩ := safeStart_cpr s
    obtain ⟨wmt, glu⟩ := safeStart_restarted restart
    refine ⟨_, run, ⟨ends.mode, ends.dwellTime, by rw [ends.cpr, regulating], by rw [ends.cpr, valves],
      by rw [ends.wmt, wmt]; rfl, by rw [ends.glu, glu]⟩, fun hold => ?_, ⟨active, ?_⟩, ends.alerts.declares⟩
    · rw [ends.asks, show s.holdAtSafe = s.hpc.resume.isSome by simp [State.holdAtSafe, restart], hold, Bool.true_or]
    · rw [node, empty]
      rfl

end Sys2Proof.Machine

/-! PROOF. The fault banks through every step (R198, R200, R201, R204, R205): each elementary move leaves them, stores a
record by the overwrite rule, or clears. -/

namespace Sys2Proof.Machine

/-! ## What a move does to the banks -/

/-- The banks and the flag with a completed record stored (R200, R201). -/
def Frb.stored (f : Frb) (k : Bank) (new : FaultRecord) : Frb :=
  { banks := f.banks.store k new, responseActive := f.responseActive || new.severity == .severe }

/-- What one elementary change of a command c makes of the banks and the flag. -/
inductive Frb.Change (c : Instr) (f : Frb) : Frb → Prop
  | none : Change c f f
  | stored (k : Bank) (new : FaultRecord) : Change c f (f.stored k new)
  | clearedOne (k : Bank) (h : clears c = true) : Change c f { f with banks := f.banks.put k .none }
  | clearedAll (h : clears c = true) : Change c f .initial

theorem Frb.Change.of_eq {c : Instr} {f g : Frb} (h : g = f) : Frb.Change c f g := h ▸ .none

/-- Every elementary move leaves banks and flag, or stores a record, or clears at a command that clears. -/
theorem Move.frb_change {c : Instr} {s t : State} (m : Move c s t) : Frb.Change c s.frb t.frb := by
  cases m with
  | record r => exact State.storeReport_frb s r ▸ .stored r.bank (s.complete r)
  | clearOne k h => exact .clearedOne k h
  | clearEvery h => exact .clearedAll h
  | power num0 num1 num2 spring pol key h => exact .clearedAll (h ▸ rfl)
  | alert | declaration | rouse | owedReply | reply | safe | settings => exact .of_eq (by simp)
  | _ => exact .none

/-- A property of banks and flag that every change keeps is kept by a run of moves. -/
theorem Moves.keeps_frb {c : Instr} {P : Frb → Prop} (keep : ∀ f g, Frb.Change c f g → P f → P g) {s t : State}
    (h : Moves c s t) (hs : P s.frb) : P t.frb :=
  h.keeps (P := fun x => P x.frb) (fun _ _ m => keep _ _ m.frb_change) hs

theorem tick_frb (s : State) : s.tick.frb = s.frb := by
  unfold State.tick
  split <;> rfl

/-! ## A severe record and the flag (R201, R204) -/

/-- A bank holds a severe record. -/
def Banks.severeAt (b : Banks) (k : Bank) : Prop := ∃ r, b.get k = some r ∧ r.severity = .severe

theorem Banks.anySevere_iff_severeAt (b : Banks) : b.anySevere = true ↔ ∃ k, b.severeAt k := b.anySevere_iff

/-- What the overwrite rule leaves is severe when the one record or the other is. -/
theorem overwrite_severity {held : Option FaultRecord} {new : FaultRecord} (h : (overwrite held new).severity = .severe) :
    new.severity = .severe ∨ ∃ r, held = some r ∧ r.severity = .severe := by
  rcases overwrite_cases held new with ⟨o, e⟩ | ⟨r, hr, e⟩ <;> rw [e] at h
  · exact .inl h
  · exact .inr ⟨r, hr, h⟩

/-- After a report a bank holds a severe record when it held one, or when the report was severe. -/
theorem Banks.severeAt_store {b : Banks} {k j : Bank} {new : FaultRecord} (h : (b.store k new).severeAt j) :
    new.severity = .severe ∨ b.severeAt j := by
  obtain ⟨r, hr, severe⟩ := h
  rw [Banks.get_store] at hr
  split at hr
  case isTrue here =>
    obtain rfl := Option.some.inj hr
    exact (overwrite_severity severe).imp_right (here ▸ id)
  case isFalse => exact .inr ⟨r, hr, severe⟩

theorem Banks.severeAt_emptied {b : Banks} {k j : Bank} (h : (b.put k none).severeAt j) : b.severeAt j := by
  obtain ⟨r, hr, severe⟩ := h
  by_cases here : j = k
  · simp [here] at hr
  · exact ⟨r, by rwa [Banks.get_put_other _ _ here] at hr, severe⟩

/-- Every change keeps the flag set where a severe record stands. -/
theorem Frb.Change.keeps_faultsOk {c : Instr} (f g : Frb) (h : Frb.Change c f g)
    (ok : f.banks.anySevere = true → f.responseActive = true) : g.banks.anySevere = true → g.responseActive = true := by
  rw [Banks.anySevere_iff_severeAt] at ok ⊢
  rintro ⟨j, standing⟩
  cases h with
  | none => exact ok ⟨j, standing⟩
  | stored k new =>
    rcases Banks.severeAt_store standing with severe | held
    · simp [Frb.stored, severe]
    · simp [Frb.stored, ok ⟨j, held⟩]
  | clearedOne k => exact ok ⟨j, Banks.severeAt_emptied standing⟩
  | clearedAll =>
    obtain ⟨r, hr, -⟩ := standing
    cases j <;> cases hr

/-- Settles O11: every change of banks and flag keeps the flag set where a severe record stands, and so do a command,
which is a run of moves, and a tick, which leaves them. -/
theorem stepKeepsFaultResponse : Obligations.StepKeepsFaultResponse := by
  intro s t h hstep
  rcases step_cases s with ⟨c, l, u, -, hu, moves⟩ | ⟨-, htick⟩
  · obtain rfl : t = u := by simpa [hu] using hstep.symm
    exact moves.keeps_frb Frb.Change.keeps_faultsOk h
  · obtain rfl : t = s.tick := by simpa [htick] using hstep.symm
    rw [State.faultsOk, tick_frb]
    exact h

/-! ## A severe record stays (R198, R200, R205) -/

/-- A bank holds the record r, with its overflow mark at least as r has it. -/
def Banks.holds (b : Banks) (k : Bank) (r : FaultRecord) : Prop :=
  ∃ q, b.get k = some q ∧ { q with overflow := r.overflow } = r ∧ (r.overflow = true → q.overflow = true)

/-- A report leaves a severe record in its bank, with overflow set at most. -/
theorem Banks.holds_store {b : Banks} {k : Bank} {r : FaultRecord} (severe : r.severity = .severe) (h : b.holds k r)
    (j : Bank) (new : FaultRecord) : (b.store j new).holds k r := by
  obtain ⟨q, hq, same, marked⟩ := h
  unfold Banks.holds
  rw [Banks.get_store]
  split
  case isTrue here =>
    have held : q.severity = .severe := (congrArg FaultRecord.severity same).trans severe
    rw [← here, hq, overwrite_severe q new held]
    exact ⟨_, rfl, same, fun _ => rfl⟩
  case isFalse => exact ⟨q, hq, same, marked⟩

/-- Settles O12: with no clear and no power-on a change of the banks is a stored report, which leaves a severe record. -/
theorem severeRecordStays : Obligations.SevereRecordStays := by
  intro c s t k r stays run held severe
  obtain ⟨u, hu, moves⟩ := exec_moves c s
  obtain rfl : u = t := by simpa [hu] using run
  refine moves.keeps_frb (P := fun f => f.banks.holds k r) (fun f g change h => ?_) ⟨r, held, rfl, id⟩
  cases change with
  | none => exact h
  | stored j new => exact Banks.holds_store severe h j new
  | clearedOne _ clearing | clearedAll clearing => simp [stays] at clearing

end Sys2Proof.Machine

/-! PROOF. A report's arrival (R185, R196, R199 to R201): the record its bank is left with, the flag, and the mode. -/

namespace Sys2Proof.Machine

/-! ## The overwrite rule (R200) -/

/-- A record that is not severe gives way to an equal or worse one while it is unreported. -/
theorem overwrite_yields {held new : FaultRecord} (mild : held.severity ≠ .severe) (unreported : held.reported = false)
    (rank : severityRank held.severity ≤ severityRank new.severity) :
    overwrite (some held) new = { new with overflow := true } := by
  simp [overwrite, mild, givesPlace, unreported, rank]

/-- A reported record, and one worse than the new, stands against a report that is not severe. -/
theorem overwrite_resists {held new : FaultRecord} (mild : new.severity ≠ .severe)
    (stands : held.reported = true ∨ severityRank new.severity < severityRank held.severity) :
    overwrite (some held) new = { held with overflow := true } := by
  have kept : givesPlace held new = false := by
    rcases stands with marked | worse
    · simp [givesPlace, marked]
    · simp [givesPlace, Nat.not_le.2 worse]
  simp [overwrite, mild, kept]

/-- Of records that are not severe the overwrite rule leaves one that is not. -/
theorem overwrite_mild {held : Option FaultRecord} {new : FaultRecord} (mild : new.severity ≠ .severe)
    (milder : ∀ h, held = some h → h.severity ≠ .severe) : (overwrite held new).severity ≠ .severe := fun severe =>
  (overwrite_severity severe).elim mild fun ⟨h, hh, worst⟩ => milder h hh worst

section
variable {s : State} {r : Report}

/-- The bank of a report is left as the overwrite rule says. -/
theorem storeReport_bank (s : State) (r : Report) :
    (s.storeReport r).frb.banks.get r.bank = some (overwrite (s.frb.banks.get r.bank) (s.complete r)) := by
  rw [storeReport_get, if_pos rfl]

/-- The bank of a report, from what it held. -/
theorem storeReport_bank_eq {held : Option FaultRecord} {q : FaultRecord} (holds : s.frb.banks.get r.bank = held)
    (rule : overwrite held (s.complete r) = q) : (s.storeReport r).frb.banks.get r.bank = some q := by
  rw [storeReport_bank, holds, rule]

/-- A record is completed alike before and after another report (R199). -/
theorem storeReport_complete (s : State) (a r : Report) : (s.storeReport a).complete r = s.complete r :=
  (storeReport_sustains s a).complete r

/-- A severe report is in its bank after it, unless a severe one stood there before. -/
theorem storeReport_severe (severe : r.severity = .severe)
    (milder : ∀ h, s.frb.banks.get r.bank = some h → h.severity ≠ .severe) :
    ∃ o, (s.storeReport r).frb.banks.get r.bank = some { s.complete r with overflow := o } := by
  rw [storeReport_bank]
  cases held : s.frb.banks.get r.bank with
  | none => exact ⟨false, rfl⟩
  | some h => exact ⟨true, congrArg some (overwrite_displaces (milder h held) severe)⟩

/-- A severe report that found no severe record stands through the next report to its bank. -/
theorem storeReport_severe_first {a : Report} (severe : a.severity = .severe)
    (milder : ∀ h, s.frb.banks.get a.bank = some h → h.severity ≠ .severe) (same : a.bank = r.bank) :
    ((s.storeReport a).storeReport r).frb.banks.get a.bank = some { s.complete a with overflow := true } := by
  obtain ⟨o, stored⟩ := storeReport_severe severe milder
  rw [same] at stored ⊢
  exact storeReport_bank_eq stored (overwrite_severe _ _ severe)

/-- A severe report takes the place that a milder one has just taken. -/
theorem storeReport_severe_second {a : Report} (severe : a.severity = .severe) (mild : r.severity ≠ .severe)
    (milder : ∀ h, s.frb.banks.get a.bank = some h → h.severity ≠ .severe) (same : a.bank = r.bank) :
    ((s.storeReport r).storeReport a).frb.banks.get a.bank = some { s.complete a with overflow := true } := by
  rw [same] at milder
  rw [storeReport_bank, storeReport_complete, same, storeReport_bank]
  exact congrArg some (overwrite_displaces (overwrite_mild mild milder) severe)

end

/-- Settles O22: a report is stored by the overwrite rule in the bank it names, case by case, and two in turn. -/
theorem overwriteRule : Obligations.OverwriteRule := by
  refine ⟨fun s r => ⟨fun k other => ?_, fun empty => storeReport_bank_eq empty rfl, fun h held => ⟨fun severe => ?_,
      fun mild severe => ?_, fun mild _ unreported rank => ?_, fun _ mild stands => ?_⟩⟩,
    fun s a b same severe mild milder => ?_, fun s a b same severe _ milder => storeReport_severe_first severe milder same⟩
  · rw [storeReport_get, if_neg other]
  · exact storeReport_bank_eq held (overwrite_severe h _ severe)
  · exact storeReport_bank_eq held (overwrite_displaces mild severe)
  · exact storeReport_bank_eq held (overwrite_yields mild unreported rank)
  · exact storeReport_bank_eq held (overwrite_resists mild stands)
  · exact ⟨storeReport_severe_first severe milder same, storeReport_severe_second severe mild milder same⟩

/-! ## The flag and the mode (R185, R196, R201) -/

/-- At a command that clears nothing every change leaves the flag set. -/
theorem Frb.Change.keeps_response {c : Instr} (stays : clears c = false) (f g : Frb) (h : Frb.Change c f g)
    (active : f.responseActive = true) : g.responseActive = true := by
  cases h with
  | none => exact active
  | stored k new => simp [Frb.stored, active]
  | clearedOne _ clearing | clearedAll clearing => simp [stays] at clearing

section
variable {s : State} {r : Report}

/-- What follows the storing of a report: its conditions handed on, and a SAFE cause answered. -/
theorem moves_after_storeReport (c : Instr) (s : State) (r : Report) : Moves c (s.storeReport r) (s.report r) :=
  (moves_handCompromise _ _).trans (moves_answerCause _ _)

/-- A severe report leaves fault-response-active set, whatever comes of it (R201). -/
theorem report_response (severe : r.severity = .severe) : (s.report r).frb.responseActive = true := by
  refine (moves_after_storeReport .frameOffer s r).keeps_frb (P := fun f => f.responseActive = true)
    (Frb.Change.keeps_response rfl) ?_
  rw [State.storeReport_frb, severe]
  exact Bool.or_true _

/-- What a stored report hands the HAL brings no node into INIT (R95, R190). -/
theorem handCompromise_begun (h : s.mdc.mode ≠ .init) (before : Bool) :
    (s.handCompromise before).mdc.mode ≠ .init := fun init =>
  h (((moves_handCompromise (c := .frameOffer) s before).keeps (P := fun x => Mode.leadsTo .frameOffer s.mdc.mode x.mdc.mode)
    (fun _ _ m k => k.trans (m.leadsTo rfl)) (.refl _ _)).init init)

theorem handCompromise_outside (h : s.mdc.mode ≠ .run) (before : Bool) : s.handCompromise before = s := by
  unfold State.handCompromise
  rw [halRecompute_idle (.inl h), ite_self]

/-- A second severe report hands on a SAFE cause (R201). -/
theorem report_second (severe : r.severity = .severe) (active : s.frb.responseActive = true) :
    s.report r = ((s.storeReport r).handCompromise s.frb.banks.holdCompromised).safeCause :=
  if_pos (by simp [State.secondSevere, severe, active])

/-- A second severe report takes a node behind INIT to SAFE (R196). -/
theorem report_second_safe (severe : r.severity = .severe) (active : s.frb.responseActive = true)
    (begun : s.mdc.mode ≠ .init) : (s.report r).mdc.mode = .safe := by
  have behind := handCompromise_begun (s := s.storeReport r) (by simpa using begun) s.frb.banks.holdCompromised
  rw [report_second severe active, State.safeCause, if_neg behind, enterSafe_mode]

/-- In INIT the cause of a second severe report is kept (R185). -/
theorem report_second_pending (severe : r.severity = .severe) (active : s.frb.responseActive = true)
    (init : s.mdc.mode = .init) : (s.report r).mdc.mode = .init ∧ (s.report r).mdc.pendingSafe = true := by
  have still : (s.storeReport r).mdc.mode = .init := by simpa using init
  rw [report_second severe active, handCompromise_outside (by rw [still]; exact Mode.noConfusion), State.safeCause, if_pos still]
  exact ⟨still, rfl⟩

/-- A report that is no second severe one leaves the mode, and sets the flag when it is severe. -/
theorem report_first (lane : s.free.laneFault = none) (first : s.secondSevere r = false) :
    (s.report r).mdc.mode = s.mdc.mode
      ∧ (s.report r).frb.responseActive = (s.frb.responseActive || r.severity == .severe) := by
  obtain ⟨sustained, -, stored⟩ := report_sustains lane first
  exact ⟨sustained.mode, by rw [stored, State.storeReport_frb]⟩

end

/-- Settles O23: a severe report sets the flag, and with the flag set already its SAFE cause is answered, or kept in
INIT. -/
theorem severeReportResponse : Obligations.SevereReportResponse := by
  refine ⟨fun s r severe => ⟨report_response severe, report_second_safe severe, report_second_pending severe,
    fun clear lane => (report_first lane (secondSevere_first clear)).1⟩, fun s r mild lane => ?_⟩
  obtain ⟨mode, flag⟩ := report_first lane (secondSevere_mild mild)
  have none : (r.severity == .severe) = false := beq_false_of_ne mild
  exact ⟨by rw [flag, none, Bool.or_false], mode⟩

end Sys2Proof.Machine

/-! PROOF. CLEAR BANK and CLEAR ALL outside a hold (R171, R181, R182, R202, R204): the reply placed, the banks cleared, and
the Declaration and the recomputation that follow in either order. -/

namespace Sys2Proof.Machine

/-! ## The handings of a clear -/

/-- A clear declares a change of severity or release-permitted, and hands on one of hold-compromised (R202). -/
theorem mem_clearHandings {before after : Banks} {f : State → State} : f ∈ clearHandings before after
    ↔ ((after.severity ≠ before.severity ∨ after.releasePermitted ≠ before.releasePermitted) ∧ f = State.placeDeclaration)
      ∨ (after.holdCompromised ≠ before.holdCompromised ∧ f = State.halRecompute) := by
  rw [clearHandings, List.mem_append]
  refine or_congr ?_ ?_
  · by_cases same : before.severity = after.severity ∧ before.releasePermitted = after.releasePermitted
    · simp [same]
    · rw [if_neg same, List.mem_singleton, and_iff_right]
      rwa [ne_comm, ne_comm (a := after.releasePermitted), ← not_and_or]
  · by_cases same : before.holdCompromised = after.holdCompromised
    · simp [same]
    · rw [if_neg same, List.mem_singleton, and_iff_right (Ne.symm same)]

/-- What the handings of a clear leave of the state u that they begin in: all that those of an entry to RUN leave, with the
bus state and every reply pending. -/
structure State.handsClear (u t : State) : Prop extends u.begins t where
  bus : t.sgi.bus = u.sgi.bus
  replies : u.sgi.retains .reply t.sgi

section
variable {u t : State} {before after : Banks} {f : State → State}

theorem ordered_handsClear (u : State) (n : Nat) : u.handsClear (u.ordered n) :=
  ⟨ordered_begins u n, rfl, .refl .reply u.sgi⟩

variable (calm : u.calm)
include calm

/-- Outside a hold a recomputation places no frame. -/
theorem halRecompute_calm_sgi : u.halRecompute.sgi = u.sgi := (halRecompute_touches calm).keeps .sgi (by decide)

/-- Each handing of a clear leaves what the others leave. -/
theorem clearHandings_handsClear (hf : f ∈ clearHandings before after) (h : u.handsClear t) : u.handsClear (f t) := by
  have still := h.touches.calm calm
  rcases mem_clearHandings.1 hf with ⟨-, rfl⟩ | ⟨-, rfl⟩
  · exact ⟨h.tobegins.trans (placeDeclaration_begins t), (State.placeDeclaration_bus t).trans h.bus,
      h.replies.trans (placeDeclaration_retains TxKind.noConfusion)⟩
  · have list := halRecompute_calm_sgi still
    exact ⟨h.tobegins.trans (halRecompute_begins still), by rw [list, h.bus], by rw [list]; exact h.replies⟩

theorem clearHandings_resultCurrent (hf : f ∈ clearHandings before after) (h : u.handsClear t)
    (current : t.resultCurrent) : (f t).resultCurrent := by
  rcases mem_clearHandings.1 hf with ⟨-, rfl⟩ | ⟨-, rfl⟩
  · exact placeDeclaration_resultCurrent current
  · exact halRecompute_resultCurrent (h.touches.calm calm)

theorem clearHandings_lists (hf : f ∈ clearHandings before after) (h : u.handsClear t)
    (listed : t.sgi.lists .declaration) : (f t).sgi.lists .declaration := by
  rcases mem_clearHandings.1 hf with ⟨-, rfl⟩ | ⟨-, rfl⟩
  · exact placeDeclaration_still_lists t listed
  · rwa [halRecompute_calm_sgi (h.touches.calm calm)]

/-- The handings of a clear, in whatever order: a change of hold-compromised leaves the result current, and one of
severity or release-permitted a Declaration (R171, R202). -/
theorem handAll_clearHandings (bus : u.sgi.bus ≠ .off) (before after : Banks) :
    u.handsClear (handAll (clearHandings before after) u)
      ∧ (after.holdCompromised ≠ before.holdCompromised → (handAll (clearHandings before after) u).resultCurrent)
      ∧ (u.mdc.mode = .run ∨ u.mdc.mode = .safe →
        after.severity ≠ before.severity ∨ after.releasePermitted ≠ before.releasePermitted →
        (handAll (clearHandings before after) u).sgi.lists .declaration) := by
  have keep : ∀ f ∈ clearHandings before after, ∀ t, u.handsClear t → u.handsClear (f t) := fun f hf t =>
    clearHandings_handsClear calm hf
  have start := ordered_handsClear u (clearHandings before after).length
  refine ⟨handAll_keeps keep start, fun changed => ?_, fun on changed => ?_⟩
  · exact handAll_reaches (P := State.resultCurrent) keep (fun f hf t => clearHandings_resultCurrent calm hf)
      (fun t h => halRecompute_resultCurrent (h.touches.calm calm)) (mem_clearHandings.2 (.inr ⟨changed, rfl⟩)) start
  · refine handAll_reaches (P := fun t => t.sgi.lists .declaration) keep (fun f hf t => clearHandings_lists calm hf)
      (fun t h => ?_) (mem_clearHandings.2 (.inl ⟨changed, rfl⟩)) start
    obtain ⟨f, mem, kind, -⟩ := placeDeclaration_mem (s := t) (by rwa [h.touches.mdc]) (by rwa [h.bus])
    exact ⟨f, mem, kind⟩

end

/-! ## The commands -/

/-- The reply OK to the command x with argument a placed, and banks and flag as z gives them. -/
def State.cleared (s : State) (x a : Byte) (z : Frb) : State :=
  { s.withSgi (s.sgi.reply s.number (byte (replyNumber .ok) :: x :: a :: zeroPayload)) with frb := z }

theorem cleared_touches (s : State) (x a : Byte) (z : Frb) : s.touches (s.cleared x a z) [.sgi, .frb] := by
  refine ⟨fun b other => ?_, rfl, rfl, rfl⟩
  cases b
  case sgi | frb => simp at other
  all_goals rfl

theorem bus_of_receives {s : State} (receives : s.receives = true) : s.sgi.bus ≠ .off := by
  intro off
  simp [State.receives, off] at receives

section
variable {s : State} {c : Instr} {x a : Byte} {z : Frb}

/-- Either clear places its reply, clears, and makes the handings of the change (R182, R204). -/
theorem exec_clears (receives : s.receives = true) (room : s.sgi.replies < 3)
    (row : (x = 3 ∧ c = .clearBank s.number [x, a] ∧ ∃ b, bankOfCode a.toNat = some b
        ∧ z = { s.frb with banks := s.frb.banks.put b none })
      ∨ (x = 4 ∧ c = .clearAll s.number [x, a] ∧ z = { banks := Banks.empty, responseActive := false })) :
    exec c s = .next (conclude s (handAll (clearHandings s.frb.banks z.banks) (s.cleared x a z))) := by
  rcases row with ⟨rfl, rfl, b, bank, rfl⟩ | ⟨rfl, rfl, rfl⟩
  · refine next_conclude s ((service_answered receives room (row := (· == 3#8)) rfl _).trans ?_)
    rw [State.clearBankReply, bank]
    dsimp only
    rw [placeReply_placed receives]
    rfl
  · refine next_conclude s ((service_answered receives room (row := (· == 4#8)) rfl _).trans ?_)
    rw [State.clearAllReply, placeReply_placed receives]
    rfl

/-- The reply that a clear places is pending. -/
theorem cleared_replies (s : State) (x a : Byte) (z : Frb) :
    { kind := .reply, id := frameId s.number .reply, data := byte (replyNumber .ok) :: x :: a :: zeroPayload }
      ∈ (s.cleared x a z).sgi.list := mem_insertFrame _ _

end

/-- Settles O57: a clear places its reply and clears, and its handings leave both; an argument that names no bank is
answered and nothing else. -/
theorem clearsEmptyTheBanks : Obligations.ClearsEmptyTheBanks := by
  refine ⟨fun s c x a z steady receives room row => ?_, fun s a steady receives room high => ?_⟩
  · have cleared := cleared_touches s x a z
    obtain ⟨hands, current, declares⟩ := handAll_clearHandings (cleared.calm steady.calm)
      (bus := bus_of_receives receives) s.frb.banks z.banks
    have whole : s.touches _ [.hal, .hpc, .sgi, .frb] := (cleared.trans hands.touches).mono (by simp)
    rw [exec_clears receives room row, whole.conclude steady (by decide)]
    exact ⟨_, rfl, hands.touches.keeps .frb (by decide), ⟨_, hands.replies _ (cleared_replies s x a z) rfl, rfl, rfl⟩,
      fun changed => ended_resultCurrent (current changed), fun outside => declares (steady.modes.resolve_left outside),
      whole.keeps_ended⟩
  · refine reply_alone (row := (· == 3#8)) (answer := s.clearBankReply) (r := .badArgument) (payload := zeroPayload)
      steady receives room rfl rfl ?_
    rw [State.clearBankReply, (bankOfCode_eq_none_iff _).2 high]
    rfl

end Sys2Proof.Machine

/-! PROOF. The queue of waiting commands (log entry 1): the front command runs on the rest of the queue, which no command
touches. -/

namespace Sys2Proof.Machine

@[simp] theorem State.withPending_pending (s : State) (l : List Instr) : (s.withPending l).pending = l := rfl

theorem step_cons {s : State} {c : Instr} {l : List Instr} (h : s.pending = c :: l) :
    step s = exec c (s.withPending l) := by simp [step, h]

/-- Every elementary move leaves the queue as it is, power-on among them (log entry 53). -/
theorem Move.keeps_pending {c : Instr} {s t : State} (m : Move c s t) : t.pending = s.pending := by
  cases m with
  | power => rfl
  | _ => simp

/-- No command puts one in the queue or takes one out of it. -/
theorem exec_pending {c : Instr} {s t : State} (h : exec c s = .next t) : t.pending = s.pending := by
  obtain ⟨u, hu, moves⟩ := exec_moves c s
  obtain rfl : u = t := by simpa [hu] using h
  exact moves.keeps (P := fun v => v.pending = s.pending) (fun _ _ m => m.keeps_pending.trans) rfl

/-- Settles O1: on a queue with a front the step is that command's, which leaves the queue's rest as it finds it. -/
theorem stepRunsFrontCommand : Obligations.StepRunsFrontCommand := fun _ _ _ front =>
  ⟨step_cons front, fun _ run => exec_pending run⟩

end Sys2Proof.Machine
